-- ==== Sys2Proof/Word.lean ====
section
/-! DEFINITION. The word types of the host bus (00_scope.md, "Words, bytes and numbers"). -/
namespace Sys2Proof

/-- A host word: 16 bits, bit 15 the most significant (00_scope.md). -/
abbrev Word := BitVec 16

/-- A byte of tape data or of host memory. -/
abbrev Byte := BitVec 8

end Sys2Proof
end

