-- ==== Sys2Proof/Syntax.lean ====
section
/-! DEFINITION. The commands of the block: one constructor of `Instr` for each row of
spec/opcode_table.json, with what the governing rule says the command carries. -/
namespace Sys2Proof

/-- A transport number, 0 to 3 (00_scope.md, "Names"). -/
inductive Tr where
  | t0 | t1 | t2 | t3
deriving DecidableEq, Repr

/-- One of the two columns, and the reel behind it (chapter 1). -/
inductive Side where
  | supply | takeup
deriving DecidableEq, Repr

/-- One of the three tachometers of a transport (1.2). -/
inductive Tach where
  | capstan | supply | takeup
deriving DecidableEq, Repr

/-- A direction of tape motion (00_scope.md, "Tape measure"). -/
inductive Dir where
  | forward | backward
deriving DecidableEq, Repr

/-- One of the two marker sensors (1.5). -/
inductive Marker where
  | bot | eot
deriving DecidableEq, Repr

/-- One of the two panel buttons (R13). -/
inductive Button where
  | load | unload
deriving DecidableEq, Repr

/-- A sampled quadrature phase pair; `true` is high (1.2). -/
structure Phases where
  a : Bool
  b : Bool
deriving DecidableEq, Repr

/-- A sampled pattern of the five ports of a column: bit 0 is P1, bit 4 is P5, 1 reads IN (1.3). -/
abbrev Pattern := BitVec 5

/-- What the head interface gives at one capstan count (5.2, R75, R80): the envelope sample, the number of
transition pulses since the step before, whether a sync mark is recognised on this step, and the bytes the
decoder assembles on it, in the order they pass the head. -/
structure HeadSample where
  envelope : Byte
  pulses : Nat
  sync : Bool
  bytes : List Byte
deriving DecidableEq, Repr

/-- The first samples of one transport's inputs after power-on (R15); `true` is PRESENT, MARKER, RING, ON or
PRESSED. -/
structure FirstSamples where
  capstanPhases : Phases
  supplyPhases : Phases
  takeupPhases : Phases
  supplyPorts : Pattern
  takeupPorts : Pattern
  supplyVacuum : Bool
  takeupVacuum : Bool
  tapePresent : Bool
  bot : Bool
  eot : Bool
  writeRing : Bool
  online : Bool
  loadButton : Bool
  unloadButton : Bool
deriving DecidableEq, Repr

/-- The first samples after power-on of the four transports and of the two lines (R15, R177); `true` is
ASSERTED. -/
structure PowerOnSamples where
  s0 : FirstSamples
  s1 : FirstSamples
  s2 : FirstSamples
  s3 : FirstSamples
  pwarn : Bool
  clear : Bool
deriving DecidableEq, Repr

/-- The commands. A command named after the acceptance of an input level (`pwarnAssertion`, `zoneEvent`, …)
brings `n` consecutive identical samples of that input; the event itself comes about when the rule's count
of identical samples is reached (log 1). -/
inductive Instr where
  /-- POWER_ON (R181). -/
  | powerOn (first : PowerOnSamples)
  /-- MAIN_POWER_LOSS (R180). `cut` is the check word left on VBAK when the loss cuts off a Map Store change. -/
  | mainPowerLoss (cut : Option Word)
  /-- BACKUP_FAILURE (R180). -/
  | backupFailure
  /-- PWARN_ASSERTION (R178): `n` samples of PWARN that read asserted. -/
  | pwarnAssertion (n : Nat)
  /-- PWARN_RELEASE (R179): `n` samples of PWARN that read released. -/
  | pwarnRelease (n : Nat)
  /-- CONTROLLER_CLEAR (R182): `n` samples of CLEAR that read asserted. -/
  | controllerClear (n : Nat)
  /-- ORDER_POINTER_WRITE (R137): a host write of `value` to the order pointer of transport `t`. -/
  | orderPointerWrite (t : Tr) (value : Word)
  /-- IGNORED_BUS_WRITE (R136): a host write to the summary word or to an offset above 4. -/
  | ignoredBusWrite (offset : Nat) (value : Word)
  /-- ARBITER_GRANT (R149). -/
  | arbiterGrant
  /-- BUS_TIMEOUT (R150): the transfer under way ends after `done` words; a read has brought `words`. -/
  | busTimeout (done : Nat) (words : List Word)
  /-- ORDER_FETCH_COMPLETE (R138) with the 12 words of the order block. -/
  | orderFetchComplete (words : List Word)
  /-- TERMINATION_WRITE_COMPLETE (R142). -/
  | terminationWriteComplete
  /-- LOAD (R20): Transport Control takes the order dispatched to it. -/
  | load (t : Tr)
  /-- UNLOAD (R26). -/
  | unload (t : Tr)
  /-- CLEAR_FAULT (R33). -/
  | clearFault (t : Tr)
  /-- SET_PROFILE (R56). -/
  | setProfile (t : Tr)
  /-- PROFILE_RECORD_READ (R57) with the 14 words of the profile record. -/
  | profileRecordRead (words : List Word)
  /-- SET_DETECTOR (R89). -/
  | setDetector (t : Tr)
  /-- DETECTOR_RECORD_READ (R90) with the 4 words of the detector record. -/
  | detectorRecordRead (words : List Word)
  /-- READ (R159). -/
  | read (t : Tr)
  /-- WRITE (R162). -/
  | write (t : Tr)
  /-- WRITE_FILE_MARK (R162). -/
  | writeFileMark (t : Tr)
  /-- ERASE (R166). -/
  | erase (t : Tr)
  /-- SPACE_FORWARD (R167). -/
  | spaceForward (t : Tr)
  /-- SPACE_BACKWARD (R167). -/
  | spaceBackward (t : Tr)
  /-- ENTER_MARK (R99). -/
  | enterMark (t : Tr)
  /-- AMEND_MARK (R101). -/
  | amendMark (t : Tr)
  /-- RETIRE_MARK (R102). -/
  | retireMark (t : Tr)
  /-- LOOK_UP_MARK (R103). -/
  | lookUpMark (t : Tr)
  /-- TAG_WORDS_READ (R98) with the tag words of the map order. -/
  | tagWordsRead (words : List Word)
  /-- MAP_ENTRY_RECORD_WRITTEN (R103). -/
  | mapEntryRecordWritten
  /-- LOCATE_MARK (R117). -/
  | locateMark (t : Tr)
  /-- LOCATE_BLOCK (R128). -/
  | locateBlock (t : Tr)
  /-- REWIND (R130). -/
  | rewind (t : Tr)
  /-- DUMP_MAP (R171). -/
  | dumpMap (t : Tr)
  /-- LOAD_MAP (R172). -/
  | loadMap (t : Tr)
  /-- EXCHANGE_AREA_GRANT (R170). -/
  | exchangeAreaGrant
  /-- DUMP_MAP_BURST_COMPLETE (R171). -/
  | dumpMapBurstComplete
  /-- LOAD_MAP_BURST_COMPLETE (R172) with the words of the burst. -/
  | loadMapBurstComplete (words : List Word)
  /-- SENSE (R147). -/
  | sense (t : Tr)
  /-- SENSE_RECORD_WRITTEN (R147). -/
  | senseRecordWritten
  /-- SET_NOTICE_MASK (R148). -/
  | setNoticeMask (t : Tr)
  /-- READ_BURST_COMPLETE (R155). -/
  | readBurstComplete
  /-- WRITE_BURST_COMPLETE (R156) with the words of the burst. -/
  | writeBurstComplete (words : List Word)
  /-- TACHOMETER_COUNT (R1): the phase pair now sampled, the 50 ns clock cycles since the transport's count
  before it, and the head samples of the capstan counts it may give (two on an illegal transition). -/
  | tachometerCount (t : Tr) (tach : Tach) (phases : Phases) (cycles : Nat) (head1 head2 : HeadSample)
  /-- PITCH_MEASURED (R62). -/
  | pitchMeasured (t : Tr) (reel : Side)
  /-- ZONE_EVENT (R5): `n` samples of a column's pattern. -/
  | zoneEvent (t : Tr) (column : Side) (ports : Pattern) (n : Nat)
  /-- COLUMN_SENSOR_FAULT (R6): `n` samples of a column's pattern. -/
  | columnSensorFault (t : Tr) (column : Side) (ports : Pattern) (n : Nat)
  /-- SENSOR_RESTORED (R6): `n` samples of a column's pattern. -/
  | sensorRestored (t : Tr) (column : Side) (ports : Pattern) (n : Nat)
  /-- VACUUM_EVENT (R7): `n` samples of a column's vacuum switch. -/
  | vacuumEvent (t : Tr) (column : Side) (present : Bool) (n : Nat)
  /-- TAPE_PRESENT_EVENT (R9): `n` samples of the tape-present sensor. -/
  | tapePresentEvent (t : Tr) (present : Bool) (n : Nat)
  /-- MARKER_EDGE (R10): `n` samples of a marker sensor. -/
  | markerEdge (t : Tr) (marker : Marker) (level : Bool) (n : Nat)
  /-- WRITE_RING_CHANGE (R11): `n` samples of the write ring switch. -/
  | writeRingChange (t : Tr) (ring : Bool) (n : Nat)
  /-- ONLINE_EVENT (R19): `n` samples of the ONLINE switch. -/
  | onlineEvent (t : Tr) (on : Bool) (n : Nat)
  /-- LOAD_PRESSED (R25): `n` samples of the LOAD button that read pressed. -/
  | loadPressed (t : Tr) (n : Nat)
  /-- UNLOAD_PRESSED (R25): `n` samples of the UNLOAD button that read pressed. -/
  | unloadPressed (t : Tr) (n : Nat)
  /-- LOAD_PHASE_TIMEOUT (R21). -/
  | loadPhaseTimeout (t : Tr)
  /-- UNLOAD_PHASE_TIMEOUT (R27). -/
  | unloadPhaseTimeout (t : Tr)
  /-- STALL (R55). -/
  | stall (t : Tr)
  /-- CAPSTAN_TARGET_SPEED_REACHED (R37). -/
  | capstanTargetSpeedReached (t : Tr)
  /-- STOP_POINT_REACHED (R38). -/
  | stopPointReached (t : Tr)
  /-- HOLD_OVER_EXPIRY (R41). -/
  | holdOverExpiry (t : Tr)
  /-- CAPSTAN_STANDSTILL (R37). -/
  | capstanStandstill (t : Tr)
  /-- SHUTTLE_LIMIT_REACHED (R50). -/
  | shuttleLimitReached (t : Tr)
  /-- SHUTTLE_BRAKE_POINT (R50). -/
  | shuttleBrakePoint (t : Tr)
  /-- SHUTTLE_END (R51). -/
  | shuttleEnd (t : Tr)
  /-- UNTHREAD_WIND_STOPPED (R48). -/
  | unthreadWindStopped (t : Tr)
  /-- RECORD_QUALIFIED (R76). -/
  | recordQualified (t : Tr)
  /-- RECORD_END_DETECTED (R77). -/
  | recordEndDetected (t : Tr)
  /-- BLANK (R78). -/
  | blank (t : Tr)
  /-- SCAN_BUDGET_EXCEEDED (R123). -/
  | scanBudgetExceeded (t : Tr)
  /-- FORMATION_START (R86). -/
  | formationStart (t : Tr)
  /-- POSTAMBLE_COMPLETE (R86). -/
  | postambleComplete (t : Tr)
  /-- WRITTEN_RECORD_REPORT (R88). -/
  | writtenRecordReport (t : Tr)
  /-- WRITE_START_TIMEOUT (R163). -/
  | writeStartTimeout (t : Tr)
  /-- ERASE_LENGTH_REACHED (R166). -/
  | eraseLengthReached (t : Tr)
  /-- READ_DRAIN_COMPLETE (R160). -/
  | readDrainComplete (t : Tr)
  /-- CLEAR_RELEASE (R182): `n` samples of CLEAR that read released. -/
  | clearRelease (n : Nat)
  /-- BUTTON_RELEASED (R13): `n` samples of a button that read released. -/
  | buttonReleased (t : Tr) (button : Button) (n : Nat)
deriving DecidableEq, Repr

end Sys2Proof
end

