-- ==== Sys2Proof/Decode.lean ====
section
/-! DEFINITION. The command that a word spells by the bits of spec/opcode_table.json. No row of the table
gives any bits (its "fields" are empty), so no word spells a command: the block takes its commands as events,
not as encoded words. -/
namespace Sys2Proof

/-- The command spelled by the word `w` of `nbits` bits: none, since the table gives no row any bits. -/
def decodeTableWord (_nbits _w : Nat) : Option Instr :=
  none

end Sys2Proof
end

