-- ==== Sys2Proof/Config.lean ====
section
/-! DEFINITION. What the manual leaves without a value: the free values (notes/assumptions/4.md). -/
namespace Sys2Proof

/-- The value of a host-visible word for which the manual states none: word number `n` in the order in
which such words arise. It has no body, so a statement holds for every value of it (log 4). -/
opaque Config.freeWord : Nat → Word

end Sys2Proof
end

