-- ==== Sys2Proof/Machine/Records.lean ====
section
/-! DEFINITION. The records that the blocks of the controller keep, as the chapters' state tables give them.
A field whose docstring says "the model's" is what a rule makes the block remember without naming it a field. -/
namespace Sys2Proof.Machine

/-- One value for each of the four transports. -/
structure Four (α : Type) where
  a0 : α
  a1 : α
  a2 : α
  a3 : α
deriving DecidableEq, Repr

/-! ### Chapter 1: the Sensing Interface -/

/-- A tachometer's decoder: the last sampled phase pair and the sign of its last count, `true` for positive
(R1). -/
structure TachDecoder where
  phases : Phases
  lastPositive : Bool
deriving DecidableEq, Repr

/-- A loop zone (R4, R6). -/
inductive Zone where
  | z0 | z1 | z2 | z3 | z4 | unknown
deriving DecidableEq, Repr

/-- The column part of the Sensing Interface (R5, R6). `sampled` with `identical` is the filter: the pattern last
sampled and how often in a row, counted up to 4. -/
structure Column where
  accepted : Pattern
  zone : Zone
  valid : Bool
  sampled : Pattern
  identical : Nat
  faultCount : Nat
deriving DecidableEq, Repr

/-- A two-valued filtered input: its level and the count of identical samples of the other level. -/
structure Level where
  level : Bool
  count : Nat
deriving DecidableEq, Repr

/-- A marker sensor (R10): filtered level, count of identical samples of the other level, and the two lag sums. -/
structure MarkerSensor where
  level : Bool
  count : Nat
  capstanLag : Int
  takeupLag : Int
deriving DecidableEq, Repr

/-- The Sensing Interface of one transport (chapter 1). -/
structure Sensing where
  capstanTach : TachDecoder
  supplyTach : TachDecoder
  takeupTach : TachDecoder
  supplyPhase : Nat
  takeupPhase : Nat
  supplyColumn : Column
  takeupColumn : Column
  supplyVacuum : Level
  takeupVacuum : Level
  tapePresent : Level
  bot : MarkerSensor
  eot : MarkerSensor
  writeRing : Level
  online : Level
  loadButton : Level
  unloadButton : Level
  pathGood : Bool
  writeEnable : Bool
deriving DecidableEq, Repr

/-- A marker edge event (R10). `lag` is in counts of the governing tachometer, the capstan's when
`capstanGoverns`. -/
structure EdgeEvent where
  marker : Marker
  arrive : Bool
  direction : Dir
  lag : Int
  capstanGoverns : Bool
  zeroEdge : Bool
deriving DecidableEq, Repr

/-! ### Chapter 8: conditions, indicators, results -/

/-- The termination conditions (8.8). -/
inductive Condition where
  | normal | fileMark | blankTape | endOfTape | loadPoint | dataCheck | dataLate | writeCheck | notReady
  | illegalOrder | parameter | writeProtected | noSequence | positionLost | noSuchMark | duplicate | mapFull
  | beyondEnd | notFound | tableInvalid | volumeMismatch | faultStop | powerStop | busError | faultPersists
  | noBlock | loadFailed
deriving DecidableEq, Repr

/-- The indicators (8.8). -/
inductive Indicator where
  | length | markMoved | mapChanged | mapNotUpdated | parameterAdjusted | unstamped | foreignStamp
  | sequenceAdopted | noiseSeen | reelSlip | blockDamaged
deriving DecidableEq, Repr

/-- The attention conditions, in the order of the attention set layout (R146, 8.8). -/
inductive Attention where
  | ready | notReady | fault | power | protocol
deriving DecidableEq, Repr

/-! ### Chapter 2: Transport Control -/

/-- The transport states (R17). -/
inductive TState where
  | unloaded | threading | seekingLoadPoint | ready | inMotion | stopping | unloading | faulted | powerHeld
deriving DecidableEq, Repr

/-- The fault kinds (2.1). -/
inductive FaultKind where
  | none | vacuum | loop | tapePath | sensor | stall
deriving DecidableEq, Repr

/-- The load or unload under way (2.1). -/
inductive Operation where
  | none | orderLoad | panelLoad | orderUnload | panelUnload
deriving DecidableEq, Repr

/-- The motion permissions (R17). -/
inductive Permission where
  | none | thread | creep | full | stop
deriving DecidableEq, Repr

/-- The model's: where the search for the load point stands (R22). -/
inductive SeekStep where
  | idle | backing | forward | atPoint
deriving DecidableEq, Repr

/-- A volume tag: six characters, the first in the most significant byte (6.1). -/
abbrev Tag := BitVec 48

/-- The record of Transport Control (2.1). -/
structure Control where
  state : TState
  online : Bool
  offlinePending : Bool
  fault : FaultKind
  stopUnderWay : Bool
  pathIntact : Bool
  operation : Operation
  loadTag : Option Tag
  autoFile : Bool
  keep : Bool
  /-- The phase timer: clock cycles of 50 ns left (log 6). -/
  timer : Nat
  pump : Bool
  permission : Permission
  /-- The model's: both columns have reached vacuum PRESENT in this THREADING (R21). -/
  vacuumReached : Bool
  /-- The model's: the search for the load point (R22). -/
  seek : SeekStep
  /-- The model's: the condition a failing ORDER LOAD ends with; absent when no termination is written (R23). -/
  failCondition : Option Condition
  /-- The model's: the controlled stop under way was begun by CLEAR (R35). -/
  stopByClear : Bool
  /-- The model's: the motion of UNLOADING is being stopped after CLEAR or abandonment (R27). -/
  unloadEnding : Bool
  /-- The model's: entries retired when the unload dealt with the reel record (R26). -/
  retired : Nat
deriving DecidableEq, Repr

/-! ### Chapter 3: the Drive Unit -/

/-- The capstan phases (3.1). -/
inductive CapstanPhase where
  | stopped | accel | run | decel
deriving DecidableEq, Repr

/-- The drive modes (3.1, 3.5). -/
inductive DriveMode where
  | halted | capstan | shuttle | thread | unthread
deriving DecidableEq, Repr

/-- The shuttle phases (3.1). -/
inductive ShuttlePhase where
  | none | accel | run | brake
deriving DecidableEq, Repr

/-- The stop kinds (3.1). -/
inductive StopKind where
  | none | controlled | emergency | power
deriving DecidableEq, Repr

/-- The block whose request the motion serves (3.1). -/
inductive Requester where
  | none | locate | transfer | transport
deriving DecidableEq, Repr

/-- The model's: what ended the motion under way, for the report at its standstill (R38, R50, R51). -/
inductive EndedBy where
  | none | target | limit | bot
deriving DecidableEq, Repr

/-- The speeds of the profile that a RUN request names, V_rw or V_fs (3.3, 3.7). -/
inductive RunSpeed where
  | rw | fs
deriving DecidableEq, Repr

/-- A motion request (3.3, R47): RUN, SHUTTLE, or the creep that Transport Control asks for. A RUN names its speed, so
that one that waits begins at the speed of the profile then active (R57). -/
inductive MotionRequest where
  | run (dir : Dir) (speed : RunSpeed) (stopTarget : Option Int) (by_ : Requester)
  | shuttle (dir : Dir) (target : Int)
  | creep (dir : Dir) (limit : Option Int) (unload : Bool)
deriving DecidableEq, Repr

/-- A drive profile (3.7), in the units of the table. -/
structure Profile where
  vRw : Nat
  vFs : Nat
  vSh : Nat
  aC : Nat
  aE : Nat
  aR : Nat
  gS : Nat
  gT : Nat
  sMax : Nat
  k : Nat
  h : Nat
  stallWindow : Nat
  threshold : Nat
deriving DecidableEq, Repr

/-- The state of the Drive Unit (3.1). A speed is held in whole steps per second with a remainder below one step
per second, in units of 1/20,000,000 (log 6). -/
structure Drive where
  phase : CapstanPhase
  command : Int
  commandRem : Nat
  engaged : Bool
  mode : DriveMode
  dir : Dir
  targetSpeed : Nat
  stopTarget : Option Int
  holdOver : Option Nat
  pending : Option MotionRequest
  shuttlePhase : ShuttlePhase
  shuttleSpeed : Nat
  shuttleRem : Nat
  shuttleTarget : Option Int
  stopKind : StopKind
  supplyCommand : Int
  takeupCommand : Int
  supplyReleased : Bool
  takeupReleased : Bool
  requester : Requester
  /-- The stall timer in clock cycles (log 6). -/
  stallTimer : Nat
  /-- The tachometer the stall watchdog watches, absent while it does not run (R55). -/
  watched : Option Tach
  /-- The model's: the stall of this run of the timer has been reported (R55). -/
  stallReported : Bool
  active : Profile
  staged : Option Profile
  /-- The model's: what ended the motion under way. -/
  endedBy : EndedBy
  /-- The model's: a creep is under way, and whether it is the unload creep (R47, R48). -/
  creep : Option Bool
  /-- The model's: tape speed of the unthreading wind, and its remainder (R48). -/
  windSpeed : Nat
  windRem : Nat
  /-- The model's: the unthreading wind is being brought to 0 (R48). -/
  windStopping : Bool
deriving DecidableEq, Repr

/-! ### Chapter 4: Position Reckoning -/

/-- The anchor states (R60). -/
inductive Anchor where
  | anchored | drifted | lost
deriving DecidableEq, Repr

/-- A pitch measurement window (R61). -/
structure Window where
  dir : Option Dir
  reelCounts : Int
  capstanSteps : Int
deriving DecidableEq, Repr

/-- The kind of a record on tape (5.4). -/
inductive RecordKind where
  | data | fileMark
deriving DecidableEq, Repr

/-- The last-block record (R72). -/
structure LastBlock where
  block : Option Nat
  start : Int
  length : Nat
  kind : RecordKind
  stamped : Bool
  anchor : Anchor
  bound : Nat
deriving DecidableEq, Repr

/-- The reckoning record (4.1). The drift bound is absent (`none`) under LOST. -/
structure Reckoning where
  position : Int
  fraction : Nat
  anchor : Anchor
  bound : Option Nat
  mode : DriveMode
  moving : Bool
  supplyPitch : Nat
  takeupPitch : Nat
  supplyWindow : Window
  takeupWindow : Window
  nextBlock : Nat
  nextKnown : Bool
  fileNumber : Nat
  lastBlock : Option LastBlock
  eot : Option Int
deriving DecidableEq, Repr

/-! ### Chapter 5: the Read Channel -/

/-- Detector settings (5.7). -/
structure Settings where
  tStart : Nat
  tEnd : Nat
  dMin : Nat
  trim : Int
deriving DecidableEq, Repr

/-- The detector modes (R79). -/
inductive DetectorMode where
  | decode | spacing
deriving DecidableEq, Repr

/-- The activities of the channel (5.6). -/
inductive Activity where
  | listen | erasing | forming
deriving DecidableEq, Repr

/-- The detector phases (R76). -/
inductive DetectorPhase where
  | hunt | qualify | inRecord | trail
deriving DecidableEq, Repr

/-- The record in progress (5.3). -/
structure RecordInProgress where
  dir : Dir
  mode : DetectorMode
  start : Int
  fall : Int
  qualify : Nat
  low : Nat
  locked : Bool
  bytes : List Byte
  sum : Word
  /-- The model's: bytes met since the fall position, which stay part of the record if it goes on (R76, R80). -/
  trailBytes : List Byte
  /-- The model's: what lock and `closed` become if the record goes on from the fall position (R76, R80). -/
  trailLocked : Bool
  trailClosed : Bool
  /-- The model's: the sync mark that opens the far amble has been met (R80). -/
  closed : Bool
  /-- The model's: the Transfer Unit asked for the next record's data before this record opened (R83). -/
  wanted : Bool
  /-- The model's: data bytes handed to the Transfer Unit so far (R83). -/
  handed : Nat
deriving DecidableEq, Repr

/-- The phases of writing (5.6); `after` is the gap that follows a complete postamble (R88). -/
inductive WritePhase where
  | waiting | preamble | stamp | data | check | postamble | after
deriving DecidableEq, Repr

/-- A formation (5.6). `waiting` is a form request whose preamble has not begun (log 52). -/
structure Formation where
  block : Nat
  file : Nat
  kind : RecordKind
  volumeCheck : Byte
  declared : Nat
  phase : WritePhase
  /-- Steps written of the preamble or the postamble, or passed after the postamble. -/
  ambleSteps : Nat
  /-- Bytes written of the stamp or of the check. -/
  partBytes : Nat
  written : Nat
  sum : Word
  /-- The bytes put on tape so far: stamp, data and check (5.5, R86, R87). -/
  bytes : List Byte
  start : Int
  /-- Steps written in all. -/
  steps : Nat
  fill : Bool
  cut : Bool
  /-- Host bytes written before any fill (R164). -/
  hostBytes : Nat
  /-- Records of 82 steps or more closed since the preamble start, and whether the last one read back as
  written (R88). -/
  readBacks : Nat
  readBackGood : Bool
  /-- The model's: the last forward step found every condition of R86 holding. -/
  due : Bool
  /-- The model's: a step was written with the write enable line off (R11, R88). -/
  spoiled : Bool
deriving DecidableEq, Repr

/-- The state of the hand-over of data bytes (R83). -/
inductive HandOver where
  | off | asked | handing
deriving DecidableEq, Repr

/-- The Read Channel (5.1). The blank watch is absent when off. -/
structure Channel where
  settings : Settings
  pendingSettings : Option Settings
  mode : DetectorMode
  activity : Activity
  writeGate : Bool
  phase : DetectorPhase
  record : Option RecordInProgress
  blankWatch : Option (Requester × Nat)
  formation : Option Formation
  handOver : HandOver
deriving DecidableEq, Repr

/-- Why a passage report carries no stamp (R81). -/
inductive NoStamp where
  | spaced | absent | bad | foreign
deriving DecidableEq, Repr

/-- The stamp of a passage report (R81). -/
inductive Stamp where
  | decoded (block file : Nat) (kind : RecordKind)
  | none (reason : NoStamp)
deriving DecidableEq, Repr

/-- The record check result (R82). -/
inductive CheckResult where
  | good | bad | notChecked
deriving DecidableEq, Repr

/-- A passage report (R84). -/
structure Passage where
  dir : Dir
  start : Int
  length : Nat
  dataLength : Option Nat
  stamp : Stamp
  check : CheckResult
deriving DecidableEq, Repr

/-- A written-record report (R88). -/
structure WrittenReport where
  block : Nat
  file : Nat
  kind : RecordKind
  start : Int
  length : Nat
  dataLength : Nat
  hostBytes : Nat
  readBack : CheckResult
  endedEarly : Bool
deriving DecidableEq, Repr

/-! ### Chapter 6: the Map Store -/

/-- The kinds of an entry (6.2). -/
inductive EntryKind where
  | checkpoint | note | file
deriving DecidableEq, Repr

/-- An entry (6.2). `bound` is absent for EXACT. `slot` is the pool slot that holds it (R93). -/
structure Entry where
  mark : Nat
  kind : EntryKind
  block : Nat
  position : Int
  recordLength : Nat
  bound : Option Nat
  tag : List Word
  slot : Nat
deriving DecidableEq, Repr

/-- The states of a reel record (6.1). -/
inductive ReelState where
  | none | active | held
deriving DecidableEq, Repr

/-- A reel record (6.1). -/
structure ReelRecord where
  state : ReelState
  tag : Option Tag
  volumeCheck : Byte
  eod : Option Nat
  autoFile : Bool
  entries : List Entry
deriving DecidableEq, Repr

/-- The retained store: the four reel records and the pool free count (6.1, 11.1). -/
structure MapStore where
  reels : Four ReelRecord
  poolFree : Nat
deriving DecidableEq, Repr

/-! ### Chapter 7: the Locate Unit -/

/-- The orders of the locate plan (7.1). -/
inductive LocateOrder where
  | none | locateMark | locateBlock | rewind | unloadRewind
deriving DecidableEq, Repr

/-- The phases of the locate plan (7.1). -/
inductive LocatePhase where
  | idle | settling | shuttle | fastSpace | decode | countSpace | backCount | standOff | rewinding
deriving DecidableEq, Repr

/-- The rewind legs (7.1). -/
inductive RewindLeg where
  | none | shuttle | back | forward | correct
deriving DecidableEq, Repr

/-- The model's: what a phase of the Locate Unit is waiting for. -/
inductive LocateStep where
  /-- waiting for standstill before the motion of the phase -/
  | awaiting
  /-- the motion of the phase is under way -/
  | moving
  /-- the last move of the phase is being stopped or made -/
  | finishing
  /-- stopping in order to plan or approach again -/
  | retrying
deriving DecidableEq, Repr

/-- The locate plan (7.1). `aim` is an entry position with its bound. -/
structure Locate where
  order : LocateOrder
  phase : LocatePhase
  leg : RewindLeg
  target : Option Nat
  mark : Option Nat
  aim : Option (Int × Nat)
  standOff : Int
  beta : Nat
  reversals : Nat
  backCount : Nat
  budget : Option Nat
  travel : Nat
  countAccepted : Bool
  targetStart : Option Int
  corrected : Bool
  /-- The model's: what the phase waits for. -/
  step : LocateStep
  /-- The model's: a failure found while the tape moves, to be ended at the standstill (R133, R135). -/
  failing : Option Condition
  /-- The model's: the outcome of an UNLOAD REWIND for Transport Control: complete, or a condition (R131). -/
  rewindOutcome : Option Condition
deriving DecidableEq, Repr

/-! ### Chapter 9: the Transfer Unit -/

/-- The orders of the Transfer Unit with their operands (9.1). -/
inductive TransferOrder where
  | none
  | read (noTransfer : Bool)
  | write (count : Nat)
  | writeFileMark
  | erase (length : Nat)
  | space (dir : Dir) (fast : Bool)
deriving DecidableEq, Repr

/-- The phases of the Transfer Unit (9.1). -/
inductive TransferPhase where
  | idle | settling | running | writing | draining | ending
deriving DecidableEq, Repr

/-- The Transfer Unit (9.1). -/
structure Transfer where
  order : TransferOrder
  phase : TransferPhase
  dir : Dir
  recordsLeft : Nat
  roomLeft : Nat
  hostAddress : Nat
  resultBytes : Nat
  fifo : List Byte
  dropping : Bool
  busFailed : Bool
  skipFirst : Bool
  gapExtension : Nat
  erased : Nat
  held : Option Condition
  own : BitVec 16
  /-- The model's: no further data requests for the order (R163, R164, R168). -/
  quiet : Bool
  /-- The model's: room left, result bytes and host address to which a record that gives its bytes back returns: as they
  were when its handing began, or at a stop or a bus timeout since (R159, R168, R169; log 78). -/
  mark : Nat × Nat × Nat
  /-- The model's: bytes of the record being handed that joined the FIFO, but for those that had left it when
  `mark` was taken anew (R159; log 78). -/
  joined : Nat
  /-- The model's: how many of the oldest bytes of the FIFO belong to each record whose handing has ended and after
  which another has begun (R155; log 65). -/
  ends : List Nat
  /-- The model's: the bytes of a write burst under way are to be discarded (R164). -/
  spilling : Bool
  /-- The model's: the channel has told the unit that it refused the form request (R86; log 66). -/
  formRefused : Bool
deriving DecidableEq, Repr

/-! ### Chapter 8: the Order Port and the Arbiter -/

/-- The pointer states (8.2). -/
inductive PointerState where
  | idle | inFlight | terminating | completePending
deriving DecidableEq, Repr

/-- The model's: how far an order in flight has got (R138, R139). -/
inductive OrderStage where
  | fetching | dispatched | taken
deriving DecidableEq, Repr

/-- The copy of an order: words 0 to 6 of its block (R138). -/
structure OrderCopy where
  w0 : Word
  w1 : Word
  w2 : Word
  w3 : Word
  w4 : Word
  w5 : Word
  w6 : Word
deriving DecidableEq, Repr

/-- What an owner reports at the end of an order (R141): condition, result count, words 8 and 9, and for a
LOCATE MARK the entry's block number. -/
structure OrderResult where
  condition : Condition
  count : Nat
  value : BitVec 32
  markBlock : Option Nat
deriving DecidableEq, Repr

/-- The Order Port's record of one transport (8.2 to 8.5). -/
structure Port where
  pointer : PointerState
  index : BitVec 13
  terminationLost : Bool
  copy : Option OrderCopy
  stage : OrderStage
  indicators : BitVec 16
  attention : BitVec 5
  noticeMask : BitVec 5
  /-- The result words 7 to 11 as last formed (R141). -/
  result : List Word
  /-- An emergency stop has begun while the order was in flight (R143). -/
  stopNotice : Bool
  /-- A termination held until the emergency stop is complete (R143). -/
  held : Option OrderResult
  /-- An emergency stop has begun while the pointer was TERMINATING (R143). -/
  faultAfter : Bool
  /-- Conditions taken out of the attention set by a SENSE whose record write has not ended (R147). -/
  senseTaken : BitVec 5
deriving DecidableEq, Repr

/-- The kinds of transfer (8.6). -/
inductive TransferKind where
  | fetch | termination | profile | detector | tagWords | entryRecord | senseRecord
  | readBurst | writeBurst | dumpBurst | loadBurst
deriving DecidableEq, Repr

/-- A transfer: its kind, byte address in host memory, length in words, for a write the words, for a read burst how
many bytes each of its words carries (those of a record that has given its bytes back no longer among them, R159), and
whether its outcome is delivered to no one (R144, R150). -/
structure BusTransfer where
  kind : TransferKind
  address : Nat
  length : Nat
  words : List Word
  sizes : List Nat
  orphan : Bool
deriving DecidableEq, Repr

/-- The Arbiter (R149). A waiting data request names its kind; its words are formed at the grant (log 12). -/
structure Arbiter where
  control : Four (Option BusTransfer)
  data : Four (Option TransferKind)
  controlLast : Tr
  dataLast : Tr
  current : Option (Tr × BusTransfer)
deriving DecidableEq, Repr

/-! ### Chapters 6 and 10: map orders under way -/

/-- The stage of a map order under way (R98, R170 to R172). -/
inductive MapOrder where
  | none | tagWords | entryWrite | exchange
deriving DecidableEq, Repr

/-- The exchange area (R170). `table` is the copy of a DUMP MAP, or the words that a LOAD MAP has read; `written`
counts the words of a dump that stand in host memory. -/
structure Exchange where
  holder : Option Tr
  waiting : Four Bool
  last : Tr
  table : List Word
  written : Nat
deriving DecidableEq, Repr

/-! ### Chapter 11: the Power Monitor -/

/-- The Power Monitor (11.1). `verdict` is `true` for VALID, `latch` for SET. -/
structure PowerMonitor where
  pwarn : Level
  released : Four Bool
  clear : Level
  clearArmed : Bool
  checkWord : Word
  latch : Bool
  verdict : Bool
deriving DecidableEq, Repr

/-- One transport: one instance of each per-transport block. -/
structure Transport where
  sense : Sensing
  ctl : Control
  drive : Drive
  reck : Reckoning
  chan : Channel
  loc : Locate
  xfer : Transfer
  port : Port
  mapOrder : MapOrder
deriving DecidableEq, Repr

end Sys2Proof.Machine
end

