-- ==== Sys2Proof/Machine/Bits.lean ====
section
/-! DEFINITION. Small arithmetic that the rules share: rounding division, clamping, halves of words, volume
checks, and the four-transport vectors. -/
namespace Sys2Proof.Machine

/-- Division rounding toward positive infinity (00_scope.md, "Words, bytes and numbers"). -/
def ceilDiv (a b : Nat) : Nat :=
  (a + (b - 1)) / b

/-- A value clamped into a range takes the nearer end of it (00_scope.md). -/
def clampNat (lo hi v : Nat) : Nat :=
  if v < lo then lo else if hi < v then hi else v

/-- A signed value clamped in magnitude (R44). -/
def clampMagnitude (m : Nat) (v : Int) : Int :=
  if (m : Int) < v then m else if v < -(m : Int) then -(m : Int) else v

/-- The more significant byte of a word: the earlier one in a data stream (00_scope.md). -/
def highByte (w : Word) : Byte := w.extractLsb' 8 8

/-- The less significant byte of a word. -/
def lowByte (w : Word) : Byte := w.extractLsb' 0 8

/-- Two bytes of a stream as one word, the first in the high half (00_scope.md). -/
def wordOf (hi lo : Byte) : Word := hi ++ lo

/-- Two words as one value, the more significant in the lower-numbered word (00_scope.md). -/
def longOf (hi lo : Word) : BitVec 32 := hi ++ lo

/-- The more significant word of a two-word value. -/
def highWord (v : BitVec 32) : Word := v.extractLsb' 16 16

/-- The less significant word of a two-word value. -/
def lowWord (v : BitVec 32) : Word := v.extractLsb' 0 16

/-- A signed whole number as a two-word value (R141). -/
def signedLong (i : Int) : BitVec 32 := BitVec.ofInt 32 i

/-- An unsigned whole number as a two-word value (R141). -/
def unsignedLong (n : Nat) : BitVec 32 := BitVec.ofNat 32 n

/-- The words of a list of stream bytes; an odd byte at the end leaves as a word with low half 0 (R155). -/
def wordsOfBytes : List Byte → List Word
  | [] => []
  | [b] => [wordOf b 0]
  | b :: c :: rest => wordOf b c :: wordsOfBytes rest

/-- The stream bytes of a list of words. -/
def bytesOfWords : List Word → List Byte
  | [] => []
  | w :: rest => highByte w :: lowByte w :: bytesOfWords rest

/-- The sum of bytes modulo 65,536 (R82). -/
def byteSum : List Byte → Word
  | [] => 0
  | b :: rest => b.setWidth 16 + byteSum rest

/-- The sum of bytes modulo 256 (R81). -/
def byteSum8 : List Byte → Byte
  | [] => 0
  | b :: rest => b + byteSum8 rest

/-- The sum of words modulo 65,536 (R180). -/
def wordSum : List Word → Word
  | [] => 0
  | w :: rest => w + wordSum rest

/-- The three words of a volume tag, characters 1 and 2 first (8.8). -/
def tagWords (tag : Tag) : List Word :=
  [tag.extractLsb' 32 16, tag.extractLsb' 16 16, tag.extractLsb' 0 16]

/-- The tag formed by three words (8.8). -/
def tagOfWords (a b c : Word) : Tag := a ++ b ++ c

/-- The volume check: the sum of the six tag characters modulo 256; 0 when the tag is absent (5.4, 6.1). -/
def volumeCheckOf : Option Tag → Byte
  | none => 0
  | some tag => byteSum8 (bytesOfWords (tagWords tag))

/-- A bit of a word set by a condition. -/
def bitIf (b : Bool) (i : Nat) : Word :=
  if b then BitVec.ofNat 16 (2 ^ i) else 0

/-- The value held for a transport. -/
def Four.get {α : Type} (f : Four α) : Tr → α
  | .t0 => f.a0
  | .t1 => f.a1
  | .t2 => f.a2
  | .t3 => f.a3

/-- The vector with the value of one transport replaced. -/
def Four.set {α : Type} (f : Four α) (t : Tr) (x : α) : Four α :=
  match t with
  | .t0 => { f with a0 := x }
  | .t1 => { f with a1 := x }
  | .t2 => { f with a2 := x }
  | .t3 => { f with a3 := x }

/-- The same value for every transport. -/
def Four.all {α : Type} (x : α) : Four α :=
  { a0 := x, a1 := x, a2 := x, a3 := x }

/-- The transport after one, wrapping from 3 to 0 (R149, R170). -/
def nextTr : Tr → Tr
  | .t0 => .t1
  | .t1 => .t2
  | .t2 => .t3
  | .t3 => .t0

/-- The first transport with `p` in the order that starts after `last` and wraps from 3 to 0 (R149, R170). -/
def firstAfter (p : Tr → Bool) (last : Tr) : Option Tr :=
  let a := nextTr last
  let b := nextTr a
  let c := nextTr b
  if p a then some a else if p b then some b else if p c then some c else if p last then some last else none

/-- The sign of a direction: positive is forward (R2). -/
def dirSign : Dir → Int
  | .forward => 1
  | .backward => -1

/-- The other direction. -/
def otherDir : Dir → Dir
  | .forward => .backward
  | .backward => .forward

/-- The direction of a count's sign (R2). -/
def signDir (positive : Bool) : Dir :=
  if positive then .forward else .backward

/-- The sign of a count as a number (R2). -/
def signValue (positive : Bool) : Int :=
  if positive then 1 else -1

/-- Cycles of the 20 MHz master clock in a second (00_scope.md, "Pins and Electrical Summary"). -/
def cyclesPerSecond : Nat := 20000000

/-- Cycles of the master clock in a millisecond. -/
def cyclesPerMs : Nat := 20000

end Sys2Proof.Machine
end

