-- ==== Sys2Proof/Machine/Retention.lean ====
section
/-! DEFINITION. The retained store as words, and the sum that the Power Monitor keeps over it (R180, R181). -/
namespace Sys2Proof.Machine

/-- The code of an entry kind in host records (8.8). -/
def entryKindCode : EntryKind → Nat
  | .checkpoint => 1
  | .note => 2
  | .file => 3

/-- The code of a reel record's state in the sense record (6.1). -/
def reelStateCode : ReelState → Nat
  | .none => 0
  | .active => 1
  | .held => 2

/-- The map entry record of an entry: 8 words and its tag words (8.8). The bits of word 1 that 8.8 gives to no field
hold 0: DESIGN CHOICE, log 100. -/
def entryWords (e : Entry) : List Word :=
  [ BitVec.ofNat 16 e.mark,
    BitVec.ofNat 16 (entryKindCode e.kind) ||| bitIf e.bound.isSome 4 |||
      BitVec.ofNat 16 (e.tag.length * 256),
    highWord (unsignedLong e.block), lowWord (unsignedLong e.block),
    highWord (signedLong e.position), lowWord (signedLong e.position),
    BitVec.ofNat 16 e.recordLength,
    BitVec.ofNat 16 (e.bound.getD 0) ] ++ e.tag

/-- An entry of a reel record's list in the retained store: the number of its pool slot, and what that slot holds
(R180). The layout of these words is the model's (log 8). -/
def slotWords (e : Entry) : List Word :=
  BitVec.ofNat 16 e.slot :: entryWords e

/-- The words of a reel record in the retained store (R180; layout: log 8). -/
def reelWords (r : ReelRecord) : List Word :=
  [ BitVec.ofNat 16 (reelStateCode r.state), bitIf r.tag.isSome 0 ] ++ tagWords (r.tag.getD 0) ++
    [ r.volumeCheck.setWidth 16, bitIf r.eod.isSome 0, highWord (unsignedLong (r.eod.getD 0)),
      lowWord (unsignedLong (r.eod.getD 0)), bitIf r.autoFile 0, BitVec.ofNat 16 r.entries.length ] ++
    r.entries.flatMap slotWords

/-- The sum of the numbers of all 2048 pool slots, 0 to 2047: each slot, a free one too, counts together with its number
(R180). A free slot holds zeros, so it adds its number alone (log 8). -/
def slotNumberSum : Word := BitVec.ofNat 16 (2047 * 2048 / 2)

/-- The words of the reel records, of the pool slots that hold an entry, and of the pool free count (R180; layout:
log 8). -/
def retainedWords (m : MapStore) : List Word :=
  reelWords m.reels.a0 ++ reelWords m.reels.a1 ++ reelWords m.reels.a2 ++ reelWords m.reels.a3 ++
    [BitVec.ofNat 16 m.poolFree]

/-- The sum, modulo 65,536, of every word of the retained store, each pool slot with its number (R180). -/
def retainedSum (m : MapStore) : Word :=
  wordSum (retainedWords m) + slotNumberSum

/-- Each entry of a list stands strictly below the next in block and in position (R95). -/
def entriesRise : List Entry → Bool
  | [] => true
  | [_] => true
  | a :: b :: rest => a.block < b.block && a.position < b.position && entriesRise (b :: rest)

/-- No two entries of a list share a mark number (R95). -/
def marksDiffer : List Entry → Bool
  | [] => true
  | e :: rest => rest.all (fun f => f.mark != e.mark) && marksDiffer rest

/-- The ranges of one entry (6.2, R95): block, position, bound, tag, and the mark number that goes with the kind; a FILE
entry's is 50,000 plus its file number, which a decoded stamp may give as 0 (log 58). -/
def entryInRange (e : Entry) : Bool :=
  e.block ≤ 16777214 && 0 ≤ e.position && e.position ≤ 16000000 && e.recordLength ≤ 65535 &&
    e.tag.length ≤ 4 && (e.bound.all fun b => 1 ≤ b && b ≤ 20000) &&
    (match e.kind with
      | .file => 50000 ≤ e.mark && e.mark ≤ 65535
      | _ => 1 ≤ e.mark && e.mark ≤ 49999)

/-- The structure check of one reel record (R181): the laws of R95 and R96, and at most 1024 entries. -/
def reelSound (r : ReelRecord) : Bool :=
  entriesRise r.entries && marksDiffer r.entries && r.entries.all entryInRange &&
    (match r.eod with
      | none => true
      | some n => r.entries.all fun e => e.block < n) &&
    r.entries.length ≤ 1024

/-- The number of entries of all four records. -/
def entryTotal (m : MapStore) : Nat :=
  m.reels.a0.entries.length + m.reels.a1.entries.length + m.reels.a2.entries.length +
    m.reels.a3.entries.length

/-- The structure check of R181 over the whole store. -/
def storeSound (m : MapStore) : Bool :=
  reelSound m.reels.a0 && reelSound m.reels.a1 && reelSound m.reels.a2 && reelSound m.reels.a3 &&
    m.poolFree + entryTotal m = 2048

end Sys2Proof.Machine
end

