-- ==== Sys2Proof/Machine/Defaults.lean ====
section
/-! DEFINITION. The power-on values of every block (R15, R16, R36, R58, R91, R92, R116, R151, R154, R170, R177), and
the first samples that State.reset takes (log 2). -/
namespace Sys2Proof.Machine

/-- The default profile (3.7). -/
def defaultProfile : Profile :=
  { vRw := 80000, vFs := 160000, vSh := 400000, aC := 40000000, aE := 80000000, aR := 2000000,
    gS := 64, gT := 64, sMax := 24000, k := 76, h := 40, stallWindow := 100, threshold := 128 }

/-- The default detector settings (5.7). -/
def defaultSettings : Settings :=
  { tStart := 96, tEnd := 48, dMin := 24, trim := 0 }

/-- The default pitches of a full supply reel and an empty take-up hub (R58, R63). -/
def defaultSupplyPitch : Nat := 256000

/-- See `defaultSupplyPitch`. -/
def defaultTakeupPitch : Nat := 100800

/-- The zone of a valid pattern; absent for the 26 sensor-fault patterns (R4). -/
def patternZone (p : Pattern) : Option Zone :=
  if p = 0b00000 then some .z0
  else if p = 0b00001 then some .z1
  else if p = 0b00011 then some .z2
  else if p = 0b00111 then some .z2
  else if p = 0b01111 then some .z3
  else if p = 0b11111 then some .z4
  else none

/-- A zone from 1 to 3 (R8, R45). -/
def zoneWorking : Zone → Bool
  | .z1 | .z2 | .z3 => true
  | _ => false

/-- A column at power-on (R15): a fault pattern starts VALID with zone 0 and a fault count of 1. The filter's count
of identical samples stands at 4, as after an acceptance (log 2). -/
def Column.first (p : Pattern) : Column :=
  { accepted := p, zone := (patternZone p).getD .z0, valid := true, sampled := p, identical := 4,
    faultCount := if (patternZone p).isSome then 0 else 1 }

/-- A filtered level at power-on: its first sample (R15, R177). -/
def Level.first (v : Bool) : Level := { level := v, count := 0 }

/-- A marker sensor at power-on (R15). -/
def MarkerSensor.first (v : Bool) : MarkerSensor :=
  { level := v, count := 0, capstanLag := 0, takeupLag := 0 }

/-- A tachometer decoder at power-on (R15). -/
def TachDecoder.first (p : Phases) : TachDecoder := { phases := p, lastPositive := true }

/-- PATH GOOD as its levels give it (R8). -/
def pathGoodOf (x : Sensing) : Bool :=
  x.supplyVacuum.level && x.takeupVacuum.level && x.supplyColumn.valid && x.takeupColumn.valid &&
    zoneWorking x.supplyColumn.zone && zoneWorking x.takeupColumn.zone

/-- The Sensing Interface at power-on (R15). -/
def Sensing.powerOn (f : FirstSamples) : Sensing :=
  let x : Sensing :=
    { capstanTach := .first f.capstanPhases, supplyTach := .first f.supplyPhases,
      takeupTach := .first f.takeupPhases, supplyPhase := 0, takeupPhase := 0,
      supplyColumn := .first f.supplyPorts, takeupColumn := .first f.takeupPorts,
      supplyVacuum := .first f.supplyVacuum, takeupVacuum := .first f.takeupVacuum,
      tapePresent := .first f.tapePresent, bot := .first f.bot, eot := .first f.eot,
      writeRing := .first f.writeRing, online := .first f.online, loadButton := .first f.loadButton,
      unloadButton := .first f.unloadButton, pathGood := false, writeEnable := false }
  { x with pathGood := pathGoodOf x }

/-- Transport Control at power-on, with the ONLINE level (R16). -/
def Control.powerOn (online : Bool) : Control :=
  { state := .unloaded, online := online, offlinePending := false, fault := .none, stopUnderWay := false,
    pathIntact := true, operation := .none, loadTag := none, autoFile := false, keep := false, timer := 0,
    pump := false, permission := .none, vacuumReached := false, seek := .idle, failCondition := none,
    stopByClear := false, unloadEnding := false, retired := 0 }

/-- The Drive Unit at power-on (R36). -/
def Drive.powerOn : Drive :=
  { phase := .stopped, command := 0, commandRem := 0, engaged := false, mode := .halted, dir := .forward,
    targetSpeed := 0, stopTarget := none, holdOver := none, pending := none, shuttlePhase := .none,
    shuttleSpeed := 0, shuttleRem := 0, shuttleTarget := none, stopKind := .none, supplyCommand := 0,
    takeupCommand := 0, supplyReleased := false, takeupReleased := false, requester := .none,
    stallTimer := 0, watched := none, stallReported := false, active := defaultProfile, staged := none,
    endedBy := .none, creep := none, windSpeed := 0, windRem := 0, windStopping := false }

/-- A window with no direction and both sums 0 (R58). -/
def Window.empty : Window := { dir := none, reelCounts := 0, capstanSteps := 0 }

/-- Position Reckoning at power-on (R58). -/
def Reckoning.powerOn : Reckoning :=
  { position := 0, fraction := 0, anchor := .lost, bound := none, mode := .halted, moving := false,
    supplyPitch := defaultSupplyPitch, takeupPitch := defaultTakeupPitch, supplyWindow := .empty,
    takeupWindow := .empty, nextBlock := 0, nextKnown := false, fileNumber := 1, lastBlock := none, eot := none }

/-- The Read Channel at power-on (R91). -/
def Channel.powerOn : Channel :=
  { settings := defaultSettings, pendingSettings := none, mode := .decode, activity := .listen,
    writeGate := false, phase := .hunt, record := none, blankWatch := none, formation := none, handOver := .off }

/-- The Locate Unit in IDLE: its state at power-on and after every ending (R116). -/
def Locate.idle : Locate :=
  { order := .none, phase := .idle, leg := .none, target := none, mark := none, aim := none, standOff := 0,
    beta := 0, reversals := 0, backCount := 0, budget := none, travel := 0, countAccepted := false,
    targetStart := none, corrected := false, step := .awaiting, failing := none, rewindOutcome := none }

/-- The Transfer Unit in IDLE: its state at power-on and at the end of every order (R154). -/
def Transfer.idle : Transfer :=
  { order := .none, phase := .idle, dir := .forward, recordsLeft := 0, roomLeft := 0, hostAddress := 0,
    resultBytes := 0, fifo := [], dropping := false, busFailed := false, skipFirst := false,
    gapExtension := 0, erased := 0, held := none, own := 0, quiet := false, mark := (0, 0, 0), joined := 0,
    ends := [], spilling := false, formRefused := false }

/-- The Order Port's record of a transport at power-on (R151): IDLE, and every condition chosen. -/
def Port.powerOn : Port :=
  { pointer := .idle, index := 0, terminationLost := false, copy := none, stage := .fetching, indicators := 0,
    attention := 0, noticeMask := 0b11111, result := [], stopNotice := false, held := none,
    faultAfter := false, senseTaken := 0 }

/-- One transport at power-on, given its first samples (R15, R16, R36, R58, R91, R116, R151, R154). -/
def Transport.powerOn (f : FirstSamples) : Transport :=
  { sense := .powerOn f, ctl := .powerOn f.online, drive := .powerOn, reck := .powerOn, chan := .powerOn,
    loc := .idle, xfer := .idle, port := .powerOn, mapOrder := .none }

/-- A reel record in state NONE (6.1). -/
def ReelRecord.none : ReelRecord :=
  { state := .none, tag := Option.none, volumeCheck := 0, eod := Option.none, autoFile := false, entries := [] }

/-- The emptied retained store (R92). -/
def MapStore.empty : MapStore := { reels := .all .none, poolFree := 2048 }

/-- The Arbiter at power-on (R149). -/
def Arbiter.powerOn : Arbiter :=
  { control := .all none, data := .all none, controlLast := .t3, dataLast := .t3, current := none }

/-- The exchange area at power-on (R170). -/
def Exchange.powerOn : Exchange :=
  { holder := none, waiting := .all false, last := .t3, table := [], written := 0 }

/-- The first samples of one transport's inputs that State.reset takes: a bare transport, nothing asserted,
every phase low (log 2). -/
def bareSamples : FirstSamples :=
  { capstanPhases := ⟨false, false⟩, supplyPhases := ⟨false, false⟩, takeupPhases := ⟨false, false⟩,
    supplyPorts := 0, takeupPorts := 0, supplyVacuum := false, takeupVacuum := false, tapePresent := false,
    bot := false, eot := false, writeRing := false, online := false, loadButton := false, unloadButton := false }

/-- The Power Monitor after a power-on (R177, R181). -/
def PowerMonitor.powerOn (pwarn clear : Bool) (check : Word) (verdict : Bool) : PowerMonitor :=
  { pwarn := .first pwarn, released := .all true, clear := .first clear, clearArmed := !clear,
    checkWord := check, latch := false, verdict := verdict }

end Sys2Proof.Machine
end

