-- ==== Sys2Proof/Machine/State.lean ====
section
/-! DEFINITION. The state of the controller, its state after reset, and the reasons a command can stop. -/
namespace Sys2Proof.Machine

/-- The state of the controller: four transports, the shared blocks, and the queue of waiting commands. -/
structure State where
  trs : Four Transport
  store : MapStore
  exchange : Exchange
  arb : Arbiter
  power : PowerMonitor
  /-- The INTR line, asserted or released (R145). -/
  intr : Bool
  /-- The summary word (R136, R145). -/
  summary : Word
  /-- What the controller's write transfers have left in host memory (log 5). -/
  hostMemory : List Host.Cell
  /-- VCC is in tolerance (R180). -/
  powered : Bool
  /-- The model's: how many free values have been used (log 4). -/
  freeIndex : Nat
  /-- The model's: the commands that wait, first in first out. -/
  pending : List Instr
deriving DecidableEq, Repr

/-- The reasons for a fault. An error of the part is no fault of the model: it is a condition, an indicator or an
attention condition in State. -/
inductive Fault where
  /-- A transfer's end brings another number of words than the transfer under way asked for, or a bus timeout
  comes after more words than it has, which no transfer does (R149, R150). Raised by the ends of read transfers
  and by `busTimeout`. Safe: it stops (log 7). -/
  | wordCount
deriving DecidableEq, Repr

/-- The reasons for a refusal. -/
inductive Refusal where
  /-- The command has no meaning yet; raised by an arm of `exec` only. Safe: it stops. -/
  | notModelled (mnemonic : String)
deriving DecidableEq, Repr

/-- The machine right after power-on with the first samples and the verdict of log 2 (R15, R16, R36, R58, R91, R92,
R116, R149, R151, R154, R170, R177, R181). -/
def State.reset : State :=
  { trs := .all (.powerOn bareSamples), store := .empty, exchange := .powerOn, arb := .powerOn,
    power := .powerOn false false (retainedSum .empty) false, intr := false, summary := 0,
    hostMemory := [], powered := true, freeIndex := 0, pending := [] }

end Sys2Proof.Machine
end

