-- ==== Sys2Proof/Machine/Operands.lean ====
section
/-! DEFINITION. The fields of an order block's copy (8.8): code, modifiers, operands A, B and C, data address. -/
namespace Sys2Proof.Machine

/-- The order copy taken from the words of a fetched block (R138). -/
def copyOfWords (ws : List Word) : OrderCopy :=
  { w0 := ws.getD 0 0, w1 := ws.getD 1 0, w2 := ws.getD 2 0, w3 := ws.getD 3 0, w4 := ws.getD 4 0,
    w5 := ws.getD 5 0, w6 := ws.getD 6 0 }

/-- The order code: the low byte of word 0 (R139). -/
def OrderCopy.code (c : OrderCopy) : Nat := (lowByte c.w0).toNat

/-- A modifier bit of word 0, 8 to 15 (8.8). -/
def OrderCopy.modifier (c : OrderCopy) (i : Nat) : Bool := c.w0.getLsbD i

/-- The kind field of ENTER MARK and AMEND MARK: bits 10 and 9 (8.8). -/
def OrderCopy.kindField (c : OrderCopy) : Nat := (c.w0.extractLsb' 9 2).toNat

/-- Operand A. -/
def OrderCopy.opA (c : OrderCopy) : Nat := c.w1.toNat

/-- Operand B, a two-word value. -/
def OrderCopy.opB (c : OrderCopy) : Nat := (longOf c.w2 c.w3).toNat

/-- Operand C. -/
def OrderCopy.opC (c : OrderCopy) : Nat := c.w6.toNat

/-- The data address: the low byte of word 4 holds its upper 8 bits and word 5 its lower 16 (R139). -/
def OrderCopy.address (c : OrderCopy) : Nat := (lowByte c.w4).toNat * 65536 + c.w5.toNat

/-- The volume tag of a LOAD: characters 1 and 2 in A, 3 to 6 in B (8.8). -/
def OrderCopy.tag (c : OrderCopy) : Tag := tagOfWords c.w1 c.w2 c.w3

/-- The orders that use their data address (R139). -/
def OrderCopy.usesAddress (c : OrderCopy) : Bool :=
  match c.code with
  | 6 => !c.modifier 8
  | 12 => 1 ≤ c.opC
  | 13 => c.modifier 11 && 1 ≤ c.opC
  | 4 | 5 | 7 | 15 | 19 | 20 | 21 => true
  | _ => false

/-- The tape motion orders (R18). -/
def motionCode (code : Nat) : Bool :=
  code = 2 || (6 ≤ code && code ≤ 11) || (16 ≤ code && code ≤ 18)

/-- The map-changing orders that an offline transport refuses (R18). -/
def mapChangingCode (code : Nat) : Bool :=
  code = 12 || code = 13 || code = 14 || code = 20

/-- The entry kind that a kind field chooses (8.8). -/
def kindOfField : Nat → Option EntryKind
  | 1 => some .checkpoint
  | 2 => some .note
  | _ => none

end Sys2Proof.Machine
end

