-- ==== Sys2Proof/Machine/Ops.lean ====
section
/-! DEFINITION. The named operations over State: the records of a transport, host memory as the controller
writes it, and the outputs that follow from the state (reel commands, stall watch, write enable). -/
namespace Sys2Proof.Machine

/-! ### The transports -/

/-- The record of a transport. -/
def State.tr (s : State) (t : Tr) : Transport := s.trs.get t

/-- The state with the record of a transport replaced. -/
def State.setTr (s : State) (t : Tr) (x : Transport) : State := { s with trs := s.trs.set t x }

/-- The state with the record of a transport changed. -/
def State.modTr (s : State) (t : Tr) (f : Transport → Transport) : State := s.setTr t (f (s.tr t))

/-- The reel record of a transport (6.1). -/
def State.reel (s : State) (t : Tr) : ReelRecord := s.store.reels.get t

/-! ### Host memory (log 5) -/

/-- The byte that the controller's writes have left at an address; an unlisted address reads as 0. -/
def memRead : List Host.Cell → Nat → Byte
  | [], _ => 0
  | (a, b) :: rest, x => if a = x then b else memRead rest x

/-- The list with one byte written, in canonical form: addresses strictly rising, no byte that reads as
unlisted. -/
def memWrite : List Host.Cell → Nat → Byte → List Host.Cell
  | [], x, v => if v = 0 then [] else [(x, v)]
  | (a, b) :: rest, x, v =>
    if x < a then (if v = 0 then (a, b) :: rest else (x, v) :: (a, b) :: rest)
    else if x = a then (if v = 0 then rest else (x, v) :: rest)
    else (a, b) :: memWrite rest x v

/-- Every address of the list lies above `x`. -/
def memAbove (x : Nat) : List Host.Cell → Bool
  | [] => true
  | (a, _) :: _ => x < a

/-- The canonical form. -/
def memWf : List Host.Cell → Bool
  | [] => true
  | (a, b) :: rest => b != 0 && memAbove a rest && memWf rest

/-- Words written to host memory from a byte address upward, the high byte of a word first; addresses have 24
bits (00_scope.md, R142, R155). -/
def memWriteWords (m : List Host.Cell) (address : Nat) : List Word → List Host.Cell
  | [] => m
  | w :: rest =>
    memWriteWords
      (memWrite (memWrite m (address % 16777216) (highByte w)) ((address + 1) % 16777216) (lowByte w))
      (address + 2) rest

/-- The controller's write of words to host memory. -/
def State.hostWrite (s : State) (address : Nat) (ws : List Word) : State :=
  { s with hostMemory := memWriteWords s.hostMemory address ws }

/-! ### The Drive Unit's outputs -/

/-- The pitch of a reel (R43). -/
def Reckoning.pitch (r : Reckoning) : Side → Nat
  | .supply => r.supplyPitch
  | .takeup => r.takeupPitch

/-- The column of a side. -/
def Sensing.column (x : Sensing) : Side → Column
  | .supply => x.supplyColumn
  | .takeup => x.takeupColumn

/-- The vacuum level of a side's column (R7). -/
def Sensing.vacuum (x : Sensing) : Side → Bool
  | .supply => x.supplyVacuum.level
  | .takeup => x.takeupVacuum.level

/-- The brake of a reel is released (3.1). -/
def Drive.released (d : Drive) : Side → Bool
  | .supply => d.supplyReleased
  | .takeup => d.takeupReleased

/-- A reel's loop is in its column (R45). -/
def Sensing.loopIn (x : Sensing) (side : Side) : Bool :=
  x.vacuum side && (x.column side).valid && zoneWorking (x.column side).zone

/-- The feed-forward speed floor((4096 V + P/2) / P) in counts per second (R43). -/
def feedForward (v p : Nat) : Nat := (8192 * v + p) / (2 * p)

/-- The loop correction of a reel by its column's zone (R44). -/
def loopCorrection (p : Profile) (side : Side) (z : Zone) : Int :=
  match side, z with
  | .supply, .z1 => p.gS
  | .supply, .z3 => -(p.gS : Int)
  | .takeup, .z1 => -(p.gT : Int)
  | .takeup, .z3 => p.gT
  | _, _ => 0

/-- The signed feed-forward of a reel for the motion under way (R43). -/
def signedFeed (d : Drive) (pitch : Nat) : Int :=
  match d.mode with
  | .capstan =>
    if d.command < 0 then -(feedForward d.command.natAbs pitch : Int) else feedForward d.command.natAbs pitch
  | .shuttle => dirSign d.dir * (feedForward d.shuttleSpeed pitch : Int)
  | _ => 0

/-- The rate at which a reel pays tape into an empty column (R46). -/
def threadingFeed (p : Profile) (x : Sensing) (side : Side) : Int :=
  if x.vacuum side && (x.column side).valid then
    match (x.column side).zone with
    | .z0 => (match side with | .supply => 1024 | .takeup => -1024)
    | z => loopCorrection p side z
  else 0

/-- The reel command that the rules give a reel in the state as it stands (R43 to R46, R48). -/
def reelCommand (x : Transport) (side : Side) : Int :=
  if x.drive.released side then
    match x.drive.mode with
    | .thread => clampMagnitude x.drive.active.sMax (threadingFeed x.drive.active x.sense side)
    | .unthread =>
      (match side with
        | .supply =>
          clampMagnitude x.drive.active.sMax (-(feedForward x.drive.windSpeed (x.reck.pitch .supply) : Int))
        | .takeup => 0)
    | _ =>
      clampMagnitude x.drive.active.sMax
        (signedFeed x.drive (x.reck.pitch side) + loopCorrection x.drive.active side (x.sense.column side).zone)
  else 0

/-- The shuttle limit (R50; log 31). -/
def shuttleLimit (p : Profile) (r : Reckoning) : Nat :=
  min p.vSh ((p.sMax - max p.gS p.gT) * min r.supplyPitch r.takeupPitch / 4096)

/-- The shuttle speed held to the shuttle limit, and following it in RUN (R50; log 31). -/
def Drive.limitShuttle (d : Drive) (r : Reckoning) : Drive :=
  match d.shuttlePhase with
  | .none => d
  | .run => { d with shuttleSpeed := shuttleLimit d.active r, shuttleRem := 0 }
  | _ =>
    if shuttleLimit d.active r < d.shuttleSpeed then
      { d with shuttleSpeed := shuttleLimit d.active r, shuttleRem := 0 }
    else d

/-- The tachometer that the stall watchdog watches (R55): the supply reel's in the unthreading wind, the take-up
reel's in a shuttle, the capstan's while the capstan is not STOPPED in capstan drive (log 13). -/
def watchedTach (d : Drive) : Option Tach :=
  if d.mode = .unthread then some .supply
  else if d.shuttlePhase ≠ .none then some .takeup
  else if d.mode = .capstan ∧ d.phase ≠ .stopped then some .capstan
  else none

/-- The stall watchdog follows the motion: its timer restarts when it begins to run and is discarded when it
stops (R55). -/
def Drive.watch (d : Drive) : Drive :=
  if watchedTach d = d.watched then d
  else { d with watched := watchedTach d, stallTimer := 0, stallReported := false }

/-- The outputs of one transport worked out again from its state: shuttle speed, stall watch, reel commands
(R44), and the write enable line under its interlock (R11; log 35). -/
def Transport.refresh (x : Transport) : Transport :=
  let d := (x.drive.limitShuttle x.reck).watch
  let y := { x with drive := d }
  { y with
    drive := { d with supplyCommand := reelCommand y .supply, takeupCommand := reelCommand y .takeup },
    sense := { x.sense with writeEnable := x.chan.writeGate && x.sense.writeRing.level } }

end Sys2Proof.Machine
end

