-- ==== Sys2Proof/Machine/Flags.lean ====
section
/-! DEFINITION. Every host-visible code, flag and status word (8.8): conditions, indicators, attention, the pointer
word, the summary word, the termination word, the sense record; and the INTR line. -/
namespace Sys2Proof.Machine

/-- The code of a termination condition (8.8). -/
def conditionCode : Condition → Nat
  | .normal => 0
  | .fileMark => 1
  | .blankTape => 2
  | .endOfTape => 3
  | .loadPoint => 4
  | .dataCheck => 5
  | .dataLate => 6
  | .writeCheck => 7
  | .notReady => 8
  | .illegalOrder => 9
  | .parameter => 10
  | .writeProtected => 11
  | .noSequence => 12
  | .positionLost => 13
  | .noSuchMark => 14
  | .duplicate => 15
  | .mapFull => 16
  | .beyondEnd => 17
  | .notFound => 18
  | .tableInvalid => 19
  | .volumeMismatch => 20
  | .faultStop => 21
  | .powerStop => 22
  | .busError => 23
  | .faultPersists => 24
  | .noBlock => 25
  | .loadFailed => 26

/-- The summary error bit is 1 for every condition except NORMAL, FILE MARK and LOAD POINT (R141). -/
def summaryError : Condition → Bool
  | .normal | .fileMark | .loadPoint => false
  | _ => true

/-- The bit of an indicator in word 10 (8.8). -/
def indicatorBit : Indicator → BitVec 16
  | .length => 1#16
  | .markMoved => 2#16
  | .mapChanged => 4#16
  | .mapNotUpdated => 8#16
  | .parameterAdjusted => 16#16
  | .unstamped => 32#16
  | .foreignStamp => 64#16
  | .sequenceAdopted => 128#16
  | .noiseSeen => 256#16
  | .reelSlip => 512#16
  | .blockDamaged => 1024#16

/-- The bit of an attention condition (8.8): bits 4 to 0 are READY, NOT READY, FAULT, POWER and PROTOCOL in this
order, in word 1 of the sense record, in the notice mask and in the mask of SET NOTICE MASK (R148). -/
def attentionBit : Attention → BitVec 5
  | .ready => 16#5
  | .notReady => 8#5
  | .fault => 4#5
  | .power => 2#5
  | .protocol => 1#5

/-- The code of a transport state (R17). -/
def stateCode : TState → Nat
  | .unloaded => 0
  | .threading => 1
  | .seekingLoadPoint => 2
  | .ready => 3
  | .inMotion => 4
  | .stopping => 5
  | .unloading => 6
  | .faulted => 7
  | .powerHeld => 8

/-- The code of a fault kind (2.1). -/
def faultCode : FaultKind → Nat
  | .none => 0
  | .vacuum => 1
  | .loop => 2
  | .tapePath => 3
  | .sensor => 4
  | .stall => 5

/-- The code of an anchor state (8.8). -/
def anchorCode : Anchor → Nat
  | .anchored => 0
  | .drifted => 1
  | .lost => 2

/-- Some condition is in the attention set and chosen by the notice mask (R145). -/
def Port.unmasked (p : Port) : Bool := p.attention &&& p.noticeMask != 0

/-- The pointer is COMPLETE PENDING (8.2). -/
def Port.complete (p : Port) : Bool := p.pointer = .completePending

/-- The word that a read of an order pointer gives (R136, 8.8; log 51). -/
def pointerWord (p : Port) : Word :=
  bitIf p.complete 15 ||| bitIf p.unmasked 14 ||| bitIf p.terminationLost 13 ||| p.index.setWidth 16

/-- The INTR line is asserted exactly when some pointer is complete pending or some transport has an unmasked
attention condition (R145). -/
def intrOf (trs : Four Transport) : Bool :=
  trs.a0.port.complete || trs.a1.port.complete || trs.a2.port.complete || trs.a3.port.complete ||
    trs.a0.port.unmasked || trs.a1.port.unmasked || trs.a2.port.unmasked || trs.a3.port.unmasked

/-- The summary word (R145, 8.8). -/
def summaryOf (trs : Four Transport) (power : PowerMonitor) : Word :=
  bitIf trs.a0.port.complete 0 ||| bitIf trs.a1.port.complete 1 ||| bitIf trs.a2.port.complete 2 |||
    bitIf trs.a3.port.complete 3 ||| bitIf trs.a0.port.unmasked 4 ||| bitIf trs.a1.port.unmasked 5 |||
    bitIf trs.a2.port.unmasked 6 ||| bitIf trs.a3.port.unmasked 7 ||| bitIf power.pwarn.level 8 |||
    bitIf power.verdict 9

/-- The word that a host read at a word offset gives (R136; log 51). -/
def busRead (s : State) : Nat → Word
  | 0 => pointerWord (s.tr .t0).port
  | 1 => pointerWord (s.tr .t1).port
  | 2 => pointerWord (s.tr .t2).port
  | 3 => pointerWord (s.tr .t3).port
  | 4 => s.summary
  | _ => 0

/-- INTR, the summary word and the retention check word are kept in step with the state (R145, R180). -/
def State.finish (s : State) : State :=
  { s with
    intr := intrOf s.trs, summary := summaryOf s.trs s.power,
    power := { s.power with checkWord := retainedSum s.store } }

/-- The outputs of one transport worked out again. -/
def State.refresh (s : State) (t : Tr) : State := s.modTr t Transport.refresh

/-- The outputs of the four transports worked out again. -/
def State.refreshAll (s : State) : State :=
  (((s.refresh .t0).refresh .t1).refresh .t2).refresh .t3

/-- A command of one transport. While main power is out nothing but POWER_ON and BACKUP_FAILURE has an effect
(R180). -/
def runOn (t : Tr) (s : State) (f : State → State) : Host.Outcome State Fault Refusal :=
  .next (if s.powered then ((f s).refresh t).finish else s)

/-- A command of the whole controller. -/
def runAll (s : State) (f : State → State) : Host.Outcome State Fault Refusal :=
  .next (if s.powered then (f s).refreshAll.finish else s)

/-- The at-load-point flag: ANCHORED with the whole-step position from 0 to 100 (R67). -/
def Reckoning.atLoadPoint (r : Reckoning) : Bool :=
  r.anchor = .anchored && 0 ≤ r.position && r.position ≤ 100

/-- The past-EOT flag (R68). -/
def pastEot (x : Transport) : Bool :=
  (match x.reck.eot with
    | none => false
    | some e => e ≤ x.reck.position) || x.sense.eot.level

/-- The termination word (R141, 8.8), with the fields as Position Reckoning and Transport Control hold them. -/
def terminationWord (x : Transport) (c : Condition) : Word :=
  bitIf true 15 ||| bitIf (summaryError c) 14 ||| BitVec.ofNat 16 (anchorCode x.reck.anchor * 4096) |||
    bitIf x.reck.atLoadPoint 11 ||| bitIf (pastEot x) 10 ||| bitIf x.ctl.online 9 |||
    BitVec.ofNat 16 (stateCode x.ctl.state * 32) ||| BitVec.ofNat 16 (conditionCode c)

/-- The position that the sense record reports: 0 under LOST (R74). -/
def Reckoning.reportedPosition (r : Reckoning) : Int :=
  if r.anchor = .lost then 0 else r.position

/-- The next block that the sense record reports: 0 when unknown (R74). -/
def Reckoning.reportedNext (r : Reckoning) : Nat := if r.nextKnown then r.nextBlock else 0

/-- The 16-word sense record (R147, 8.8). The fields of an absent tag and of an absent EOD hold 0: DESIGN CHOICE, log 73.
The bits that 8.8 gives to no field (word 0 bit 15, word 1 bits 15, 11 and 7 to 5) hold 0: DESIGN CHOICE, log 100. -/
def senseRecord (x : Transport) (reel : ReelRecord) (poolFree : Nat) : List Word :=
  let r := x.reck
  let next := unsignedLong r.reportedNext
  let eod := unsignedLong (reel.eod.getD 0)
  let ps := unsignedLong r.supplyPitch
  let pt := unsignedLong r.takeupPitch
  [ BitVec.ofNat 16 (stateCode x.ctl.state) ||| BitVec.ofNat 16 (faultCode x.ctl.fault * 16) |||
      bitIf x.ctl.online 7 ||| BitVec.ofNat 16 (anchorCode r.anchor * 256) ||| bitIf r.nextKnown 10 |||
      bitIf reel.eod.isSome 11 ||| BitVec.ofNat 16 (reelStateCode reel.state * 4096) |||
      bitIf reel.tag.isSome 14,
    x.port.attention.setWidth 16 ||| BitVec.ofNat 16 ((highWord ps).toNat % 8 * 256) |||
      BitVec.ofNat 16 ((highWord pt).toNat % 8 * 4096),
    BitVec.ofNat 16 (if r.anchor = .drifted then r.bound.getD 0 else 0),
    highWord (signedLong r.reportedPosition), lowWord (signedLong r.reportedPosition),
    wordOf (lowByte (highWord next)) (lowByte (highWord eod)),
    lowWord next, lowWord eod,
    BitVec.ofNat 16 (if r.nextKnown then r.fileNumber else 0) ] ++
    tagWords (reel.tag.getD 0) ++
    [ BitVec.ofNat 16 reel.entries.length, BitVec.ofNat 16 poolFree, lowWord ps, lowWord pt ]

end Sys2Proof.Machine
end

