-- ==== Sys2Proof/Machine/Sensing.lean ====
section
/-! DEFINITION. The filters and decoders of the Sensing Interface (chapter 1), on its own record. A filter is given
`n` consecutive identical samples at once (log 1). -/
namespace Sys2Proof.Machine

/-! ### Tachometers (R1 to R3) -/

/-- The place of a phase pair in the forward sequence LL, LH, HH, HL (1.2). -/
def quadrature (p : Phases) : Nat :=
  match p.a, p.b with
  | false, false => 0
  | false, true => 1
  | true, true => 2
  | true, false => 3

/-- The signs of the counts that a newly sampled phase pair gives, in the order they are taken (R1): none, one,
or two with the sign of the last count on an illegal transition. -/
def tachCounts (d : TachDecoder) (p : Phases) : List Bool :=
  match (quadrature p + 4 - quadrature d.phases) % 4 with
  | 0 => []
  | 1 => [true]
  | 3 => [false]
  | _ => [d.lastPositive, d.lastPositive]

/-- The decoder after a sample: the pair it last sampled, and the sign of its last count (R1). -/
def TachDecoder.sample (d : TachDecoder) (p : Phases) : TachDecoder :=
  { phases := p, lastPositive := ((tachCounts d p).head?).getD d.lastPositive }

/-- The decoder of a tachometer. -/
def Sensing.tach (x : Sensing) : Tach → TachDecoder
  | .capstan => x.capstanTach
  | .supply => x.supplyTach
  | .takeup => x.takeupTach

/-- The Sensing Interface with the decoder of a tachometer replaced. -/
def Sensing.setTach (x : Sensing) (t : Tach) (d : TachDecoder) : Sensing :=
  match t with
  | .capstan => { x with capstanTach := d }
  | .supply => { x with supplyTach := d }
  | .takeup => { x with takeupTach := d }

/-- The revolution phase of a reel after a count (R3; log 50). -/
def phaseAfter (phase : Nat) (positive : Bool) : Nat :=
  if positive then (if phase = 255 then 0 else phase + 1) else (if phase = 0 then 255 else phase - 1)

/-- A count wraps the revolution phase, which gives a revolution event (R3; log 50). -/
def phaseWraps (phase : Nat) (positive : Bool) : Bool :=
  if positive then phase = 255 else phase = 0

/-- The revolution phase of a reel. -/
def Sensing.revolutionPhase (x : Sensing) : Side → Nat
  | .supply => x.supplyPhase
  | .takeup => x.takeupPhase

/-- The Sensing Interface with the revolution phase of a reel moved by a count (R3). -/
def Sensing.turnReel (x : Sensing) (side : Side) (positive : Bool) : Sensing :=
  match side with
  | .supply => { x with supplyPhase := phaseAfter x.supplyPhase positive }
  | .takeup => { x with takeupPhase := phaseAfter x.takeupPhase positive }

/-- A marker's lag sums after a count: both sums run while a new level is pending (R10). -/
def MarkerSensor.lag (m : MarkerSensor) (t : Tach) (positive : Bool) : MarkerSensor :=
  if m.count = 0 then m
  else
    match t with
    | .capstan => { m with capstanLag := m.capstanLag + signValue positive }
    | .takeup => { m with takeupLag := m.takeupLag + signValue positive }
    | .supply => m

/-- Both marker filters after a count (R10). -/
def Sensing.lagMarkers (x : Sensing) (t : Tach) (positive : Bool) : Sensing :=
  { x with bot := x.bot.lag t positive, eot := x.eot.lag t positive }

/-! ### Columns (R4 to R6) -/

/-- The event a column's samples give. -/
inductive ColumnEvent where
  | none | zone (z : Zone) | fault | restored (z : Zone)
deriving DecidableEq, Repr

/-- The count of identical samples after `n` samples of a pattern, counted up to 4 (R5). -/
def Column.identicalAfter (c : Column) (p : Pattern) (n : Nat) : Nat :=
  if p = c.sampled then min 4 (c.identical + n) else min 4 n

/-- The pattern becomes the accepted pattern within these samples (R5). -/
def Column.accepts (c : Column) (p : Pattern) (n : Nat) : Bool :=
  c.identicalAfter p n = 4 && !(p = c.sampled && c.identical = 4)

/-- A column after `n` consecutive samples of a pattern, and the event they give (R5, R6). -/
def Column.samples (c : Column) (p : Pattern) (n : Nat) : Column × ColumnEvent :=
  if n = 0 then (c, .none)
  else
    let d : Column := { c with
      sampled := p, identical := c.identicalAfter p n,
      accepted := if c.accepts p n then p else c.accepted }
    match patternZone p with
    | some z =>
      let e := { d with faultCount := 0 }
      if c.accepts p n then
        if c.valid then (if z = c.zone then (e, .none) else ({ e with zone := z }, .zone z))
        else ({ e with valid := true, zone := z }, .restored z)
      else (e, .none)
    | Option.none =>
      let e := { d with faultCount := c.faultCount + n }
      if c.valid && 200 ≤ c.faultCount + n then ({ e with valid := false, zone := .unknown }, .fault)
      else (e, .none)

/-- The Sensing Interface with a column replaced. -/
def Sensing.setColumn (x : Sensing) (side : Side) (c : Column) : Sensing :=
  match side with
  | .supply => { x with supplyColumn := c }
  | .takeup => { x with takeupColumn := c }

/-! ### Two-valued inputs (R7, R9, R11 to R13, R177) -/

/-- A filtered level after `n` samples of a value, `need` identical samples being the figure of the table in
1.1. -/
def Level.samples (need : Nat) (l : Level) (v : Bool) (n : Nat) : Level :=
  if n = 0 then l
  else if v = l.level then { l with count := 0 }
  else if need ≤ l.count + n then { level := v, count := 0 }
  else { l with count := l.count + n }

/-- The samples change the filtered level. -/
def Level.changes (need : Nat) (l : Level) (v : Bool) (n : Nat) : Bool :=
  n ≠ 0 && v ≠ l.level && need ≤ l.count + n

/-- The vacuum level of a column replaced. -/
def Sensing.setVacuum (x : Sensing) (side : Side) (l : Level) : Sensing :=
  match side with
  | .supply => { x with supplyVacuum := l }
  | .takeup => { x with takeupVacuum := l }

/-- The vacuum filter of a column. -/
def Sensing.vacuumLevel (x : Sensing) : Side → Level
  | .supply => x.supplyVacuum
  | .takeup => x.takeupVacuum

/-! ### Markers (R10) -/

/-- The sensor of a marker. -/
def Sensing.marker (x : Sensing) : Marker → MarkerSensor
  | .bot => x.bot
  | .eot => x.eot

/-- The Sensing Interface with the sensor of a marker replaced. -/
def Sensing.setMarker (x : Sensing) (m : Marker) (y : MarkerSensor) : Sensing :=
  match m with
  | .bot => { x with bot := y }
  | .eot => { x with eot := y }

/-- The samples change the filtered level of a marker: eight identical samples of the other level (R10). -/
def MarkerSensor.changes (m : MarkerSensor) (v : Bool) (n : Nat) : Bool :=
  n ≠ 0 && v ≠ m.level && 8 ≤ m.count + n

/-- A marker sensor after `n` samples of a value (R10): the lag sums start from 0 at the first sample of a new
level and are discarded when it fails to hold. -/
def MarkerSensor.samples (m : MarkerSensor) (v : Bool) (n : Nat) : MarkerSensor :=
  if n = 0 then m
  else if v = m.level then { m with count := 0, capstanLag := 0, takeupLag := 0 }
  else if 8 ≤ m.count + n then { level := v, count := 0, capstanLag := 0, takeupLag := 0 }
  else if m.count = 0 then { m with count := n, capstanLag := 0, takeupLag := 0 }
  else { m with count := m.count + n }

/-- The edge event made when the samples are accepted (R10); `engaged` is the capstan engage output. -/
def edgeEvent (x : Sensing) (engaged : Bool) (m : Marker) (v : Bool) : EdgeEvent :=
  let sensor := x.marker m
  let tach := if engaged then x.capstanTach else x.takeupTach
  let dir := signDir tach.lastPositive
  let fresh := sensor.count = 0
  { marker := m, arrive := v, direction := dir,
    lag := if fresh then 0 else if engaged then sensor.capstanLag else sensor.takeupLag,
    capstanGoverns := engaged,
    zeroEdge := m = .bot && (if v then dir = .forward else dir = .backward) }

end Sys2Proof.Machine
end

