-- ==== Sys2Proof/Machine/Reckoning.lean ====
section
/-! DEFINITION. Position Reckoning on its own record (chapter 4). -/
namespace Sys2Proof.Machine

/-- The lower end of the position range. -/
def positionMin : Int := -100000

/-- The upper end of the position range. -/
def positionMax : Int := 16000000

/-! ### The anchor (R60) -/

/-- On becoming LOST (R60). -/
def Reckoning.becomeLost (r : Reckoning) : Reckoning :=
  if r.anchor = .lost then r
  else { r with anchor := .lost, bound := none, nextKnown := false, lastBlock := none, eot := none }

/-- An increase of the drift bound (R60). -/
def Reckoning.increaseBound (r : Reckoning) (k : Nat) : Reckoning :=
  if r.anchor = .lost then r
  else if 20000 < r.bound.getD 0 + k then r.becomeLost
  else { r with anchor := .drifted, bound := some (r.bound.getD 0 + k) }

/-- The drift bound held; 0 where it is absent. -/
def Reckoning.drift (r : Reckoning) : Nat := r.bound.getD 0

/-- A position and fraction held to the range of R59: outside it, the end of the range with fraction 0, and
LOST. -/
def Reckoning.place (r : Reckoning) (position : Int) (fraction : Nat) : Reckoning :=
  if position < positionMin then { r with position := positionMin, fraction := 0 }.becomeLost
  else if positionMax < position then { r with position := positionMax, fraction := 0 }.becomeLost
  else { r with position := position, fraction := fraction }

/-! ### Windows and pitches (R61 to R63) -/

/-- A pitch window restarted with a direction (R61). -/
def Window.restart (d : Option Dir) : Window := { dir := d, reelCounts := 0, capstanSteps := 0 }

/-- A count in a window's units: 1 when its sign agrees with the window's direction and −1 otherwise (R61). -/
def windowStep (d : Dir) (positive : Bool) : Int :=
  if signDir positive = d then 1 else -1

/-- A reel count taken into its window; the sum is held to its range (R61, 4.1; log 34). -/
def Window.reel (w : Window) (positive : Bool) : Window :=
  match w.dir with
  | none => w
  | some d => { w with reelCounts := max (-256) (min 256 (w.reelCounts + windowStep d positive)) }

/-- A capstan count taken into a window; the sum is held to its range (R61, 4.1; log 34). -/
def Window.capstan (w : Window) (positive : Bool) : Window :=
  match w.dir with
  | none => w
  | some d => { w with capstanSteps := max (-20001) (min 20001 (w.capstanSteps + windowStep d positive)) }

/-- A pitch held to 64,000 to 320,000 (R62, R63). -/
def clampPitch (p : Int) : Nat :=
  if p < 64000 then 64000 else if 320000 < p then 320000 else p.toNat

/-- The pack law: the pitch of a reel after one revolution in a direction (R63). -/
def packLaw (side : Side) (d : Dir) (pitch k : Nat) : Nat :=
  match side with
  | .supply => clampPitch ((pitch : Int) - dirSign d * k)
  | .takeup => clampPitch ((pitch : Int) + dirSign d * k)

/-- The record with the pitch of a reel replaced. -/
def Reckoning.setPitch (r : Reckoning) (side : Side) (p : Nat) : Reckoning :=
  match side with
  | .supply => { r with supplyPitch := p }
  | .takeup => { r with takeupPitch := p }

/-- The window of a reel. -/
def Reckoning.window (r : Reckoning) : Side → Window
  | .supply => r.supplyWindow
  | .takeup => r.takeupWindow

/-- The record with the window of a reel replaced. -/
def Reckoning.setWindow (r : Reckoning) (side : Side) (w : Window) : Reckoning :=
  match side with
  | .supply => { r with supplyWindow := w }
  | .takeup => { r with takeupWindow := w }

/-- Both windows restarted with a direction (R61). -/
def Reckoning.restartWindows (r : Reckoning) (d : Option Dir) : Reckoning :=
  { r with supplyWindow := .restart d, takeupWindow := .restart d }

/-- A window is full: 256 net reel counts, or 20,001 capstan steps in magnitude (R62). -/
def Window.full (w : Window) : Bool :=
  256 ≤ w.reelCounts || 20001 ≤ w.capstanSteps.natAbs

/-- The pitch measured by a full window, when it lies in range (R62). -/
def Window.measured (w : Window) : Option Nat :=
  if 256 ≤ w.reelCounts && w.capstanSteps.natAbs < 20001 && 64000 ≤ 16 * w.capstanSteps &&
      16 * w.capstanSteps ≤ 320000 then
    some (16 * w.capstanSteps).toNat
  else none

/-- The record after a reel's window has filled (R62): measured pitch or pack law, window restarted with its
direction kept. -/
def Reckoning.measure (r : Reckoning) (side : Side) (k : Nat) : Reckoning :=
  let w := r.window side
  let p := match w.measured with
    | some p => p
    | none => packLaw side (w.dir.getD .forward) (r.pitch side) k
  (r.setPitch side p).setWindow side (.restart w.dir)

/-! ### Drive modes and motions (R59, R61, R64, R65) -/

/-- The beginning of a capstan motion in a direction (R61): capstan moving becomes yes, and the windows restart
when the direction differs from theirs. -/
def Reckoning.motionBegun (r : Reckoning) (d : Dir) : Reckoning :=
  let r := if r.supplyWindow.dir = some d && r.takeupWindow.dir = some d then r else r.restartWindows (some d)
  { r with moving := true }

/-- The standstill report (R61). -/
def Reckoning.standstill (r : Reckoning) : Reckoning := { r with moving := false }

/-- A drive mode handed by the Drive Unit (R59 to R61): CAPSTAN restarts both windows with direction none,
UNTHREAD makes the anchor LOST. Capstan moving becomes no with every change of the mode (log 57). -/
def Reckoning.setMode (r : Reckoning) (m : DriveMode) : Reckoning :=
  if m = r.mode then r
  else
    match m with
    | .capstan => { r.restartWindows none with mode := .capstan, moving := false }
    | .unthread => { r.becomeLost with mode := .unthread, moving := false }
    | m => { r with mode := m, moving := false }

/-- The shuttle start (R64). -/
def Reckoning.shuttleStart (r : Reckoning) : Reckoning :=
  { (r.increaseBound 64) with mode := .shuttle, moving := false, nextKnown := false, lastBlock := none }

/-- The shuttle end (R65). -/
def Reckoning.shuttleEnd (r : Reckoning) : Reckoning := r.increaseBound 64

/-! ### Counts (R59, R63 to R65) -/

/-- A capstan count (R59, R61). -/
def Reckoning.capstanCount (r : Reckoning) (positive : Bool) : Reckoning :=
  if r.mode = .capstan then
    let r := r.place (r.position + signValue positive) r.fraction
    if r.moving then
      { r with supplyWindow := r.supplyWindow.capstan positive, takeupWindow := r.takeupWindow.capstan positive }
    else r
  else r

/-- The motion of one take-up count: P_t units of 1/4096 step (R64). -/
def Reckoning.takeupMotion (r : Reckoning) (positive : Bool) : Reckoning :=
  let total := r.position * 4096 + r.fraction + signValue positive * r.takeupPitch
  r.place (total / 4096) (total % 4096).toNat

/-- A revolution event in SHUTTLE (R63, R65): the take-up revolution raises the drift bound by
ceil(P_t / 16,384) with the pitch before its change; then the pack law. -/
def Reckoning.revolution (r : Reckoning) (side : Side) (positive : Bool) (k : Nat) : Reckoning :=
  if r.mode = .shuttle then
    let r := if side = .takeup then r.increaseBound (ceilDiv r.takeupPitch 16384) else r
    r.setPitch side (packLaw side (signDir positive) (r.pitch side) k)
  else r

/-- A reel count, with whether it wraps the revolution phase (R59, R61, R63 to R65). -/
def Reckoning.reelCount (r : Reckoning) (side : Side) (positive wraps : Bool) (k : Nat) : Reckoning :=
  let r := if side = .takeup && r.mode = .shuttle then r.takeupMotion positive else r
  let r := if wraps then r.revolution side positive k else r
  if r.mode = .capstan && r.moving then r.setWindow side ((r.window side).reel positive) else r

/-! ### Markers (R66 to R68) -/

/-- An edge event's lag as a distance in units of 1/4096 step (R66). -/
def lagUnits (r : Reckoning) (e : EdgeEvent) : Int :=
  if e.capstanGoverns then e.lag * 4096 else e.lag * r.takeupPitch

/-- Re-anchoring at a BOT zero edge (R66; log 33). -/
def Reckoning.reanchorBot (r : Reckoning) (e : EdgeEvent) : Reckoning :=
  let units := lagUnits r e
  let position := units / 4096
  { r with
    position := position, fraction := (units % 4096).toNat, anchor := .anchored, bound := some 0,
    nextBlock := 0, nextKnown := true, fileNumber := 1, lastBlock := none,
    eot := r.eot.map fun x => x + (position - r.position) }

/-- A drive mode in which marker edges count (R66, R68). -/
def markersCount (m : DriveMode) : Bool := m = .capstan || m = .shuttle

/-- The event re-anchors the reckoning (R66). -/
def Reckoning.reanchors (r : Reckoning) (e : EdgeEvent) : Bool := e.zeroEdge && markersCount r.mode

/-- The event records the EOT position (R68). -/
def Reckoning.recordsEot (r : Reckoning) (e : EdgeEvent) : Bool :=
  e.marker = .eot && e.arrive && e.direction = .forward && markersCount r.mode && r.eot.isNone

/-- A marker edge event at Position Reckoning (R66, R68). -/
def Reckoning.markerEdge (r : Reckoning) (e : EdgeEvent) : Reckoning :=
  if r.reanchors e then r.reanchorBot e
  else if r.recordsEot e then
    { r with eot := some ((r.position * 4096 + r.fraction - lagUnits r e) / 4096) }
  else r

/-- The load point report (R67, R63). -/
def Reckoning.loadPoint (r : Reckoning) : Reckoning :=
  { (r.restartWindows r.supplyWindow.dir) with
    supplyPitch := defaultSupplyPitch, takeupPitch := defaultTakeupPitch, eot := none, nextBlock := 0,
    nextKnown := true, fileNumber := 1, lastBlock := none }

/-- The forward limit (R68). -/
def Reckoning.forwardLimit (r : Reckoning) : Int :=
  match r.eot with
  | some e => min (e + 200000) positionMax
  | none => positionMax

/-! ### Block sequence (R69 to R72) -/

/-- The record length under which an unstamped record counts as a file mark (R70). -/
def kindOfLength (steps : Nat) : RecordKind := if steps < 84 then .fileMark else .data

/-- The sequence that a decoded stamp gives: next block and file number, or nothing when out of range, which a stamp
naming block 16,777,215 or file number 0 is in either direction (R69). -/
def adoptedSequence (dir : Dir) (b f : Nat) (kind : RecordKind) : Option (Nat × Nat) :=
  let next := match dir with | .forward => b + 1 | .backward => b
  let file := match dir, kind with | .forward, .fileMark => f + 1 | _, _ => f
  if 16777215 ≤ b || f < 1 || 65535 < file then none else some (next, file)

/-- The sequence after a record counted without a stamp (R70; log 49). -/
def Reckoning.countRecord (r : Reckoning) (dir : Dir) (kind : RecordKind) : Reckoning :=
  if r.nextKnown then
    let next : Int := r.nextBlock + dirSign dir
    let file : Int := match kind with
      | .data => r.fileNumber
      | .fileMark => r.fileNumber + dirSign dir
    if next < 0 || 16777215 < next || file < 1 || 65535 < file then { r with nextKnown := false }
    else { r with nextBlock := next.toNat, fileNumber := file.toNat }
  else r

/-- The record after a decoded stamp, and whether SEQUENCE ADOPTED is set: it is not when the stamp agrees with a
known sequence, that is, when counting the record would have given the same next block and file number (R69; the
record of block 2,371 in 5.9; log 49). -/
def Reckoning.adopt (r : Reckoning) (dir : Dir) (b f : Nat) (kind : RecordKind) : Reckoning × Bool :=
  match adoptedSequence dir b f kind with
  | none => ({ r with nextKnown := false }, false)
  | some (n, g) =>
    let c := r.countRecord dir kind
    ({ r with nextBlock := n, fileNumber := g, nextKnown := true },
      !(c.nextKnown && c.nextBlock = n && c.fileNumber = g))

/-- The last-block record formed from a passage report (R72); `before` is the record before the count and `r` the
one after it. -/
def lastBlockOf (before r : Reckoning) (p : Passage) : LastBlock :=
  match p.stamp with
  | .decoded b _ kind =>
    { block := some b, start := p.start, length := p.length, kind := kind, stamped := true,
      anchor := r.anchor, bound := r.drift }
  | .none _ =>
    { block :=
        match p.dir with
        | .forward => if before.nextKnown then some before.nextBlock else none
        | .backward => if before.nextKnown && r.nextKnown then some r.nextBlock else none
      start := p.start, length := p.length, kind := kindOfLength p.length, stamped := false,
      anchor := r.anchor, bound := r.drift }

/-- A passage report at Position Reckoning, and whether SEQUENCE ADOPTED is set (R69, R70, R72). -/
def Reckoning.passage (r : Reckoning) (p : Passage) : Reckoning × Bool :=
  match p.stamp with
  | .decoded b f kind =>
    let a := r.adopt p.dir b f kind
    ({ a.1 with lastBlock := some (lastBlockOf r a.1 p) }, a.2)
  | .none _ =>
    let a := r.countRecord p.dir (kindOfLength p.length)
    ({ a with lastBlock := some (lastBlockOf r a p) }, false)

/-- A written-record report at Position Reckoning (R71, R72). The known flag stays as it is, also when a stop has made
the anchor LOST before the report (log 71). -/
def Reckoning.written (r : Reckoning) (w : WrittenReport) : Reckoning :=
  let file := match w.kind with | .fileMark => w.file + 1 | .data => w.file
  { r with
    nextBlock := w.block + 1, fileNumber := if 65535 < file then r.fileNumber else file,
    nextKnown := if 65535 < file then false else r.nextKnown,
    lastBlock := some
      { block := some w.block, start := w.start, length := w.length, kind := w.kind, stamped := true,
        anchor := r.anchor, bound := r.drift } }

/-- A re-anchor request with the measured start, the entry's position and its bound, for block `b` (R73; log 33). The
new position is held to no range here (log 80). -/
def Reckoning.reanchorEntry (r : Reckoning) (b : Nat) (measured entry : Int) (entryBound : Nat) : Reckoning :=
  if r.anchor = .drifted && entryBound < r.drift then
    let shift := entry - measured
    let anchor := if entryBound = 0 then Anchor.anchored else .drifted
    { r with
      position := r.position + shift, anchor := anchor, bound := some entryBound,
      eot := r.eot.map (· + shift),
      lastBlock := r.lastBlock.map fun l =>
        if l.block = some b && l.stamped then { l with start := entry, anchor := anchor, bound := entryBound }
        else { l with start := l.start + shift } }
  else r

end Sys2Proof.Machine
end

