-- ==== Sys2Proof/Machine/DriveOps.lean ====
section
/-! DEFINITION. The Drive Unit on its own record (chapter 3): ramps in time, requests, hold-over, stops, and the
profile. What a request or a stop does to the other blocks stands in Motion.lean, Standstill.lean and ControlOps.lean. -/
namespace Sys2Proof.Machine

/-- The distance of a change of speed from `v` to zero at acceleration `a`: ceil(v² / (2 a)) steps (3.2). -/
def rampDistance (v a : Nat) : Nat := ceilDiv (v * v) (2 * a)

/-- One quarter of V_rw, the creep speed; a remainder is dropped (R22, R47; log 10). -/
def creepSpeed (p : Profile) : Nat := p.vRw / 4

/-- The speed that a RUN request names, in a profile (3.3, R57). -/
def Profile.speed (p : Profile) : RunSpeed → Nat
  | .rw => p.vRw
  | .fs => p.vFs

/-- The Drive Unit is at standstill (R37). -/
def Drive.standstill (d : Drive) : Bool := d.phase = .stopped && d.shuttlePhase = .none

/-- Nothing moves: standstill, and no unthreading wind (R37, R48). -/
def Drive.atRest (d : Drive) : Bool := d.standstill && d.mode ≠ .unthread

/-! ### Time (R37, R48, R50, R55; log 6) -/

/-- A speed with its remainder, in units of 1/20,000,000 step per second. -/
def speedUnits (v rem : Nat) : Nat := v * cyclesPerSecond + rem

/-- A speed rising at acceleration `a` for `n` clock cycles, held to `top`. -/
def rampUp (v rem a n top : Nat) : Nat × Nat :=
  let u := min (speedUnits v rem + a * n) (top * cyclesPerSecond)
  (u / cyclesPerSecond, u % cyclesPerSecond)

/-- A speed falling at acceleration `a` for `n` clock cycles, held to `bottom`. -/
def rampDown (v rem a n bottom : Nat) : Nat × Nat :=
  let u := max (speedUnits v rem - a * n) (bottom * cyclesPerSecond)
  (u / cyclesPerSecond, u % cyclesPerSecond)

/-- The deceleration of the capstan under the stop kind: a_e for EMERGENCY and POWER, a_c otherwise (R37). -/
def Drive.capstanDecel (d : Drive) : Nat :=
  match d.stopKind with
  | .emergency | .power => d.active.aE
  | _ => d.active.aC

/-- The braking rate of a shuttle: twice a_r for EMERGENCY and POWER, a_r otherwise (R50, R53, R54). -/
def Drive.shuttleDecel (d : Drive) : Nat :=
  match d.stopKind with
  | .emergency | .power => 2 * d.active.aR
  | _ => d.active.aR

/-- The capstan command `n` clock cycles later (R37). -/
def Drive.elapseCapstan (d : Drive) (n : Nat) : Drive :=
  let signed (v : Nat) : Int := dirSign d.dir * v
  match d.phase with
  | .accel =>
    let v := d.command.natAbs
    let r := if v ≤ d.targetSpeed then rampUp v d.commandRem d.active.aC n d.targetSpeed
      else rampDown v d.commandRem d.active.aC n d.targetSpeed
    { d with command := signed r.1, commandRem := r.2 }
  | .decel =>
    let r := rampDown d.command.natAbs d.commandRem d.capstanDecel n 0
    { d with command := signed r.1, commandRem := r.2 }
  | _ => d

/-- The shuttle speed `n` clock cycles later (R50, R53). -/
def Drive.elapseShuttle (d : Drive) (r : Reckoning) (n : Nat) : Drive :=
  match d.shuttlePhase with
  | .accel =>
    let u := rampUp d.shuttleSpeed d.shuttleRem d.active.aR n (shuttleLimit d.active r)
    { d with shuttleSpeed := u.1, shuttleRem := u.2 }
  | .brake =>
    let u := rampDown d.shuttleSpeed d.shuttleRem d.shuttleDecel n 0
    { d with shuttleSpeed := u.1, shuttleRem := u.2 }
  | _ => d

/-- The unthreading wind `n` clock cycles later (R48). -/
def Drive.elapseWind (d : Drive) (n : Nat) : Drive :=
  if d.windStopping then
    let u := rampDown d.windSpeed d.windRem d.active.aR n 0
    { d with windSpeed := u.1, windRem := u.2 }
  else d

/-- The stall timer `n` clock cycles later (R55). -/
def Drive.elapseStall (d : Drive) (n : Nat) : Drive :=
  if d.watched.isSome then { d with stallTimer := d.stallTimer + n } else d

/-- One transport `n` clock cycles later: ramps, stall timer and phase timer (log 6). -/
def Transport.elapse (x : Transport) (n : Nat) : Transport :=
  { x with
    drive := (((x.drive.elapseCapstan n).elapseShuttle x.reck n).elapseWind n).elapseStall n,
    ctl := { x.ctl with timer := x.ctl.timer - n } }

/-! ### Counts (R38, R41, R55) -/

/-- A distance counted down by a count in the direction of motion and up by one against it (R38). -/
def countDown (d : Dir) (positive : Bool) (left : Int) : Int :=
  if signDir positive = d then left - 1 else left + 1

/-- A capstan count at the Drive Unit: the stop target and the hold-over distance (R38, R41). Counts at standstill
change neither (R37). -/
def Drive.capstanCount (d : Drive) (positive : Bool) : Drive :=
  if d.phase = .stopped then d
  else
    { d with
      stopTarget := d.stopTarget.map (countDown d.dir positive),
      holdOver := d.holdOver.map fun h => if signDir positive = d.dir then h - 1 else h }

/-- A count of the watched tachometer restarts the stall timer (R55). -/
def Drive.stallCount (d : Drive) (t : Tach) : Drive :=
  if d.watched = some t then { d with stallTimer := 0, stallReported := false } else d

/-! ### Profiles that take effect (R57) -/

/-- A profile becomes active, and none is staged any more. An unthreading wind that is not being stopped runs at the
creep speed of the new profile (R48, R57). -/
def Drive.activate (d : Drive) (p : Profile) : Drive :=
  let winding := d.mode = .unthread && !d.windStopping
  { d with
    active := p, staged := none, windSpeed := if winding then creepSpeed p else d.windSpeed,
    windRem := if winding then 0 else d.windRem }

/-- An accepted profile takes effect at standstill, and is staged otherwise (R57). -/
def Drive.acceptProfile (d : Drive) (p : Profile) : Drive :=
  if d.standstill then d.activate p else { d with staged := some p }

/-- The staged profile takes effect on arrival at standstill (R57). -/
def Drive.takeStaged (d : Drive) : Drive :=
  match d.staged with
  | some p => d.activate p
  | none => d

/-! ### Stops and hold-over (R38, R40, R41, R52 to R54) -/

/-- DECEL begins from ACCEL or RUN; hold-over and stop target end (R37, R41). -/
def Drive.decel (d : Drive) : Drive :=
  match d.phase with
  | .accel | .run => { d with phase := .decel, holdOver := none }
  | _ => d

/-- STOP: a stop at a_c without hold-over; at standstill or in DECEL it changes nothing (R41), and neither does it in a
shuttle (log 90). The stop target ends with it (log 70). -/
def Drive.stop (d : Drive) : Drive :=
  match d.phase with
  | .accel | .run => { d.decel with stopTarget := none, endedBy := .none }
  | _ => d

/-- RECORD END (R41): hold-over becomes ACTIVE with the distance H, or DECEL begins when H is 0. In ACCEL the phase stays
ACCEL and the command goes on changing toward the target speed through the hold-over (log 95). The stop target ends with
it (log 70). -/
def Drive.recordEnd (d : Drive) : Drive :=
  if (d.phase = .accel || d.phase = .run) && d.stopKind = .none then
    if d.active.h = 0 then d.stop else { d with holdOver := some d.active.h, stopTarget := none }
  else d

/-- BRAKE begins from ACCEL or RUN of a shuttle (R50). -/
def Drive.brake (d : Drive) : Drive :=
  match d.shuttlePhase with
  | .accel | .run => { d with shuttlePhase := .brake }
  | _ => d

/-- The motion under way falls to rest at the rates of the stop kind just set: pending request discarded,
hold-over NONE, DECEL, BRAKE, or the unthreading wind brought to 0 (R52 to R54). Stop target and shuttle target end
with it (log 69). -/
def Drive.bringToRest (d : Drive) : Drive :=
  let d := { d.decel.brake with pending := none, holdOver := none, stopTarget := none, shuttleTarget := none }
  if d.mode = .unthread then { d with windStopping := true } else d

/-- A stop of a kind; a softer one never overtakes a harder one (3.6, R52 to R54; log 23). -/
def Drive.beginStop (d : Drive) (k : StopKind) : Drive :=
  let kind := match d.stopKind, k with
    | .emergency, _ => StopKind.emergency
    | .power, .emergency => .emergency
    | .power, _ => .power
    | _, k => k
  { d with stopKind := kind }.bringToRest

/-- The brakes of the reels whose loops are out of their columns are set, outside threading and unthreading
(R45). -/
def Drive.brakeLostLoops (d : Drive) (x : Sensing) : Drive :=
  if d.mode = .thread || d.mode = .unthread then d
  else
    { d with
      supplyReleased := d.supplyReleased && x.loopIn .supply,
      takeupReleased := d.takeupReleased && x.loopIn .takeup }

/-- The capstan disengaged and both brakes set: commands 0, drive mode HALTED (R45). A motion that ends with it comes
to standstill, where the staged profile takes effect (R37, R57). -/
def Drive.disengage (d : Drive) : Drive :=
  { d.takeStaged with
    phase := .stopped, command := 0, commandRem := 0, engaged := false, mode := .halted, stopTarget := none,
    holdOver := none, pending := none, shuttlePhase := .none, shuttleSpeed := 0, shuttleRem := 0,
    shuttleTarget := none, stopKind := .none, supplyReleased := false, takeupReleased := false,
    endedBy := .none, creep := none, windSpeed := 0, windRem := 0, windStopping := false }

/-! ### Requests (R40, R42) -/

/-- A RUN request taken in ACCEL or RUN in the same direction: the speed and the stop target become its own, and
hold-over ends (R40, R42). -/
def Drive.retarget (d : Drive) (speed : Nat) (stopTarget : Option Int) : Drive :=
  { d with
    targetSpeed := speed, stopTarget := stopTarget, holdOver := none, endedBy := .none,
    phase := if d.command.natAbs = speed && d.commandRem = 0 then .run else .accel }

/-- A motion of the capstan begins from standstill: phase ACCEL (R40, R47). -/
def Drive.beginCapstan (d : Drive) (dir : Dir) (speed : Nat) (stopTarget : Option Int) : Drive :=
  { d with
    phase := .accel, command := 0, commandRem := 0, dir := dir, targetSpeed := speed, stopTarget := stopTarget,
    holdOver := none, pending := none, endedBy := .none, creep := none }

/-- A shuttle begins from standstill (R49): engage deasserted, drive mode SHUTTLE, phase ACCEL with speed 0. -/
def Drive.beginShuttle (d : Drive) (dir : Dir) (target : Int) : Drive :=
  { d with
    engaged := false, mode := .shuttle, dir := dir, shuttlePhase := .accel, shuttleSpeed := 0, shuttleRem := 0,
    shuttleTarget := some target, pending := none, endedBy := .none, creep := none, requester := .locate }

/-- The capstan motion ended by a request in the other direction: hold-over ends and DECEL begins at a_c, with the
request pending (R40, R42). -/
def Drive.deferRequest (d : Drive) (r : MotionRequest) : Drive := { d.stop with pending := some r }

/-! ### Stop points (R38, R50) -/

/-- The capstan's distance left to its stop target or, forward, to the forward limit is within the ramp distance
(R38); gives what ends the motion. At equal distances the target ends it (log 56). -/
def capstanStopPoint (d : Drive) (r : Reckoning) : EndedBy :=
  if d.phase = .accel || d.phase = .run then
    let ramp : Int := rampDistance d.command.natAbs d.active.aC
    let toLimit : Option Int := if d.dir = .forward then some (r.forwardLimit - r.position) else none
    let limitHit := toLimit.any fun l => l ≤ ramp
    let targetHit := d.stopTarget.any fun t => t ≤ ramp
    if targetHit && (toLimit.all fun l => (d.stopTarget.getD 0) ≤ l) then .target
    else if limitHit then .limit
    else if targetHit then .target
    else .none
  else .none

/-- The distance left to a shuttle target in the direction of motion (R50), in whole steps: the fraction of the position
is not counted (log 94). -/
def remaining (d : Drive) (r : Reckoning) (target : Int) : Int := dirSign d.dir * (target - r.position)

/-- The shuttle's remaining distance is within the braking distance (R50); gives what ends the shuttle. At equal
distances the target ends it (log 56). -/
def shuttleBrakePointOf (d : Drive) (r : Reckoning) : EndedBy :=
  if d.shuttlePhase = .accel || d.shuttlePhase = .run then
    let ramp : Int := rampDistance d.shuttleSpeed d.active.aR
    let toLimit : Option Int := if d.dir = .forward then some (r.forwardLimit - r.position) else none
    let left := d.shuttleTarget.map (remaining d r)
    let limitHit := toLimit.any fun l => l ≤ ramp
    let targetHit := left.any fun t => t ≤ ramp
    if targetHit && (toLimit.all fun l => (left.getD 0) ≤ l) then .target
    else if limitHit then .limit
    else if targetHit then .target
    else .none
  else .none

/-! ### The profile (R56, R57, R153) -/

/-- A value brought into a range (R56). -/
def profileAdjust (p : Profile) : Profile :=
  let vRw := clampNat 20000 120000 p.vRw
  let aC := clampNat 10000000 80000000 p.aC
  { vRw := vRw,
    vFs := clampNat vRw 240000 p.vFs,
    vSh := clampNat 100000 600000 p.vSh,
    aC := aC,
    aE := clampNat aC 120000000 p.aE,
    aR := clampNat 500000 4000000 p.aR,
    gS := clampNat 8 512 p.gS,
    gT := clampNat 8 512 p.gT,
    sMax := clampNat 4000 32000 p.sMax,
    k := clampNat 16 160 p.k,
    h := clampNat 0 80 p.h,
    stallWindow := clampNat 10 500 p.stallWindow,
    threshold := clampNat 16 240 (p.threshold / 16 * 16) }

/-- A parameter of a SET PROFILE record: from the record when its selection bit is 1, kept otherwise (R153). -/
def profileField (ws : List Word) (i unit old : Nat) : Nat :=
  if (ws.getD 0 0).getLsbD (i - 1) then (ws.getD i 0).toNat * unit else old

/-- The profile formed from a record before R56 brings it into range (R153). -/
def profileFormed (ws : List Word) (old : Profile) : Profile :=
  { vRw := profileField ws 1 10 old.vRw, vFs := profileField ws 2 10 old.vFs,
    vSh := profileField ws 3 10 old.vSh, aC := profileField ws 4 10000 old.aC,
    aE := profileField ws 5 10000 old.aE, aR := profileField ws 6 10000 old.aR,
    gS := profileField ws 7 1 old.gS, gT := profileField ws 8 1 old.gT,
    sMax := profileField ws 9 1 old.sMax, k := profileField ws 10 1 old.k, h := profileField ws 11 1 old.h,
    stallWindow := profileField ws 12 1 old.stallWindow, threshold := profileField ws 13 1 old.threshold }

/-- The profile that a SET PROFILE would replace: the staged one when one is held (R153). -/
def Drive.replaced (d : Drive) : Profile := d.staged.getD d.active


end Sys2Proof.Machine
end

