-- ==== Sys2Proof/Machine/PortOps.lean ====
section
/-! DEFINITION. What the other blocks ask of the Order Port and of the Arbiter (chapter 8): indicators, attention
conditions, requests, and the ending of an order. -/
namespace Sys2Proof.Machine

/-! ### Records of one transport -/

/-- The state with the Order Port's record of a transport changed. -/
def State.modPort (s : State) (t : Tr) (f : Port → Port) : State :=
  s.modTr t fun x => { x with port := f x.port }

/-- The state with the Transport Control record changed. -/
def State.modCtl (s : State) (t : Tr) (f : Control → Control) : State :=
  s.modTr t fun x => { x with ctl := f x.ctl }

/-- The state with the Drive Unit record changed. -/
def State.modDrive (s : State) (t : Tr) (f : Drive → Drive) : State :=
  s.modTr t fun x => { x with drive := f x.drive }

/-- The state with the Read Channel record changed. -/
def State.modChan (s : State) (t : Tr) (f : Channel → Channel) : State :=
  s.modTr t fun x => { x with chan := f x.chan }

/-- The state with the Transfer Unit record changed. -/
def State.modXfer (s : State) (t : Tr) (f : Transfer → Transfer) : State :=
  s.modTr t fun x => { x with xfer := f x.xfer }

/-- The state with the locate plan changed. -/
def State.modLoc (s : State) (t : Tr) (f : Locate → Locate) : State :=
  s.modTr t fun x => { x with loc := f x.loc }

/-- The state with the Sensing Interface changed. -/
def State.modSense (s : State) (t : Tr) (f : Sensing → Sensing) : State :=
  s.modTr t fun x => { x with sense := f x.sense }

/-! ### Indicators and attention (R140, R146) -/

/-- An indicator joins the set while the pointer is IN FLIGHT, a termination held back included, and is dropped
otherwise (R140; log 64). -/
def Port.raiseInd (p : Port) (i : Indicator) : Port :=
  if p.pointer = .inFlight then { p with indicators := p.indicators ||| indicatorBit i } else p

/-- A condition joins the attention set (R146). -/
def Port.raiseAtt (p : Port) (a : Attention) : Port :=
  { p with attention := p.attention ||| attentionBit a }

/-- An indicator handed to the Order Port for a transport. -/
def State.raiseInd (s : State) (t : Tr) (i : Indicator) : State := s.modPort t (·.raiseInd i)

/-- An indicator handed when a condition holds. -/
def State.raiseIndIf (s : State) (t : Tr) (b : Bool) (i : Indicator) : State :=
  if b then s.raiseInd t i else s

/-- A condition raised for a transport. -/
def State.raiseAtt (s : State) (t : Tr) (a : Attention) : State := s.modPort t (·.raiseAtt a)

/-- An order is in flight for R19 and R35: its termination has not been formed. -/
def Port.inFlight (p : Port) : Bool := p.pointer = .inFlight

/-- A cause of R35: it raises its condition only when no order is in flight. -/
def State.raiseCause (s : State) (t : Tr) (a : Attention) : State :=
  if (s.tr t).port.inFlight then s else s.raiseAtt t a

/-- READY or IN MOTION, the states in which a change of the online flag is a cause (R35). -/
def readyOrMoving (c : Control) : Bool := c.state = .ready || c.state = .inMotion

/-- Offline pending takes effect at the end of an order, and is taken as a cause of NOT READY after the order has
ended (R19, R35). -/
def Transport.applyOffline (x : Transport) : Transport :=
  if x.ctl.offlinePending then
    { x with
      ctl := { x.ctl with online := false, offlinePending := false },
      port := if readyOrMoving x.ctl then x.port.raiseAtt .notReady else x.port }
  else x

/-! ### Requests to the Arbiter (R149) -/

/-- A control request of a transport joins the request set. -/
def State.requestControl (s : State) (t : Tr) (x : BusTransfer) : State :=
  { s with arb := { s.arb with control := s.arb.control.set t (some x) } }

/-- A data request of a transport joins the request set. -/
def State.requestData (s : State) (t : Tr) (k : TransferKind) : State :=
  { s with arb := { s.arb with data := s.arb.data.set t (some k) } }

/-- The kind is a data burst (8.6). -/
def dataKind : TransferKind → Bool
  | .readBurst | .writeBurst | .dumpBurst | .loadBurst => true
  | _ => false

/-- A transfer under way of a transport and class, with its outcome delivered to no one (R144, R150). -/
def Arbiter.orphanCurrent (a : Arbiter) (t : Tr) (isData : Bool) : Arbiter :=
  match a.current with
  | some (u, x) => if u = t ∧ dataKind x.kind = isData then { a with current := some (u, { x with orphan := true }) } else a
  | none => a

/-- A requester withdraws its control request: a waiting one leaves the set, one under way runs to its end for no
one (R138, R144, R149). -/
def State.withdrawControl (s : State) (t : Tr) : State :=
  { s with arb := { s.arb with control := s.arb.control.set t none }.orphanCurrent t false }

/-- A requester withdraws its data request, and the outcome of a burst under way is discarded (R149, R168). -/
def State.withdrawData (s : State) (t : Tr) : State :=
  { s with arb := { s.arb with data := s.arb.data.set t none }.orphanCurrent t true }

/-- The transport has a data request waiting or a burst of its own under way (R155, R156). -/
def State.dataBusy (s : State) (t : Tr) : Bool :=
  (s.arb.data.get t).isSome ||
    (match s.arb.current with
      | some (u, x) => u = t && dataKind x.kind && !x.orphan
      | none => false)

/-! ### The end of an order (R141 to R143) -/

/-- A result count as word 7. A count that does not fit in 16 bits has no stated word: it is a free value
(log 4). -/
def countWord (n freeIndex : Nat) : Word :=
  if n ≤ 65535 then BitVec.ofNat 16 n else Config.freeWord freeIndex

/-- The result words 7 to 11 (R141). -/
def resultWords (x : Transport) (r : OrderResult) (freeIndex : Nat) : List Word :=
  [countWord r.count freeIndex, highWord r.value, lowWord r.value, x.port.indicators, terminationWord x r.condition]

/-- The words of the termination write and their byte address (R142): words 7 to 11, and for a LOCATE MARK that
ended with NORMAL words 2 to 11. -/
def terminationTransfer (x : Transport) (r : OrderResult) (freeIndex : Nat) : BusTransfer :=
  let base := x.port.index.toNat * 8
  let tail := resultWords x r freeIndex
  match x.port.copy, r.markBlock with
  | some c, some b =>
    if r.condition = .normal then
      { kind := .termination, address := base + 4, length := 10,
        words := [highWord (unsignedLong b), lowWord (unsignedLong b), c.w4, c.w5, c.w6] ++ tail,
        sizes := [], orphan := false }
    else { kind := .termination, address := base + 14, length := 5, words := tail, sizes := [], orphan := false }
  | _, _ => { kind := .termination, address := base + 14, length := 5, words := tail, sizes := [], orphan := false }

/-- The condition of an order that was in flight when an emergency stop began (R143). -/
def faultStopCondition (p : Port) (c : Condition) : Condition :=
  if p.stopNotice then
    match c with
    | .illegalOrder | .parameter | .busError => c
    | _ => .faultStop
  else c

/-- The termination is formed: a pending change to offline is applied, the pointer becomes TERMINATING, and the
termination write is requested (R19, R141, R142). -/
def State.formTermination (s : State) (t : Tr) (r : OrderResult) : State :=
  let x := (s.tr t).applyOffline
  let r := { r with condition := faultStopCondition x.port r.condition }
  let y := { x with
    port := { x.port with
      pointer := .terminating, result := resultWords x r s.freeIndex, held := none, stopNotice := false } }
  let s' := (s.setTr t y).requestControl t (terminationTransfer x r s.freeIndex)
  { s' with freeIndex := if r.count ≤ 65535 then s.freeIndex else s.freeIndex + 1 }

/-- An emergency stop on a fault cause is under way, not the stop of a failing load (R23, R30). -/
def Control.faultStopping (c : Control) : Bool :=
  c.stopUnderWay && c.state ≠ .threading && c.state ≠ .seekingLoadPoint

/-- The owner reports the end of the order in flight, or validation refuses it (R141, R143). An
order whose termination is held has ended already. -/
def State.endOrder (s : State) (t : Tr) (r : OrderResult) : State :=
  if (s.tr t).port.inFlight && (s.tr t).port.held.isNone then
    if (s.tr t).port.stopNotice && (s.tr t).ctl.stopUnderWay then s.modPort t fun p => { p with held := some r }
    else s.formTermination t r
  else s

/-- The end of an order with a condition, no result count and no result value. -/
def State.endWith (s : State) (t : Tr) (c : Condition) : State :=
  s.endOrder t { condition := c, count := 0, value := 0, markBlock := none }

/-- The termination held during an emergency stop is formed once the stop is complete (R143), with the indicators then
in the set (log 64). -/
def State.releaseHeld (s : State) (t : Tr) : State :=
  match (s.tr t).port.held with
  | some r => if (s.tr t).port.inFlight then s.formTermination t r else s
  | none => s

/-- The Order Port is told that an emergency stop begins (R143, R35; log 30). -/
def Port.stopBegins (p : Port) : Port :=
  match p.pointer with
  | .inFlight => { p with stopNotice := true }
  | .terminating => { p with faultAfter := true }
  | _ => p

/-- The pointer leaves TERMINATING: FAULT is raised for an emergency stop that began meanwhile (R143; log 30). -/
def Port.leaveTerminating (p : Port) : Port :=
  if p.faultAfter then { (p.raiseAtt .fault) with faultAfter := false } else p

/-- The order in flight has been taken by its owner, with this code. -/
def Transport.hasOrder (x : Transport) (code : Nat) : Bool :=
  x.port.inFlight && x.port.stage = .taken && (x.port.copy.any fun c => c.code = code) && x.port.held.isNone

end Sys2Proof.Machine
end

