-- ==== Sys2Proof/Machine/MapOps.lean ====
section
/-! DEFINITION. The Map Store (chapter 6): every change of a reel record goes through `State.setReel`, which keeps
the pool free count. -/
namespace Sys2Proof.Machine

/-- A reel record replaced, with the slots it takes or returns (R93). -/
def State.setReel (s : State) (t : Tr) (r : ReelRecord) : State :=
  { s with store :=
      { reels := s.store.reels.set t r,
        poolFree := s.store.poolFree + (s.reel t).entries.length - r.entries.length } }

/-- The entry list of a reel record replaced. -/
def State.setEntries (s : State) (t : Tr) (es : List Entry) : State :=
  s.setReel t { s.reel t with entries := es }

/-- There is room for one more entry in a record (R93). -/
def State.mapRoom (s : State) (t : Tr) : Bool :=
  1 ≤ s.store.poolFree && (s.reel t).entries.length < 1024

/-! ### Slots (R93; log 9) -/

/-- A pool slot holds an entry of some record. -/
def MapStore.slotUsed (m : MapStore) (n : Nat) : Bool :=
  m.reels.a0.entries.any (·.slot = n) || m.reels.a1.entries.any (·.slot = n) ||
    m.reels.a2.entries.any (·.slot = n) || m.reels.a3.entries.any (·.slot = n)

/-- The first free slot at or above `n`, looking at `k` slots. -/
def MapStore.freeSlotFrom (m : MapStore) : Nat → Nat → Nat
  | 0, n => n
  | k + 1, n => if m.slotUsed n then m.freeSlotFrom k (n + 1) else n

/-- The slot that a new entry takes: the free slot of lowest number (log 9). -/
def MapStore.freeSlot (m : MapStore) : Nat := m.freeSlotFrom 2048 0

/-! ### Lists of entries (R95, R97) -/

/-- The entry with a mark number. -/
def findMark (es : List Entry) (m : Nat) : Option Entry := es.find? (·.mark = m)

/-- The entry that names a block. -/
def findBlock (es : List Entry) (b : Nat) : Option Entry := es.find? (·.block = b)

/-- The entry of greatest block number at or below `b` (R103, R104). -/
def nearestBelow : List Entry → Nat → Option Entry
  | [], _ => none
  | e :: rest, b =>
    match nearestBelow rest b with
    | some f => if e.block ≤ b && f.block < e.block then some e else some f
    | none => if e.block ≤ b then some e else none

/-- A neighbour of the entry placed keeps its place: a lower block lies at a lower position and a higher block at
a higher one (R97). -/
def keepsPlace (e f : Entry) : Bool :=
  (f.block < e.block && f.position < e.position) || (e.block < f.block && e.position < f.position)

/-- An entry placed in its list by its block number, its neighbours giving way (R95, R97). -/
def placeEntry (es : List Entry) (e : Entry) : List Entry :=
  es.filter (fun f => f.block < e.block && keepsPlace e f) ++
    e :: es.filter (fun f => e.block < f.block && keepsPlace e f)

/-- The entries of other blocks that placing an entry retires (R97). -/
def placeRetires (es : List Entry) (e : Entry) : Nat :=
  (es.filter fun f => f.block != e.block && !keepsPlace e f).length

/-- A position below 0 is made 0, and the amount clamped joins the bound, capped at 20,000 (R95). -/
def clampEntry (e : Entry) : Entry :=
  if e.position < 0 then
    { e with position := 0, bound := some (min 20000 (e.bound.getD 0 + e.position.natAbs)) }
  else e

/-! ### Requests of Transport Control (R24, R94) -/

/-- A new ACTIVE record (R24). -/
def newReel (tag : Option Tag) (autoFile : Bool) : ReelRecord :=
  { state := .active, tag := tag, volumeCheck := volumeCheckOf tag, eod := none, autoFile := autoFile,
    entries := [] }

/-- Two tags are equal when both are present and all six characters agree (R24). -/
def tagsEqual (a b : Option Tag) : Bool :=
  match a, b with
  | some x, some y => x = y
  | _, _ => false

/-- The reel record rule at load (R24). -/
def attachReel (r : ReelRecord) (tag : Option Tag) (autoFile : Bool) : ReelRecord :=
  match r.state with
  | .none => newReel tag autoFile
  | _ => if tagsEqual tag r.tag then { r with state := .active } else newReel tag autoFile

/-- The load retires the map that the record held (R24; log 29). -/
def attachRetires (r : ReelRecord) (tag : Option Tag) : Bool := r.state ≠ .none && !tagsEqual tag r.tag

/-- The record brought into use for a LOAD order (R24; log 29). -/
def State.attach (s : State) (t : Tr) (tag : Option Tag) (autoFile : Bool) : State :=
  (s.setReel t (attachReel (s.reel t) tag autoFile)).raiseIndIf t (attachRetires (s.reel t) tag) .mapChanged

/-- The number of entries that bringing the record into use retires (R24). -/
def State.attachCount (s : State) (t : Tr) (tag : Option Tag) : Nat :=
  if attachRetires (s.reel t) tag then (s.reel t).entries.length else 0

/-- The record at the end of a panel load (R24): a NONE record becomes new and ACTIVE, a HELD one stays HELD. -/
def State.attachPanel (s : State) (t : Tr) : State :=
  if (s.reel t).state = .none then s.setReel t (newReel none false) else s

/-- An ACTIVE record is made HELD (R94). -/
def State.holdReel (s : State) (t : Tr) : State :=
  if (s.reel t).state = .active then s.setReel t { s.reel t with state := .held } else s

/-- Every entry of an ACTIVE record is retired and the record becomes NONE (R94). -/
def State.retireReel (s : State) (t : Tr) : State :=
  if (s.reel t).state = .active then
    (s.setReel t .none).raiseIndIf t ((s.reel t).entries ≠ []) .mapChanged
  else s

/-- The number of entries that a request to retire the record retires (R94). -/
def State.retireCount (s : State) (t : Tr) : Nat :=
  if (s.reel t).state = .active then (s.reel t).entries.length else 0

/-! ### Writes (R105 to R107) -/

/-- EOD of an ACTIVE record set to `n`: every entry at or above it is retired, with MAP CHANGED when there was one
(R96, R105; log 59). -/
def State.setEod (s : State) (t : Tr) (n : Nat) : State :=
  let r := s.reel t
  (s.setReel t { r with entries := r.entries.filter (·.block < n), eod := some n }).raiseIndIf t
    (r.entries.any fun e => n ≤ e.block) .mapChanged

/-- A write start for block `n`, or with the block unknown (R105, R106). -/
def State.writeStart (s : State) (t : Tr) (n : Option Nat) : State :=
  let r := s.reel t
  match r.state, n with
  | .none, _ => s
  | .held, _ => (s.setReel t .none).raiseIndIf t (r.entries ≠ []) .mapChanged
  | .active, some n => s.setEod t n
  | .active, none =>
    (s.setReel t { r with entries := [], eod := none }).raiseIndIf t (r.entries ≠ []) .mapChanged

/-! ### Automatic FILE entries (R113, R114) -/

/-- A FILE entry that a step would replace: the same mark at another block (R113). -/
def staleFile (es : List Entry) (b f : Nat) : Bool :=
  es.any fun e => e.mark = 50000 + f && e.kind = .file && e.block != b

/-- The cases in which the step makes no entry (R114), in the order of the table. `sound` is false for a written
file mark that did not read back GOOD or was ended early. Room counts the replaced entry alone (log 83). -/
def fileRefused (s : State) (t : Tr) (b f : Nat) (anchor : Anchor) (sound : Bool) : Bool :=
  let r := s.reel t
  15535 < f || b = 16777215 || (r.eod.any fun n => n ≤ b) ||
    (r.entries.any fun e => e.block = b && e.kind != .file) || anchor = .lost || !sound ||
    !(1 ≤ s.store.poolFree + (if staleFile r.entries b f then 1 else 0) &&
      r.entries.length < 1024 + (if staleFile r.entries b f then 1 else 0))

/-- The automatic FILE entry step for the file mark of block `b` that closes file `f` (R113, R114); a decoded file 0
makes an entry of mark number 50,000 (log 58). A FILE entry of another mark at the same block gives way without MAP
CHANGED (log 72). The entry that stands already is looked for before the cases of R114 (log 84). -/
def State.fileStep (s : State) (t : Tr) (b f : Nat) (start : Int) (anchor : Anchor) (bound : Nat) (sound : Bool) :
    State :=
  let r := s.reel t
  if r.state = .active && r.autoFile then
    if r.entries.any fun e => e.block = b && e.kind = .file && e.mark = 50000 + f then s
    else if fileRefused s t b f anchor sound then s.raiseInd t .mapNotUpdated
    else
      let stale := staleFile r.entries b f
      let s := if stale then
          (s.setEntries t (r.entries.filter fun e => !(e.mark = 50000 + f && e.kind = .file))).raiseInd t .mapChanged
        else s
      let e := clampEntry
        { mark := 50000 + f, kind := .file, block := b, position := start, recordLength := 0,
          bound := if anchor = .drifted then some bound else none, tag := [], slot := s.store.freeSlot }
      let es := (s.reel t).entries
      (s.setEntries t (placeEntry es e)).raiseIndIf t (placeRetires es e ≠ 0) .mapChanged
  else s

/-- A written-record report at the Map Store (R107, R113). Entries at or above the new EOD, which a LOAD MAP taken since
the write start can have brought in, are retired as EOD is set (R96; log 59). -/
def State.mapWritten (s : State) (t : Tr) (w : WrittenReport) (anchor : Anchor) (bound : Nat) : State :=
  if (s.reel t).state = .active then
    let s := s.setEod t (w.block + 1)
    match w.kind with
    | .fileMark => s.fileStep t w.block w.file w.start anchor bound (w.readBack = .good && !w.endedEarly)
    | .data => s
  else s

/-! ### Confirmation on passage (R108 to R111) -/

/-- What confirmation does with an entry (R109). -/
inductive Confirmation where
  | keep
  | upgrade
  | move (bound : Option Nat)
  | reanchor (bound : Nat)
deriving DecidableEq, Repr

/-- The table of R109. -/
def confirmation (e : Entry) (m : Int) (anchor : Anchor) (beta : Nat) : Confirmation :=
  match anchor, e.bound with
  | .anchored, some _ => .upgrade
  | .anchored, none => if (m - e.position).natAbs ≤ 40 then .keep else .move none
  | .drifted, none => .reanchor 0
  | .drifted, some eps => if eps < beta then .reanchor eps else if beta < eps then .move (some beta) else .keep
  | .lost, _ => .keep

/-- An entry moved to a measured start, with its neighbours giving way and MARK MOVED when its position has
changed (R95, R97, R110). -/
def State.moveEntry (s : State) (t : Tr) (e : Entry) (m : Int) (bound : Option Nat) : State :=
  let f := clampEntry { e with position := m, bound := bound }
  let es := (s.reel t).entries
  ((s.setEntries t (placeEntry es f)).raiseIndIf t (placeRetires es f ≠ 0) .mapChanged).raiseIndIf t
    (f.position ≠ e.position) .markMoved

/-- A re-anchor request of the Map Store taken by Position Reckoning (R73, R111; log 32). -/
def State.reanchorRequest (s : State) (t : Tr) (b : Nat) (m q : Int) (bound : Nat) : State :=
  s.modTr t fun x => { x with reck := x.reck.reanchorEntry b m q bound }

/-- The entry for a decoded block confirmed against its measured start (R109, R110). -/
def State.confirmEntry (s : State) (t : Tr) (e : Entry) (m : Int) (anchor : Anchor) (bound : Nat) : State :=
  match confirmation e m anchor bound with
  | .keep => s
  | .upgrade => s.moveEntry t e m none
  | .move b => s.moveEntry t e m b
  | .reanchor b => s.reanchorRequest t e.block m e.position b

/-- A FILE entry that does not agree with the stamp of its block (R108). -/
def fileDisagrees (e : Entry) (f : Nat) (kind : RecordKind) : Bool :=
  e.kind = .file && (kind = .data || e.mark ≠ 50000 + f)

/-- A stamp report at the Map Store (R108). -/
def State.stampReport (s : State) (t : Tr) (b f : Nat) (kind : RecordKind) (m : Int) (anchor : Anchor) (bound : Nat) :
    State :=
  if (s.reel t).state = .active then
    let s := match findBlock (s.reel t).entries b with
      | some e =>
        if fileDisagrees e f kind then
          (s.setEntries t ((s.reel t).entries.filter (·.block ≠ b))).raiseInd t .mapChanged
        else s.confirmEntry t e m anchor bound
      | none => s
    match kind with
    | .fileMark => s.fileStep t b f m anchor bound true
    | .data => s
  else s

/-! ### Host entries (R99 to R102) -/

/-- The operands of an ENTER MARK (8.8). -/
structure EnterOperands where
  mark : Nat
  kindField : Nat
  replace : Bool
  recordLength : Nat
  tagLength : Nat
deriving DecidableEq, Repr

/-- The operands of an ENTER MARK in its order copy (8.8). -/
def enterOperands (c : OrderCopy) : EnterOperands :=
  { mark := c.opA, kindField := c.kindField, replace := c.modifier 8, recordLength := c.opB, tagLength := c.opC }

/-- The record length fits the last block (R99). -/
def lengthFits (l : LastBlock) (n : Nat) : Bool :=
  match l.kind with
  | .fileMark => n = 0
  | .data => 1 ≤ n && 80 + ceilDiv (n + 10) 6 = l.length

/-- Checks 1 and 2 of ENTER MARK, which do not depend on the map (R98, R99). -/
def enterCheckOperands (r : ReelRecord) (o : EnterOperands) : Option Condition :=
  if r.state ≠ .active then some .notReady
  else if o.mark < 1 || 49999 < o.mark || (kindOfField o.kindField).isNone || 4 < o.tagLength ||
      65535 < o.recordLength then some .parameter
  else none

/-- Checks 3 to 10 of ENTER MARK, in the order of the table (R99). Room counts the replaced entry alone (log 83). -/
def enterCheckMap (s : State) (t : Tr) (o : EnterOperands) : Option Condition :=
  let r := s.reel t
  let k := (s.tr t).reck
  let replaced := if (findMark r.entries o.mark).isSome then 1 else 0
  if k.anchor = .lost then some .positionLost
  else
    match k.lastBlock with
    | none => some .noBlock
    | some l =>
      match l.block with
      | none => some .noSequence
      | some b =>
        if b = 16777215 || (r.eod.any fun n => n ≤ b) then some .beyondEnd
        else if !lengthFits l o.recordLength then some .parameter
        else if (findMark r.entries o.mark).isSome && !o.replace then some .duplicate
        else if r.entries.any fun e => e.block = b && e.mark != o.mark then some .duplicate
        else if !(1 ≤ s.store.poolFree + replaced && r.entries.length < 1024 + replaced) then some .mapFull
        else none

/-- The entry that an ENTER MARK makes from the last-block record, before its slot is known (R100). -/
def enteredEntry (l : LastBlock) (o : EnterOperands) (tag : List Word) (slot : Nat) : Entry :=
  clampEntry
    { mark := o.mark, kind := (kindOfField o.kindField).getD .note, block := l.block.getD 0, position := l.start,
      recordLength := o.recordLength, bound := if l.anchor = .drifted then some l.bound else none, tag := tag,
      slot := slot }

/-- The change of an ENTER MARK that passes its checks, and the order's end (R100). -/
def State.enterApply (s : State) (t : Tr) (o : EnterOperands) (l : LastBlock) (tag : List Word) : State :=
  let s := if o.replace then s.setEntries t ((s.reel t).entries.filter (·.mark ≠ o.mark)) else s
  let e := enteredEntry l o tag s.store.freeSlot
  let es := (s.reel t).entries
  let n := placeRetires es e
  ((s.setEntries t (placeEntry es e)).raiseIndIf t (n ≠ 0) .mapChanged).endOrder t
    { condition := .normal, count := n, value := signedLong e.position, markBlock := none }

/-- The third stage of an ENTER MARK (R98 to R100). -/
def State.enterStage3 (s : State) (t : Tr) (o : EnterOperands) (tag : List Word) : State :=
  match enterCheckOperands (s.reel t) o with
  | some c => s.endWith t c
  | none =>
    match enterCheckMap s t o with
    | some c => s.endWith t c
    | none =>
      match (s.tr t).reck.lastBlock with
      | some l => s.enterApply t o l tag
      | none => s.endWith t .noBlock

/-- Mark numbers 0 and 50,000 are out of range for every order (R98). -/
def markInRange (m : Nat) : Bool := m ≠ 0 && m ≠ 50000 && m ≤ 65535

/-- The operands of an AMEND MARK (8.8): without NEW TAG operand C is not read. -/
structure AmendOperands where
  mark : Nat
  kindField : Nat
  newTag : Bool
  tagLength : Nat
deriving DecidableEq, Repr

/-- The operands of an AMEND MARK in its order copy (8.8). -/
def amendOperands (c : OrderCopy) : AmendOperands :=
  { mark := c.opA, kindField := c.kindField, newTag := c.modifier 11,
    tagLength := if c.modifier 11 then c.opC else 0 }

/-- The checks of AMEND MARK that do not depend on the map (R98, R101, 8.8): NOT READY comes before PARAMETER
(log 96). -/
def amendCheckOperands (r : ReelRecord) (o : AmendOperands) : Option Condition :=
  if r.state = .none then some .notReady
  else if !markInRange o.mark || 4 < o.tagLength || o.kindField = 3 then some .parameter
  else none

/-- An entry amended by the choices of the order (R101). -/
def amendEntry (e : Entry) (o : AmendOperands) (tag : List Word) : Entry :=
  { e with kind := (kindOfField o.kindField).getD e.kind, tag := if o.newTag then tag else e.tag }

/-- The third stage of an AMEND MARK (R98, R101). -/
def State.amendStage3 (s : State) (t : Tr) (o : AmendOperands) (tag : List Word) : State :=
  match amendCheckOperands (s.reel t) o with
  | some c => s.endWith t c
  | none =>
    match findMark (s.reel t).entries o.mark with
    | none => s.endWith t .noSuchMark
    | some e =>
      if e.kind = .file && (kindOfField o.kindField).isSome then s.endWith t .parameter
      else
        (s.setEntries t ((s.reel t).entries.map fun f => if f.mark = o.mark then amendEntry f o tag else f)).endOrder t
          { condition := .normal, count := 0, value := signedLong e.position, markBlock := none }

/-- The entries that stay after a RETIRE MARK of `e` (R102). -/
def retireKeeps (es : List Entry) (e : Entry) (following : Bool) : List Entry :=
  es.filter fun f => if following then f.block < e.block else f.block ≠ e.block

/-- RETIRE MARK, whose stages come at one moment since it carries no tag (R98, R102). NOT READY comes before PARAMETER
(log 96). -/
def State.retireStage3 (s : State) (t : Tr) (mark : Nat) (following : Bool) : State :=
  let r := s.reel t
  if r.state = .none then s.endWith t .notReady
  else if !markInRange mark then s.endWith t .parameter
  else
    match findMark r.entries mark with
    | none => s.endWith t .noSuchMark
    | some e =>
      let kept := retireKeeps r.entries e following
      (s.setEntries t kept).endOrder t
        { condition := .normal, count := r.entries.length - kept.length, value := signedLong e.position,
          markBlock := none }

end Sys2Proof.Machine
end

