-- ==== Sys2Proof/Machine/Motion.lean ====
section
/-! DEFINITION. What the blocks ask of the Drive Unit (R40, R41, R47), and the changes of the anchor that reach the
Locate Unit (R60, R135). A request taken at standstill becomes the pending request; Standstill.lean begins it. -/
namespace Sys2Proof.Machine

/-! ### The anchor (R60, R135) -/

/-- Transport Control lets the Locate Unit act: permission FULL and no emergency stop under way (R134). -/
def Transport.locateFree (x : Transport) : Bool :=
  x.ctl.permission = .full && !x.ctl.stopUnderWay

/-- A failure is noted in the locate plan; the first one noted stands (R133). -/
def Locate.fail (l : Locate) (c : Condition) : Locate :=
  { l with failing := some (l.failing.getD c) }

/-- The Locate Unit takes a change of the anchor to LOST (R135): in a LOCATE MARK or LOCATE BLOCK it notes
POSITION LOST, and asks for STOP in capstan motion (log 25). -/
def Transport.locateLost (x : Transport) : Transport :=
  if x.locateFree && (x.loc.order = .locateMark || x.loc.order = .locateBlock) then
    { x with
      loc := x.loc.fail .positionLost,
      drive := if x.drive.shuttlePhase = .none then x.drive.stop else x.drive }
  else x

/-- One transport with its reckoning replaced; a change to LOST is handed to the Locate Unit (R60, R135). -/
def Transport.setReck (x : Transport) (r : Reckoning) : Transport :=
  if x.reck.anchor ≠ .lost && r.anchor = .lost then { x with reck := r }.locateLost else { x with reck := r }

/-- The state with the reckoning of a transport changed. -/
def State.modReck (s : State) (t : Tr) (f : Reckoning → Reckoning) : State :=
  s.modTr t fun x => x.setReck (f x.reck)

/-- Transport Control asks Position Reckoning to make the anchor LOST (R60). -/
def State.loseAnchor (s : State) (t : Tr) : State := s.modReck t (·.becomeLost)

/-! ### Requests (R40 to R42, R47) -/

/-- The capstan is in ACCEL or RUN. -/
def Drive.driving (d : Drive) : Bool := d.phase = .accel || d.phase = .run

/-- A RUN request at the Drive Unit (R40, R42). Under another permission than FULL it is refused. One that waits keeps
the name of its speed (R57); one taken in a shuttle waits for the shuttle's own end (log 90). -/
def Transport.run (x : Transport) (who : Requester) (dir : Dir) (speed : RunSpeed) (target : Option Int) : Transport :=
  if x.ctl.permission ≠ .full then x
  else
    let d := { x.drive with requester := who }
    let r := MotionRequest.run dir speed target who
    if x.sense.pathGood && d.driving && d.stopKind = .none then
      if dir = d.dir then { x with drive := d.retarget (d.active.speed speed) target } else { x with drive := d.deferRequest r }
    else { x with drive := { d with pending := some r } }

/-- A SHUTTLE request of the Locate Unit at the Drive Unit (R40, R49). -/
def Transport.shuttle (x : Transport) (dir : Dir) (target : Int) : Transport :=
  if x.ctl.permission ≠ .full then x
  else
    let d := { x.drive with requester := .locate }
    let r := MotionRequest.shuttle dir target
    if x.sense.pathGood && d.driving && d.stopKind = .none then { x with drive := d.deferRequest r }
    else { x with drive := { d with pending := some r } }

/-- A creep request of Transport Control at the Drive Unit (R47). -/
def Transport.creep (x : Transport) (dir : Dir) (limit : Option Int) (unload : Bool) : Transport :=
  if x.ctl.permission ≠ .creep then x
  else
    let d := { x.drive with requester := .transport }
    let r := MotionRequest.creep dir limit unload
    if x.sense.pathGood && d.driving && d.stopKind = .none then
      if dir = d.dir && d.creep.isSome then
        { x with drive := { (d.retarget (creepSpeed d.active) limit) with creep := some unload } }
      else { x with drive := d.deferRequest r }
    else { x with drive := { d with pending := some r } }

/-- STOP from the Transfer Unit or the Locate Unit (R41). The asker is the requester from then on (R116, R158). -/
def Transport.stop (x : Transport) (who : Requester) : Transport :=
  { x with drive := { x.drive with requester := who }.stop }

/-- RECORD END from the Transfer Unit (R41). -/
def Transport.recordEnd (x : Transport) : Transport := { x with drive := x.drive.recordEnd }

/-- The Drive Unit brings the tape to rest at Transport Control's wish to stop a creep (R22, R27, R47): the capstan
at a_c, the unthreading wind at a_r. -/
def Drive.stopCreep (d : Drive) : Drive :=
  if d.mode = .unthread then { d with windStopping := true, pending := none }
  else { d.stop with pending := none }

end Sys2Proof.Machine
end

