-- ==== Sys2Proof/Machine/ChannelOps.lean ====
section
/-! DEFINITION. The Read Channel on its own record (chapter 5): the detector, the decoder, the judgement of a record,
and the writing of a formation. What a report does at the other blocks stands in Reports.lean. -/
namespace Sys2Proof.Machine

/-! ### The detector step (R75, R78) -/

/-- The adjusted envelope e′ (R75). -/
def adjustedEnvelope (c : Settings) (h : HeadSample) : Nat :=
  (max 0 (min 255 ((h.envelope.toNat : Int) - c.trim))).toNat

/-- A start step (R75). -/
def startStep (c : Settings) (h : HeadSample) : Bool :=
  c.tStart ≤ adjustedEnvelope c h && c.dMin ≤ min 255 h.pulses

/-- A low step (R75). -/
def lowStep (c : Settings) (h : HeadSample) : Bool := adjustedEnvelope c h < c.tEnd

/-- A capstan count is a step of the detector: in the direction of a capstan motion under way in drive mode CAPSTAN
(R75). -/
def Drive.isStep (d : Drive) (positive : Bool) : Bool :=
  d.mode = .capstan && d.phase ≠ .stopped && signDir positive = d.dir

/-- A step is a forward step (R85, R86). -/
def Drive.isForwardStep (d : Drive) (positive : Bool) : Bool := d.isStep positive && d.dir = .forward

/-- The blank watch on a step: a low step counts, every other step sets the count to 0 (R78). -/
def Channel.watchStep (c : Channel) (h : HeadSample) : Channel :=
  { c with blankWatch := c.blankWatch.map fun w =>
      if lowStep c.settings h then (w.1, min 60000 (w.2 + 1)) else (w.1, 0) }

/-- The blank watch turned on for a block, with run count 0 (R78). -/
def Channel.watchOn (c : Channel) (who : Requester) : Channel := { c with blankWatch := some (who, 0) }

/-- The blank watch turned off by the block that turned it on (R78). -/
def Channel.watchOff (c : Channel) (who : Requester) : Channel :=
  { c with blankWatch := c.blankWatch.filter fun w => w.1 ≠ who }

/-- The detector mode replaced (R79). -/
def Channel.setMode (c : Channel) (m : DetectorMode) : Channel := { c with mode := m }

/-! ### Settings (R90) -/

/-- The phase becomes HUNT with no record in progress, and pending settings take effect (R77, R90). -/
def Channel.toHunt (c : Channel) : Channel :=
  { c with
    phase := .hunt, record := none, settings := c.pendingSettings.getD c.settings, pendingSettings := none }

/-- Accepted settings (R90). -/
def Channel.accept (c : Channel) (x : Settings) : Channel :=
  if c.phase = .hunt then { c with settings := x, pendingSettings := none } else { c with pendingSettings := some x }

/-- The settings a SET DETECTOR record carries: T values and D_min unsigned, the trim signed (R89, 8.8). -/
def settingsOfWords (ws : List Word) : Settings :=
  { tStart := (ws.getD 0 0).toNat, tEnd := (ws.getD 1 0).toNat, dMin := (ws.getD 2 0).toNat,
    trim := (ws.getD 3 0).toInt }

/-- Every value lies in its range and T_start is above T_end (R89). -/
def settingsInRange (x : Settings) : Bool :=
  1 ≤ x.tStart && x.tStart ≤ 255 && x.tEnd ≤ 254 && x.dMin ≤ 255 && -64 ≤ x.trim && x.trim ≤ 63 &&
    x.tEnd < x.tStart

/-! ### The record in progress (R76, R79, R80, R83) -/

/-- The data bytes of a record as it passes forward, as far as they are known not to be part of the check: those
after the stamp with two bytes assembled behind them (R83). -/
def knownData (bs : List Byte) : List Byte := (bs.take (bs.length - 2)).drop 8

/-- The running sum of 5.3: the bytes after the eighth, less the last two. -/
def runningSum (bs : List Byte) : Word := byteSum (knownData bs)

/-- The record opened in HUNT by a start step (R76, R79). -/
def Channel.opened (c : Channel) (d : Drive) (position : Int) : RecordInProgress :=
  let mode : DetectorMode :=
    if c.mode = .spacing || d.active.vRw < d.command.natAbs then .spacing else .decode
  { dir := d.dir, mode := mode, start := position, fall := position, qualify := 1, low := 0, locked := false,
    bytes := [], sum := 0, trailBytes := [], trailLocked := false, trailClosed := false, closed := false,
    wanted := c.handOver = .asked && mode = .decode && d.dir = .forward, handed := 0 }

/-- Bytes joined to a record, at most 65,545 in all, of which the first are kept (5.3; log 81). -/
def RecordInProgress.join (r : RecordInProgress) (bs : List Byte) : RecordInProgress :=
  let all := (r.bytes ++ bs).take 65545
  { r with bytes := all, sum := runningSum all }

/-- What one step brings the decoder of a record (R80): lock and the end of the list as they are after it, and the
bytes it assembles. -/
structure DecoderStep where
  locked : Bool
  closed : Bool
  bytes : List Byte
deriving DecidableEq, Repr

/-- A step at the decoder with lock and the end of the list as they stand: the sync search within 60 steps of the
start, then assembly up to the sync mark that opens the far amble (R80). -/
def RecordInProgress.hear (r : RecordInProgress) (locked closed : Bool) (h : HeadSample) (position : Int) :
    DecoderStep :=
  if r.mode = .spacing || (locked && closed) then { locked := locked, closed := closed, bytes := [] }
  else if locked then { locked := true, closed := h.sync, bytes := h.bytes }
  else if h.sync && (position - r.start).natAbs ≤ 60 then { locked := true, closed := closed, bytes := h.bytes }
  else { locked := false, closed := closed, bytes := [] }

/-- The decoder on a step inside a record (R80). -/
def RecordInProgress.decode (r : RecordInProgress) (h : HeadSample) (position : Int) : RecordInProgress :=
  let a := r.hear r.locked r.closed h position
  { (r.join a.bytes) with locked := a.locked, closed := a.closed }

/-- The fall of a record: the decoder goes on apart from it while the record may still go on (R76, R80). -/
def RecordInProgress.fallsAt (r : RecordInProgress) (position : Int) : RecordInProgress :=
  { r with fall := position, low := 0, trailBytes := [], trailLocked := r.locked, trailClosed := r.closed }

/-- The decoder on a low step after the fall position, apart from the record (R80). -/
def RecordInProgress.trail (r : RecordInProgress) (h : HeadSample) (position : Int) : RecordInProgress :=
  let a := r.hear r.trailLocked r.trailClosed h position
  { r with
    low := r.low + 1, trailBytes := r.trailBytes ++ a.bytes, trailLocked := a.locked, trailClosed := a.closed }

/-- The record resumed from TRAIL: what the decoder met since the fall position is part of it (R76, R80). -/
def RecordInProgress.resume (r : RecordInProgress) : RecordInProgress :=
  { (r.join r.trailBytes) with locked := r.trailLocked, closed := r.trailClosed, trailBytes := [], low := 0 }

/-- The detector phase on a step (R76); at 20 start steps RECORD QUALIFIED and at 60 low steps RECORD END are due
(log 3). -/
def Channel.phaseStep (c : Channel) (d : Drive) (h : HeadSample) (position : Int) : Channel :=
  match c.phase, c.record with
  | .hunt, _ =>
    if startStep c.settings h then
      { c with phase := .qualify, record := some ((c.opened d position).decode h position) }
    else c
  | .qualify, some r =>
    if startStep c.settings h then
      { c with record := some { (r.decode h position) with qualify := r.qualify + 1 } }
    else c.toHunt
  | .inRecord, some r =>
    if lowStep c.settings h then
      { c with phase := .trail, record := some ((r.fallsAt position).trail h position) }
    else { c with record := some (r.decode h position) }
  | .trail, some r =>
    if lowStep c.settings h then { c with record := some (r.trail h position) }
    else { c with phase := .inRecord, record := some (r.resume.decode h position) }
  | _, none => c.toHunt

/-- RECORD QUALIFIED is due: 20 consecutive start steps (R76). -/
def Channel.qualifiedDue (c : Channel) : Bool :=
  c.phase = .qualify && c.record.any fun r => 20 ≤ r.qualify

/-- The phase becomes IN RECORD (R76). -/
def Channel.qualified (c : Channel) : Channel := { c with phase := .inRecord }

/-- RECORD END is due: 60 low steps in a row (R76, R77). -/
def Channel.recordEndDue (c : Channel) : Bool :=
  c.phase = .trail && c.record.any fun r => 60 ≤ r.low

/-- BLANK is due: 60,000 low steps in a row (R78). -/
def Channel.blankDue (c : Channel) : Bool := c.blankWatch.any fun w => 60000 ≤ w.2

/-- The record in progress that is wanted by the Transfer Unit has just locked, so the handing begins (R83). -/
def Channel.beginsHanding (c : Channel) : Bool :=
  c.handOver = .asked && c.record.any fun r => r.wanted && r.locked

/-- The data bytes that the record in progress has ready to hand over (R83). -/
def Channel.ready (c : Channel) : List Byte :=
  if c.handOver = .handing then
    match c.record with
    | some r => if r.wanted then (knownData r.bytes).drop r.handed else []
    | none => []
  else []

/-- The bytes that are ready have been handed over (R83). -/
def Channel.handedOver (c : Channel) : Channel :=
  { c with record := c.record.map fun r => { r with handed := r.handed + c.ready.length } }

/-! ### The judgement of a record (R77, R80 to R82, R84) -/

/-- A record's length in steps: from its start to its fall position (R76). -/
def RecordInProgress.length (r : RecordInProgress) : Nat := (r.fall - r.start).natAbs

/-- The lower-position end of a record (R76). -/
def RecordInProgress.lowerEnd (r : RecordInProgress) : Int :=
  match r.dir with
  | .forward => r.start
  | .backward => r.fall

/-- The list as written: reversed when the record passed backward (R80). -/
def RecordInProgress.asWritten (r : RecordInProgress) : List Byte :=
  match r.dir with
  | .forward => r.bytes
  | .backward => r.bytes.reverse

/-- The block number of a stamp (5.4). -/
def stampBlock (bs : List Byte) : Nat :=
  (bs.getD 0 0).toNat * 65536 + (bs.getD 1 0).toNat * 256 + (bs.getD 2 0).toNat

/-- The file number of a stamp (5.4). -/
def stampFile (bs : List Byte) : Nat := (bs.getD 3 0).toNat * 256 + (bs.getD 4 0).toNat

/-- The kind of a stamp; absent when its byte is neither 1 nor 2 (5.4, R81). -/
def stampKind (bs : List Byte) : Option RecordKind :=
  if bs.getD 5 0 = 1 then some .data else if bs.getD 5 0 = 2 then some .fileMark else none

/-- The stamp of a locked record judged (R81); `reel` is the transport's reel record. -/
def judgeStamp (bs : List Byte) (reel : ReelRecord) : Stamp :=
  if bs.length < 10 then .none .bad
  else if byteSum8 (bs.take 8) ≠ 255 then .none .bad
  else
    match stampKind bs with
    | none => .none .bad
    | some kind =>
      if kind = .fileMark && 10 < bs.length then .none .bad
      else if reel.state = .active && bs.getD 6 0 ≠ reel.volumeCheck then .none .foreign
      else .decoded (stampBlock bs) (stampFile bs) kind

/-- The stamp of a record (R81). -/
def RecordInProgress.stamp (r : RecordInProgress) (reel : ReelRecord) : Stamp :=
  if r.mode = .spacing then .none .spaced
  else if r.locked then judgeStamp r.asWritten reel
  else .none .absent

/-- The data bytes of a record as written (R82). -/
def dataOf (bs : List Byte) : List Byte := (bs.take (bs.length - 2)).drop 8

/-- The record check read (R82). -/
def checkOf (bs : List Byte) : Word := wordOf (bs.getD (bs.length - 2) 0) (bs.getD (bs.length - 1) 0)

/-- The record check result (R82). -/
def RecordInProgress.check (r : RecordInProgress) : CheckResult :=
  if r.locked && 10 ≤ r.bytes.length then
    if byteSum (dataOf r.asWritten) = checkOf r.asWritten then .good else .bad
  else .notChecked

/-- The passage report of a record (R84). -/
def RecordInProgress.passage (r : RecordInProgress) (reel : ReelRecord) : Passage :=
  { dir := r.dir, start := r.lowerEnd, length := r.length,
    dataLength := if r.check = .notChecked then none else some (r.bytes.length - 10),
    stamp := r.stamp reel, check := r.check }

/-- The stamp of a passage report as its block, file and kind, when DECODED (R81). -/
def Passage.decoded (p : Passage) : Option (Nat × Nat × RecordKind) :=
  match p.stamp with
  | .decoded b f k => some (b, f, k)
  | .none _ => none

/-! ### Writing (R85 to R88, R91) -/

/-- The activity replaced; the write gate is open in ERASING and FORMING (5.6). -/
def Channel.setActivity (c : Channel) (a : Activity) : Channel :=
  { c with activity := a, writeGate := a ≠ .listen }

/-- An erase request, taken in LISTEN (R85). -/
def Channel.erase (c : Channel) : Channel :=
  match c.activity with
  | .listen => c.setActivity .erasing
  | _ => c

/-- A request to end erasing, taken in ERASING (R85). -/
def Channel.endErasing (c : Channel) : Channel :=
  match c.activity with
  | .erasing => c.setActivity .listen
  | _ => c

/-- A form request, taken in ERASING and refused in any other activity (R86). -/
def Channel.form (c : Channel) (kind : RecordKind) (block file declared : Nat) (volumeCheck : Byte) : Channel :=
  match c.activity with
  | .erasing =>
    { c with
      formation := some
        { block := block, file := file, kind := kind, volumeCheck := volumeCheck, declared := declared,
          phase := .waiting, ambleSteps := 0, partBytes := 0, written := 0, sum := 0, bytes := [], start := 0, steps := 0,
          fill := false, cut := false, hostBytes := 0, readBacks := 0, readBackGood := false, due := false,
          spoiled := false } }
  | _ => c

/-- A fill asked by the Transfer Unit (R87): it ends a formation whose preamble has not begun, and changes nothing
while a record is being ended early or when no data byte is left to write. -/
def Channel.fill (c : Channel) : Channel :=
  match c.formation with
  | none => c
  | some f =>
    match f.phase with
    | .waiting => { c with formation := none }
    | .preamble | .stamp | .data =>
      if f.fill || f.cut then c else { c with formation := some { f with fill := true } }
    | _ => c

/-- A cut of a formation in FORMING (R87): in PREAMBLE or STAMP that part and the stamp complete and no data
follows; in DATA the forced check follows at once; later the record completes as it stands. A cut taken during a
fill ends the fill as a cut. -/
def Formation.cutNow (f : Formation) : Formation :=
  match f.phase with
  | .preamble | .stamp => if f.cut then f else { f with cut := true, fill := false }
  | .data => if f.cut then f else { f with cut := true, fill := false, phase := .check, partBytes := 0 }
  | _ => f

/-- A cut asked of the channel (R87): a formation not yet begun ends. -/
def Channel.cut (c : Channel) : Channel :=
  { c with formation :=
      match c.formation with
      | none => none
      | some f => if f.phase = .waiting then none else some f.cutNow }

/-- The record is, or will be, ended early (R87, R88). -/
def Formation.endedEarly (f : Formation) : Bool := f.fill || f.cut

/-- The written-record report of a formation (R88). -/
def Formation.report (f : Formation) (readBack : CheckResult) : WrittenReport :=
  { block := f.block, file := f.file, kind := f.kind, start := f.start, length := f.steps,
    dataLength := f.written, hostBytes := f.hostBytes, readBack := readBack, endedEarly := f.endedEarly }

/-- The read-back result that the detector has reached (R88). -/
def Formation.readBack (f : Formation) : CheckResult :=
  if f.readBacks = 1 && f.readBackGood && !f.spoiled then .good else .bad

/-- A record closed while a formation is on tape serves its read-back (R77, R88; log 37). -/
def Formation.closes (f : Formation) (r : RecordInProgress) (reel : ReelRecord) : Formation :=
  if f.phase = .waiting || r.length < 82 then f
  else
    { f with
      readBacks := f.readBacks + 1,
      readBackGood := r.stamp reel = .decoded f.block f.file f.kind && r.check = .good &&
        r.bytes.length - 10 = f.declared }

/-- WRITTEN RECORD REPORT is due: 60 forward steps after the postamble (R88). -/
def Channel.reportDue (c : Channel) : Bool :=
  c.formation.any fun f => f.phase = .after && 60 ≤ f.ambleSteps

/-- POSTAMBLE COMPLETE is due (R86). -/
def Channel.postambleDue (c : Channel) : Bool :=
  c.formation.any fun f => f.phase = .postamble && 40 ≤ f.ambleSteps

/-- The postamble is complete: the activity returns to ERASING and the gap is erased (R86). -/
def Channel.postambleComplete (c : Channel) : Channel :=
  { (c.setActivity .erasing) with formation := c.formation.map fun f => { f with phase := .after, ambleSteps := 0 } }

/-- The channel's conditions of R86 other than the start condition, at the last count. -/
def formReady (x : Transport) (f : Formation) : Bool :=
  x.drive.phase = .run && x.drive.dir = .forward && x.drive.command = (x.drive.active.vRw : Int) &&
    (f.block ≠ 0 || 1500 ≤ x.reck.position) &&
    (match x.reck.lastBlock with
      | none => true
      | some l => !(l.block.any fun b => b + 1 = f.block) || l.start + l.length + 300 ≤ x.reck.position)

/-- The Transfer Unit's start condition (R162): the FIFO holds the smaller of n and the service threshold. -/
def startCondition (x : Transport) (f : Formation) : Bool :=
  min f.declared x.drive.active.threshold ≤ x.xfer.fifo.length

/-- A forward step of a formation that waits for its preamble (R86, R163): the start is due when every condition
holds; otherwise, once the channel's own conditions have held, the step lengthens the gap (log 38). -/
def Transport.waitStep (x : Transport) (f : Formation) : Transport :=
  let due := formReady x f && startCondition x f
  { x with
    chan := { x.chan with formation := some { f with due := due } },
    xfer :=
      if !due && (formReady x f || 0 < x.xfer.gapExtension) then
        { x.xfer with gapExtension := min 3000 (x.xfer.gapExtension + 1) }
      else x.xfer }

/-- FORMING begins: the preamble start is recorded, and the step is the first of the preamble (R86; log 22). -/
def Transport.beginForming (x : Transport) : Transport :=
  { x with
    chan := { (x.chan.setActivity .forming) with
      formation := x.chan.formation.map fun f =>
        { f with phase := .preamble, start := x.reck.position, ambleSteps := 1, steps := 1, due := false,
                 spoiled := !x.sense.writeRing.level } } }

/-- The Transfer Unit's part of an underrun (R164): a fill, DATA LATE, BLOCK DAMAGED, no further requests, and the
bytes of a burst under way discarded. A request that waits already stays (log 89). -/
def Transfer.underrun (x : Transfer) : Transfer :=
  { x with
    held := some (match x.held with | some .busError => .busError | _ => .dataLate),
    own := x.own ||| indicatorBit .blockDamaged, quiet := true, spilling := true }

/-- A byte put on tape. -/
def Formation.put (f : Formation) (b : Byte) : Formation := { f with bytes := f.bytes ++ [b] }

/-- The stamp of a record as it is written (5.4): block, file, kind, volume check, and the stamp check. -/
def stampBytes (block file : Nat) (kind : RecordKind) (volumeCheck : Byte) : List Byte :=
  let fields : List Byte :=
    [ BitVec.ofNat 8 (block / 65536), BitVec.ofNat 8 (block / 256), BitVec.ofNat 8 block,
      BitVec.ofNat 8 (file / 256), BitVec.ofNat 8 file,
      (match kind with | .data => 1 | .fileMark => 2), volumeCheck ]
  fields ++ [255 - byteSum8 fields]

/-- The record check of a formation: the sum of the data bytes written, and for a record ended early the forced bad
check, 65,535 less that sum (R82, R87). -/
def Formation.check (f : Formation) : Word := if f.endedEarly then 65535 - f.sum else f.sum

/-- One data byte's place of a formation: from the FIFO, or a zero byte of a fill (R86, R87, R164). Host bytes written
between a stop's beginning and its standstill count in the result too (R168; log 99). -/
def writeDataByte (f : Formation) (x : Transfer) : Formation × Transfer :=
  let next (g : Formation) (b : Byte) : Formation :=
    let g := { g.put b with written := g.written + 1 }
    if f.declared ≤ g.written then { g with phase := .check, partBytes := 0 } else g
  if f.fill then (next f 0, x)
  else
    match x.fifo with
    | b :: rest =>
      (next { f with sum := f.sum + b.setWidth 16, hostBytes := f.hostBytes + 1 } b,
        { x with fifo := rest, resultBytes := x.resultBytes + 1 })
    | [] => (next { f with fill := true } 0, x.underrun)

/-- One byte's place of the stamp, the data or the check (5.4, 5.5, R82, R86, R87). -/
def writeByte (f : Formation) (x : Transfer) : Formation × Transfer :=
  match f.phase with
  | .stamp =>
    let g := f.put ((stampBytes f.block f.file f.kind f.volumeCheck).getD f.partBytes 0)
    if 7 ≤ f.partBytes then
      ({ g with phase := if f.cut || f.declared = 0 then .check else .data, partBytes := 0 }, x)
    else ({ g with partBytes := f.partBytes + 1 }, x)
  | .data => writeDataByte f x
  | .check =>
    if 1 ≤ f.partBytes then
      ({ f.put (lowByte f.check) with phase := .postamble, partBytes := 0, ambleSteps := 0 }, x)
    else ({ f.put (highByte f.check) with partBytes := f.partBytes + 1 }, x)
  | _ => (f, x)

/-- The byte places of one step (R86): six, or fewer when the check ends in them. -/
def writeBytes : Nat → Formation → Transfer → Formation × Transfer
  | 0, f, x => (f, x)
  | n + 1, f, x => let r := writeByte f x; writeBytes n r.1 r.2

/-- A forward step of a formation in FORMING or after its postamble (R86 to R88; log 22). -/
def formStep (f : Formation) (x : Transfer) (enabled : Bool) : Formation × Transfer :=
  match f.phase with
  | .waiting => (f, x)
  | .after => ({ f with ambleSteps := f.ambleSteps + 1 }, x)
  | p =>
    let g := { f with steps := f.steps + 1, spoiled := f.spoiled || !enabled }
    match p with
    | .preamble =>
      ({ g with
         ambleSteps := g.ambleSteps + 1,
         phase := if 40 ≤ g.ambleSteps + 1 then .stamp else .preamble,
         partBytes := 0 }, x)
    | .postamble => ({ g with ambleSteps := g.ambleSteps + 1 }, x)
    | _ => writeBytes 6 g x

/-- A forward step at the writing side of the channel (R85, R86). -/
def Transport.writeStep (x : Transport) : Transport :=
  match x.chan.formation with
  | none => x
  | some f =>
    if f.phase = .waiting then x.waitStep f
    else
      let r := formStep f x.xfer x.sense.writeRing.level
      { x with chan := { x.chan with formation := some r.1 }, xfer := r.2 }

/-- What a stop of the motion leaves of the writing (R85, R87, R88): the gate closes, an unbegun formation ends, and
the report of a begun one is made at once (at the forward limit too: log 102). -/
def Channel.stopWriting (c : Channel) : Channel × Option WrittenReport :=
  let d := { (c.setActivity .listen) with formation := none }
  match c.formation with
  | none => (d, none)
  | some f =>
    match f.phase with
    | .waiting => (d, none)
    | .after => (d, some (f.report f.readBack))
    | _ => (d, some (f.report .notChecked))

/-- The record in progress discarded without a report (R77), and whether a handing ended with it (R83). -/
def Channel.discard (c : Channel) : Channel × Bool :=
  let ended := c.handOver = .handing
  ({ c.toHunt with handOver := if ended then .off else c.handOver }, ended)

end Sys2Proof.Machine
end

