-- ==== Sys2Proof/Machine/TransferOps.lean ====
section
/-! DEFINITION. The Transfer Unit (chapter 9): taking an order, its motion, the FIFO, and its endings. -/
namespace Sys2Proof.Machine

/-! ### Results and endings (9.9, R154) -/

/-- Words 8 and 9 of every order of chapter 9: the start of the last-block record, 0 when it is absent or the
anchor is LOST (9.9). -/
def lastBlockStart (r : Reckoning) : Int :=
  if r.anchor = .lost then 0 else match r.lastBlock with
    | some l => l.start
    | none => 0

/-- The records that a SPACE order has passed (R167). -/
def spacePassed (x : Transport) : Nat :=
  (match x.port.copy with | some c => c.opA | none => 0) - x.xfer.recordsLeft

/-- The result count of an order of chapter 9 (9.9). -/
def transferCount (x : Transport) : Nat :=
  match x.xfer.order with
  | .read _ => x.xfer.resultBytes
  | .write _ => x.xfer.resultBytes
  | .erase _ => x.xfer.erased
  | .space _ _ => spacePassed x
  | _ => 0

/-- What the Transfer Unit leaves of its use of the channel when its order is over: the blank watch off, the mode
DECODE after SPACING, no data asked for (R78, R79, R83). -/
def Channel.leaveTransfer (c : Channel) (o : TransferOrder) : Channel :=
  { (c.watchOff .transfer) with
    handOver := .off,
    mode := match o with
      | .space _ true => .decode
      | _ => c.mode }

/-- The Transfer Unit returns to IDLE: its waiting data request leaves the set and a burst under way runs on for no
one (R154). -/
def State.xferIdle (s : State) (t : Tr) : State :=
  (s.withdrawData t).modTr t fun x =>
    { x with xfer := .idle, chan := x.chan.leaveTransfer x.xfer.order }

/-- A condition ends the order of the Transfer Unit: own indicators and results to the Order Port, the unit to
IDLE (R154, R168, 9.9). After a stop the result count is read here, at its standstill (log 99). -/
def State.xferEnd (s : State) (t : Tr) (c : Condition) : State :=
  let x := s.tr t
  let s := s.modPort t fun p =>
    if p.pointer = .inFlight then { p with indicators := p.indicators ||| x.xfer.own } else p
  (s.endOrder t
    { condition := c, count := transferCount x, value := signedLong (lastBlockStart x.reck),
      markBlock := none }).xferIdle t

/-- The order refused, or complete at once, with result count 0 (R157). -/
def State.xferRefuse (s : State) (t : Tr) (c : Condition) : State :=
  s.endOrder t
    { condition := c, count := 0, value := signedLong (lastBlockStart (s.tr t).reck), markBlock := none }

/-- Which held condition is kept: BUS ERROR before DATA LATE before DATA CHECK before FILE MARK (R160). -/
def heldRank : Condition → Nat
  | .busError => 4
  | .dataLate => 3
  | .dataCheck => 2
  | .fileMark => 1
  | _ => 0

/-- A condition held beside the one already held, by the precedence of R160. BLANK TAPE and LOAD POINT, which have no
place there, give way (log 76). -/
def Transfer.hold (x : Transfer) (c : Condition) : Transfer :=
  { x with held := some (match x.held with
      | none => c
      | some h => if heldRank h < heldRank c then c else h) }

/-! ### Data requests (R155, R156) -/

/-- The channel is handing the data of a record (R83). -/
def Transport.handing (x : Transport) : Bool := x.chan.handOver = .handing

/-- A data request is wanted by the conditions of R155 or R156. Bytes of a record whose handing has ended are wanted
out whether or not the next record's handing has begun (log 65). -/
def Transport.wantsBurst (x : Transport) : Option TransferKind :=
  if x.xfer.quiet then none
  else
    match x.xfer.order with
    | .read false =>
      if x.drive.active.threshold ≤ x.xfer.fifo.length ||
        ((!x.handing || x.xfer.ends ≠ []) && x.xfer.fifo ≠ []) then some .readBurst
      else none
    | .write _ =>
      if 0 < x.xfer.roomLeft && x.xfer.fifo.length + min 16 x.xfer.roomLeft ≤ 256 then some .writeBurst else none
    | _ => none

/-- The test of R155 and R156, repeated whenever a byte arrives or leaves and whenever a burst ends. -/
def State.xferTest (s : State) (t : Tr) : State :=
  if s.dataBusy t then s
  else
    match (s.tr t).wantsBurst with
    | some k => s.requestData t k
    | none => s

/-- Stream bytes word by word; an odd byte at the end is a word of its own (R155). -/
def wordBytes : List Byte → List (List Byte)
  | [] => []
  | [b] => [[b]]
  | b :: c :: rest => [b, c] :: wordBytes rest

/-- The FIFO's bytes as the words in which they leave (R155): those of each record whose handing has ended word by
word, and of the record being handed the whole words only (log 65). -/
def fifoWords (handing : Bool) : List Nat → List Byte → List (List Byte)
  | [], bs => wordBytes (if handing then bs.take (bs.length / 2 * 2) else bs)
  | n :: rest, bs => wordBytes (bs.take n) ++ fifoWords handing rest (bs.drop n)

/-- The words that a read burst takes: the oldest, up to 8 (R155). -/
def readBurst (x : Transport) : List (List Byte) := (fifoWords x.handing x.xfer.ends x.xfer.fifo).take 8

/-- The bytes that a read burst takes (R155). -/
def readBurstBytes (x : Transport) : Nat := (readBurst x).flatten.length

/-- The ends of records in the FIFO after its oldest `k` bytes have left. -/
def dropEnds (k : Nat) : List Nat → List Nat
  | [] => []
  | n :: rest => if k < n then (n - k) :: rest else dropEnds (k - n) rest

/-- The FIFO gives up its oldest `k` bytes (R155). -/
def Transfer.giveUp (x : Transfer) (k : Nat) : Transfer :=
  { x with fifo := x.fifo.drop k, ends := dropEnds k x.ends }

/-- The words that a write burst reads (R156). -/
def writeBurstWords (x : Transport) : Nat := min 8 (ceilDiv x.xfer.roomLeft 2)

/-! ### Starting motion (R157, R158, R162, R166) -/

/-- The direction of an order (R158). -/
def orderDir : TransferOrder → Dir
  | .space d _ => d
  | _ => .forward

/-- The speed that the RUN of an order names (R158). -/
def orderRunSpeed : TransferOrder → RunSpeed
  | .space _ true => .fs
  | _ => .rw

/-- The speed of an order (R158). -/
def orderSpeed (p : Profile) (o : TransferOrder) : Nat := p.speed (orderRunSpeed o)

/-- The order writes to tape. -/
def orderWrites : TransferOrder → Bool
  | .write _ | .writeFileMark | .erase _ => true
  | _ => false

/-- The checks of R157, the first that fails giving the termination. -/
def transferCheck (x : Transport) (o : TransferOrder) : Option Condition :=
  let ring := x.sense.writeRing.level
  let known := x.reck.nextKnown
  let last := x.reck.nextBlock = 16777215
  match o with
  | .read noTransfer => if !noTransfer && x.xfer.roomLeft = 0 then some .parameter else none
  | .write n =>
    if n = 0 then some .parameter else if !ring then some .writeProtected
    else if !known then some .noSequence else if last then some .beyondEnd else none
  | .writeFileMark =>
    if !ring then some .writeProtected else if !known then some .noSequence
    else if last then some .beyondEnd else none
  | .erase n => if n = 0 || 200000 < n then some .parameter else if !ring then some .writeProtected else none
  | _ => none

/-- The order joins the motion under way (R158). -/
def Transport.joins (x : Transport) : Bool :=
  x.drive.driving && x.drive.dir = x.xfer.dir && x.drive.stopKind = .none &&
    x.drive.command.natAbs ≤ orderSpeed x.drive.active x.xfer.order

/-- The volume check that a record is written under (R86). -/
def writeVolumeCheck (r : ReelRecord) : Byte := if r.state = .active then r.volumeCheck else 0

/-- The RUN of an order handed to the Drive Unit with no stop target (R158). -/
def Transport.xferRun (x : Transport) : Transport :=
  x.run .transfer x.xfer.dir (orderRunSpeed x.xfer.order) none

/-- The channel prepared for a READ or SPACE, and the unit RUNNING (R158, R159). -/
def Transport.goRead (x : Transport) (joined : Bool) : Transport :=
  let o := x.xfer.order
  let skip := joined && x.chan.phase ≠ .hunt
  let c := x.chan.endErasing.setMode (match o with | .space _ true => .spacing | _ => .decode)
  let c := match o with
    | .read _ | .space .forward _ => c.watchOn .transfer
    | _ => c
  { x with
    chan := { c with handOver := match o with | .read false => .asked | _ => c.handOver },
    xfer := { x.xfer with phase := .running, skipFirst := skip } }

/-- The channel prepared for an ERASE, and the unit RUNNING (R166). -/
def Transport.goErase (x : Transport) : Transport :=
  { x with chan := (x.chan.setMode .decode).erase, xfer := { x.xfer with phase := .running, erased := 0 } }

/-- The channel prepared for a write, and the unit WRITING (R162); the unit is told when the form request is refused
(R86; log 66). -/
def Transport.goWrite (x : Transport) (kind : RecordKind) (declared : Nat) (volumeCheck : Byte) : Transport :=
  let c := (x.chan.setMode .decode).erase
  { x with
    chan := c.form kind x.reck.nextBlock x.reck.fileNumber declared volumeCheck,
    xfer := { x.xfer with phase := .writing, gapExtension := 0, formRefused := c.activity ≠ .erasing } }

/-- A write begins: the sequence is read again, the erase, the write start and the form request are made
(R162; log 43). -/
def State.beginWrite (s : State) (t : Tr) (kind : RecordKind) (declared : Nat) : State :=
  let x := s.tr t
  if !x.reck.nextKnown then s.xferEnd t .noSequence
  else if x.reck.nextBlock = 16777215 then s.xferEnd t .beyondEnd
  else
    ((s.modTr t Transport.xferRun).modTr t (·.goWrite kind declared (writeVolumeCheck (s.reel t)))).writeStart t
      (some x.reck.nextBlock)

/-- The RUN of the order is handed, with what belongs to it (R158, R162, R166). -/
def State.xferGo (s : State) (t : Tr) (joined : Bool) : State :=
  match (s.tr t).xfer.order with
  | .none => s
  | .read _ | .space _ _ => s.modTr t fun x => x.xferRun.goRead joined
  | .erase _ =>
    (s.modTr t fun x => x.xferRun.goErase).writeStart t
      (if (s.tr t).reck.nextKnown then some (s.tr t).reck.nextBlock else none)
  | .write n => s.beginWrite t .data n
  | .writeFileMark => s.beginWrite t .fileMark 0

/-- The start of an order that has passed its checks: it joins the motion under way, starts at standstill, or
settles first (R158). A WRITE fetches its data from now on (R156). -/
def State.xferStart (s : State) (t : Tr) : State :=
  let x := s.tr t
  let s :=
    if x.joins then s.xferGo t true
    else if x.drive.standstill then s.xferGo t false
    else s.modTr t fun x => { x.stop .transfer with xfer := { x.xfer with phase := .settling } }
  s.xferTest t

/-- The order with its counts, before its motion (9.1). -/
def Transfer.taken (o : TransferOrder) (records room address : Nat) : Transfer :=
  { Transfer.idle with
    order := o, dir := orderDir o, recordsLeft := records, roomLeft := room, hostAddress := address,
    mark := (room, 0, address) }

/-- What a use of the channel by the Locate Unit leaves: the mode DECODE, its blank watch off (R116, R133). -/
def Channel.leaveLocate (c : Channel) : Channel := (c.watchOff .locate).setMode .decode

/-- The locate plan discarded (R116, R134). -/
def Transport.locateIdle (x : Transport) : Transport :=
  if x.loc.order = .none then x else { x with loc := .idle, chan := x.chan.leaveLocate }

/-- A tape motion order that begins while a panel unload's rewind is under way takes its place: the unload is given up
(log 60). -/
def Transport.supersedeUnload (x : Transport) : Transport :=
  if x.loc.order = .unloadRewind then
    { x with ctl := { x.ctl with operation := .none } }.locateIdle
  else x

/-- An order is taken by the Transfer Unit (R157, R158). -/
def State.xferTake (s : State) (t : Tr) (x : Transfer) : State :=
  match transferCheck { s.tr t with xfer := x } x.order with
  | some c => s.xferRefuse t c
  | none => ((s.modTr t Transport.supersedeUnload).modXfer t fun _ => x).xferStart t

/-! ### READ (R159 to R161) -/

/-- The handing of a record's data begins (R159); bytes still in the FIFO belong to records whose handing has ended
(R155). -/
def Transfer.handingBegins (x : Transfer) : Transfer :=
  let older := x.fifo.length - x.ends.sum
  { x with
    dropping := false, mark := (x.roomLeft, x.resultBytes, x.hostAddress), joined := 0,
    ends := if older = 0 then x.ends else x.ends ++ [older] }

/-- One byte handed by the channel (R159, R161). After a bus timeout every byte is dropped (R169; log 27); the room is
tested before the FIFO (log 86). -/
def Transfer.receive (x : Transfer) (b : Byte) : Transfer :=
  if x.dropping || x.busFailed then x
  else if x.roomLeft = 0 then { x with own := x.own ||| indicatorBit .length }
  else if 256 ≤ x.fifo.length then { (x.hold .dataLate) with dropping := true }
  else { x with fifo := x.fifo ++ [b], roomLeft := x.roomLeft - 1, joined := x.joined + 1 }

/-- The bytes handed on one step, in their order (R83, R159). -/
def Transfer.receiveAll (x : Transfer) : List Byte → Transfer
  | [] => x
  | b :: rest => (x.receive b).receiveAll rest

/-- How many words of a read burst, given by the bytes of each, carry bytes of the record being handed, which are the
youngest of it: as many of that record's bytes have left the FIFO as have joined it and are no longer there. -/
def Transfer.ownWords (x : Transfer) (sizes : List Nat) : Nat :=
  ceilDiv (min (x.joined - (x.fifo.length - x.ends.sum)) sizes.sum) 2

/-- The words of a read burst that carry bytes of records whose handing has ended (R155). -/
def Transfer.olderWords (x : Transfer) (sizes : List Nat) : List Nat :=
  sizes.take (sizes.length - x.ownWords sizes)

/-- The words of a read burst stand in host memory and count as delivered (R155), also when the burst ends after the
beginning of a stop and before its standstill (R168; log 99). Those of earlier records stay
delivered when the record being handed gives its bytes back (R159; log 26). -/
def Transfer.delivered (x : Transfer) (sizes : List Nat) : Transfer :=
  let older := x.olderWords sizes
  { x with
    resultBytes := x.resultBytes + sizes.sum, hostAddress := (x.hostAddress + 2 * sizes.length) % 16777216,
    mark := (x.mark.1, x.mark.2.1 + older.sum, (x.mark.2.2 + 2 * older.length) % 16777216) }

/-- A record that closed as noise or was discarded gives its bytes back (R159; log 26). DATA LATE and LENGTH stay
(log 87). -/
def Transfer.giveBack (x : Transfer) : Transfer :=
  { x with
    fifo := x.fifo.take (x.fifo.length - min x.joined x.fifo.length),
    roomLeft := x.mark.1, resultBytes := x.mark.2.1, hostAddress := x.mark.2.2, joined := 0, dropping := false }

/-- The bytes delivered so far stay delivered, whatever becomes of the record being handed: a stop and a bus timeout
leave them in the result (R168, R169; log 78), and those of a burst that ends between the stop's beginning and its
standstill join them (log 99). Of that record only the bytes still in the FIFO can be given back. -/
def Transfer.keepDelivered (x : Transfer) : Transfer :=
  { x with
    mark := (x.mark.1, x.resultBytes, x.hostAddress), joined := min x.joined (x.fifo.length - x.ends.sum) }

/-- A read burst under way keeps only the words of earlier records among those that will count (R155, R159). -/
def BusTransfer.giveBack (b : BusTransfer) (x : Transfer) : BusTransfer := { b with sizes := x.olderWords b.sizes }

/-- What the Arbiter holds of the bytes given back (R155, R159): a burst under way counts for earlier records only,
and a waiting data request for which no byte is left is withdrawn (log 26). -/
def Arbiter.giveBack (a : Arbiter) (t : Tr) (x : Transfer) : Arbiter :=
  { a with
    current := a.current.map fun c =>
      if c.1 = t ∧ c.2.kind = .readBurst then (c.1, c.2.giveBack x) else c,
    data := if x.giveBack.fifo = [] then a.data.set t none else a.data }

/-- The record's bytes are given back and the channel is asked for the next record afresh (R159; log 26). -/
def State.xferGiveBack (s : State) (t : Tr) : State :=
  ({ s with arb := s.arb.giveBack t (s.tr t).xfer }.modTr t fun x =>
    { x with xfer := x.xfer.giveBack, chan := { x.chan with handOver := .asked } }).xferTest t

/-- The handing of a record ended without a passage report (R159): in RUNNING, and in ENDING while the tape comes to
rest, where a record may still be met (R160). -/
def State.xferHandingLost (s : State) (t : Tr) : State :=
  match (s.tr t).xfer.order, (s.tr t).xfer.phase with
  | .read false, .running | .read false, .ending => s.xferGiveBack t
  | _, _ => s

/-- The judgement of a record by a READ (R160): its held condition, or none for a data record. -/
def readJudgement (p : Passage) : Option Condition :=
  let mark := match p.stamp with
    | .decoded _ _ .fileMark => true
    | .decoded _ _ .data => false
    | .none _ => p.length < 84 && p.dataLength.getD 0 = 0
  if mark then some .fileMark
  else if p.check ≠ .good then some .dataCheck
  else none

/-- A passage report taken by a READ as one of its records (R160; log 39). -/
def Transfer.readPassage (x : Transfer) (p : Passage) (noTransfer : Bool) : Transfer :=
  let y := match readJudgement p with
    | some c => x.hold c
    | none =>
      { x with
        recordsLeft := x.recordsLeft - 1,
        own := if p.stamp = .none .bad then x.own ||| indicatorBit .unstamped else x.own }
  if noTransfer then { y with resultBytes := min 65535 (y.resultBytes + p.dataLength.getD 0) } else y

/-- The READ ends at the record just passed (R160), which after a bus timeout between two records is the one that follows
(R169; log 98). -/
def Transfer.readOver (x : Transfer) (noTransfer : Bool) : Bool :=
  x.held.isSome || x.recordsLeft = 0 || (!noTransfer && x.roomLeft = 0)

/-- The end of a READ's motion: RECORD END to the Drive Unit, and DRAINING (R160). -/
def State.readEnd (s : State) (t : Tr) : State :=
  (s.modTr t fun x =>
    { x.recordEnd with
      xfer := { x.xfer with phase := .draining },
      chan := { (x.chan.watchOff .transfer) with handOver := .off } }).xferTest t

/-- A passage report at a READ (R160). -/
def State.passageRead (s : State) (t : Tr) (p : Passage) (noTransfer : Bool) : State :=
  let s := s.modXfer t (·.readPassage p noTransfer)
  if (s.tr t).xfer.readOver noTransfer then s.readEnd t
  else
    (s.modChan t fun c => { c with handOver := if noTransfer then c.handOver else .asked }).xferTest t

/-- READ DRAIN COMPLETE is due: DRAINING with the FIFO empty and no burst under way or waiting (R160). -/
def State.drainDue (s : State) (t : Tr) : Bool :=
  (s.tr t).xfer.phase = .draining && (s.tr t).xfer.fifo = [] && !s.dataBusy t

/-! ### SPACE (R167) -/

/-- The kind of the last-block record that Position Reckoning has formed (R167). -/
def lastKind (x : Transport) : RecordKind :=
  match x.reck.lastBlock with
  | some l => l.kind
  | none => .data

/-- A passage report at a SPACE order (R167). -/
def State.passageSpace (s : State) (t : Tr) : State :=
  let s := s.modXfer t fun x => { x with recordsLeft := x.recordsLeft - 1 }
  if lastKind (s.tr t) = .fileMark then (s.modTr t Transport.recordEnd).xferEnd t .fileMark
  else if (s.tr t).xfer.recordsLeft = 0 then (s.modTr t Transport.recordEnd).xferEnd t .normal
  else s

/-- A passage report at the Transfer Unit (R160, R167). In IDLE it is not used (R154), and in ENDING it counts for
nothing (log 88). -/
def State.xferPassage (s : State) (t : Tr) (p : Passage) : State :=
  let x := (s.tr t).xfer
  if x.phase = .running then
    if x.skipFirst then s.modXfer t fun y => { y with skipFirst := false }
    else
      match x.order with
      | .read noTransfer => s.passageRead t p noTransfer
      | .space _ _ => s.passageSpace t
      | _ => s
  else s

/-- The unit asks for STOP and waits for the standstill with a condition held (R160, R167; log 41). -/
def Transport.xferStopWith (x : Transport) (c : Condition) : Transport :=
  { x.stop .transfer with xfer := { x.xfer with phase := .ending, held := some c } }

/-- A BLANK report at the Transfer Unit (R160, R167; log 41). -/
def Transport.xferBlank (x : Transport) : Transport :=
  if x.xfer.phase = .running then x.xferStopWith .blankTape else x

/-- A marker edge event at the Transfer Unit (R167): a BOT zero edge ends a SPACE BACKWARD, while it settles or
runs. -/
def Transport.xferMarker (x : Transport) (e : EdgeEvent) : Transport :=
  match x.xfer.order with
  | .space .backward _ =>
    if (x.xfer.phase = .settling || x.xfer.phase = .running) && e.zeroEdge then x.xferStopWith .loadPoint else x
  | _ => x

/-! ### Writing (R163 to R165) -/

/-- WRITE START TIMEOUT is due (R163). -/
def Transport.startTimeoutDue (x : Transport) : Bool :=
  x.xfer.phase = .writing && 3000 ≤ x.xfer.gapExtension &&
    x.chan.formation.any fun f => f.phase = .waiting && !f.due

/-- The condition of a write that ends on its report (R165). -/
def writeCondition (x : Transfer) (w : WrittenReport) : Condition :=
  if w.endedEarly then (if x.busFailed then .busError else .dataLate)
  else if w.readBack = .good then .normal
  else .writeCheck

/-- A written-record report at the Transfer Unit (R165, R168). A record left short waits for the standstill that
says which stop it was. A whole record that the forward limit brings to rest ends the write here (log 102). -/
def State.xferWritten (s : State) (t : Tr) (w : WrittenReport) : State :=
  let x := (s.tr t).xfer
  let damaged := w.endedEarly || w.readBack = .notChecked
  let mark (y : Transfer) : Transfer :=
    if damaged then { y with own := y.own ||| indicatorBit .blockDamaged } else y
  match x.phase with
  | .writing =>
    if w.readBack = .notChecked then s.modXfer t fun y => { mark y with phase := .ending }
    else ((s.modXfer t mark).modTr t Transport.recordEnd).xferEnd t (writeCondition x w)
  | .ending => s.modXfer t mark
  | _ => s

/-! ### Endings from outside (R168, R169) -/

/-- An emergency or power stop begins while an order is in flight: no further data requests, and ENDING
(R168). What has been delivered counts, and a request that waits already is not withdrawn (logs 78, 89). -/
def Transfer.stopBegins (x : Transfer) : Transfer :=
  if x.order = .none then x else { x.keepDelivered with quiet := true, phase := .ending, held := none }

/-- The reports of the Drive Unit at a standstill, as they reach the requester (R37, R38, R51): what ended the
motion, how far the target was passed, for a shuttle the difference between its target and the position after its end,
and the stop that has just been complete. -/
structure Arrival where
  endedBy : EndedBy
  passed : Nat
  offTarget : Option Int
  kind : StopKind
deriving DecidableEq, Repr

/-- A standstill report at the Transfer Unit (R158, R160, R162, R167, R168; log 23; log 42): in DRAINING a forward limit
ends nothing (log 74), and a condition held with a STOP comes before the forward limit (log 75). A DATA LATE or BUS ERROR
that a READ in RUNNING holds, from a record that the standstill discards, gives way to END OF TAPE: DEDUCED, log 101.
What a fill has made a write hold comes before END OF TAPE: DEDUCED, log 102. -/
def State.xferStandstill (s : State) (t : Tr) (a : Arrival) : State :=
  let x := (s.tr t).xfer
  match x.phase with
  | .idle | .draining => s
  | p =>
    match a.kind with
    | .emergency => s.xferEnd t .faultStop
    | .power => s.xferEnd t .powerStop
    | _ =>
      if p = .ending && x.held.isSome then s.xferEnd t (x.held.getD .normal)
      else if a.endedBy = .limit && x.dir = .forward then s.xferEnd t .endOfTape
      else if p = .settling then (s.xferGo t false).xferTest t
      else s

/-- A power stop begins (R168): at rest its standstill counts as already come (log 24). -/
def State.xferPower (s : State) (t : Tr) : State :=
  if (s.tr t).xfer.order = .none then s
  else if (s.tr t).drive.atRest then s.xferEnd t .powerStop
  else s.modXfer t (·.stopBegins)

/-- The order is abandoned, or CLEAR is taken (R168): the formation is cut, an ERASE's erasing ends (that of an
earlier write too, while the ERASE is SETTLING: log 92), and the unit is IDLE at once. -/
def State.xferAbandon (s : State) (t : Tr) : State :=
  match (s.tr t).xfer.order with
  | .none => s
  | .erase _ => (s.modChan t Channel.endErasing).xferIdle t
  | .write _ | .writeFileMark => (s.modChan t Channel.cut).xferIdle t
  | _ => s.xferIdle t

/-- A read burst that timed out after the words of these sizes (R169). They stay in the result bytes, of whichever
record they are (log 78). In a burst between two records of the order, when the record it belongs to has been reported
already, the order runs on and ends at the next record passed (log 98). -/
def Transfer.readTimeout (x : Transfer) (sizes : List Nat) : Transfer :=
  { ({ (x.delivered sizes) with fifo := [], ends := [] }.keepDelivered).hold .busError with
    dropping := true, busFailed := true, quiet := true }

/-- A write burst that timed out: the FIFO's bytes are discarded and no more are fetched (R169). -/
def Transfer.writeTimeout (x : Transfer) : Transfer :=
  { (x.hold .busError) with fifo := [], busFailed := true, quiet := true }

/-- The formation has begun FORMING (R169). -/
def Channel.formingBegun (c : Channel) : Bool := c.formation.any fun f => f.phase ≠ .waiting

/-- A data burst of the Transfer Unit ended in a bus timeout (R169). In ENDING the stop decides how the order
ends (R168). -/
def State.xferBusTimeout (s : State) (t : Tr) (x : BusTransfer) (done : Nat) : State :=
  match x.kind with
  | .readBurst => s.modXfer t fun y =>
      let z := y.readTimeout (x.sizes.take done)
      if y.phase = .ending then { z with held := y.held } else z
  | _ =>
    let ending := (s.tr t).xfer.phase = .ending
    let begun := (s.tr t).chan.formingBegun
    let s := (s.modXfer t fun y =>
      let z := y.writeTimeout
      if ending then { z with held := y.held } else z).modChan t Channel.fill
    if ending then s
    else if begun then s.modXfer t fun y => { y with own := y.own ||| indicatorBit .blockDamaged }
    else (s.modTr t Transport.recordEnd).xferEnd t .busError

/-- The words of a write burst join the FIFO (R156), after the beginning of a stop too (R168); after an underrun they
are discarded (R164). -/
def Transfer.takeWords (x : Transfer) (ws : List Word) : Transfer :=
  if x.spilling then x
  else
    let bs := (bytesOfWords ws).take x.roomLeft
    { x with
      fifo := x.fifo ++ bs, roomLeft := x.roomLeft - bs.length,
      hostAddress := (x.hostAddress + 2 * ws.length) % 16777216 }

end Sys2Proof.Machine
end

