-- ==== Sys2Proof/Machine/LocateOps.lean ====
section
/-! DEFINITION. The Locate Unit (chapter 7): planning, its legs, the decode approach, the stand-off, the rewind, and the
endings. -/
namespace Sys2Proof.Machine

/-! ### Endings (R116, R127, R133, R134) -/

/-- The order of the Locate Unit ends with a condition, a result value and, for a LOCATE MARK, the entry's block
(R127, R133). An UNLOAD REWIND hands its outcome to Transport Control (R131). -/
def State.locateEndWith (s : State) (t : Tr) (c : Condition) (value : BitVec 32) (markBlock : Option Nat) : State :=
  let l := (s.tr t).loc
  match l.order with
  | .none => s
  | .unloadRewind => s.modTr t fun x => { x.locateIdle with loc := { Locate.idle with rewindOutcome := some c } }
  | o =>
    let s := s.raiseIndIf t l.countAccepted .unstamped
    (s.endOrder t
      { condition := c, count := if o = .rewind then 0 else l.reversals, value := value,
        markBlock := markBlock }).modTr t Transport.locateIdle

/-- The order ends in failure; the result position is the position as Position Reckoning reports it (R133,
log 15). -/
def State.locateFails (s : State) (t : Tr) (c : Condition) : State :=
  s.locateEndWith t c (signedLong (s.tr t).reck.reportedPosition) none

/-- A failure found while the tape moves: STOP, and the order ends at the standstill (R133). At rest it ends at
once. -/
def State.locateFailMoving (s : State) (t : Tr) (c : Condition) : State :=
  if (s.tr t).drive.standstill then s.locateFails t c
  else s.modTr t fun x => { x.stop .locate with loc := x.loc.fail c }

/-! ### Planning (R119, R120, R128, R130) -/

/-- The drift bound plus the bound of the aim (R119). -/
def planBound (r : Reckoning) (eps : Nat) : Nat := r.drift + eps

/-- B of R119: the braking distance from V_sh. -/
def shuttleBraking (p : Profile) : Nat := rampDistance p.vSh p.aR

/-- The first legs of R120. -/
inductive LocateLeg where
  | decode | rewind | shuttleForward | shuttleBackward | fastSpace
deriving DecidableEq, Repr

/-- The table of R120, for a position, a stand-off target, the braking distance B and the bound β. -/
def planLeg (p standOff : Int) (b beta : Nat) : LocateLeg :=
  let a : Int := b + 4000 + beta
  let p0 : Int := standOff - (4000 + beta)
  if p ≤ standOff ∧ p0 ≤ p then .decode
  else if standOff - a ≤ 0 ∧ p0 < p then .rewind
  else if 200000 < standOff - p then .shuttleForward
  else if standOff - p < -200000 then .shuttleBackward
  else .fastSpace

/-- The leg that the plan would take now toward its aim (R120). -/
def Transport.aimedLeg (x : Transport) (standOff : Int) (eps : Nat) : LocateLeg :=
  planLeg x.reck.position standOff (shuttleBraking x.drive.active) (planBound x.reck eps)

/-- The waypoints of a LOCATE BLOCK (R128). -/
inductive Waypoint where
  | present
  | entry (position : Int) (bound : Nat)
  | loadPoint
deriving DecidableEq, Repr

/-- The candidate of greatest block number wins; a tie goes to the present candidate, then to the entry (R128). -/
def chooseWaypoint (r : Reckoning) (reel : ReelRecord) (n : Nat) : Waypoint :=
  let k := if r.nextKnown && r.nextBlock ≤ n then some r.nextBlock else none
  let e := if reel.state = .active then nearestBelow reel.entries n else none
  match k, e with
  | some k, some e => if e.block ≤ k then .present else .entry e.position (e.bound.getD 0)
  | some _, none => .present
  | none, some e => .entry e.position (e.bound.getD 0)
  | none, none => .loadPoint

/-- The rows of R130. -/
inductive RewindPlan where
  | complete | blind | forward | shuttle | back
deriving DecidableEq, Repr

/-- The table of R130. -/
def planRewind (r : Reckoning) : RewindPlan :=
  if r.atLoadPoint then .complete
  else if r.anchor = .lost then .blind
  else if r.position + r.drift < 0 then .forward
  else if 200000 < r.position then .shuttle
  else .back

/-! ### Legs (R121 to R123, R129 to R132) -/

/-- A forward decode approach begins (R123). -/
def Transport.decodeApproach (x : Transport) : Transport :=
  let y := { x with
    chan := ((x.chan.endErasing).setMode .decode).watchOn .locate,
    loc := { x.loc with
      phase := .decode, leg := .none, step := .moving,
      budget := some (x.loc.budget.getD (40000 + 4 * x.loc.beta)) } }
  y.run .locate .forward .rw none

/-- A count space begins as the first step of a plan (R128): the channel stops erasing and the blank watch turns on, as
for a decode approach (log 62). -/
def Transport.countSpace (x : Transport) : Transport :=
  let y := { x with
    chan := (x.chan.endErasing.setMode .spacing).watchOn .locate,
    loc := { x.loc with phase := .countSpace, leg := .none, step := .moving } }
  y.run .locate .forward .fs none

/-- The approach turns into a count space in motion: the blank watch stays on (R129). -/
def Transport.countSpaceOn (x : Transport) : Transport :=
  let y := { x with
    chan := x.chan.setMode .spacing, loc := { x.loc with phase := .countSpace, step := .moving } }
  y.run .locate .forward .fs none

/-- The count space returns to the decode approach (R129); the scan budget is formed here when none has been yet
(log 62). -/
def Transport.countSpaceEnds (x : Transport) : Transport :=
  let y := { x with
    chan := x.chan.setMode .decode,
    loc := { x.loc with
      phase := .decode, step := .moving, budget := some (x.loc.budget.getD (40000 + 4 * x.loc.beta)) } }
  y.run .locate .forward .rw none

/-- The blocks left to a target from the known next block (R128, R129). -/
def Transport.blocksLeft (x : Transport) : Option Nat :=
  match x.loc.target with
  | some n => if x.reck.nextKnown then some (n - x.reck.nextBlock) else none
  | none => none

/-- The first step with so many blocks left to the target: a count space for more than 64, otherwise a decode approach
(R128). -/
def Transport.approachOver (x : Transport) (left : Option Nat) : Transport :=
  if left.any fun k => 64 < k then x.countSpace else x.decodeApproach

/-- A fast space leg to the approach point (R122). -/
def Transport.fastSpaceTo (x : Transport) (p0 : Int) : Transport :=
  let p := x.reck.position
  let y := { x with
    chan := x.chan.setMode .spacing, loc := { x.loc with phase := .fastSpace, leg := .none, step := .moving } }
  y.run .locate (if p < p0 then .forward else .backward) .fs (some ((p0 - p).natAbs : Int))

/-- A shuttle leg (R121). -/
def Transport.shuttleLeg (x : Transport) (dir : Dir) (target : Int) : Transport :=
  let y := { x with loc := { x.loc with phase := .shuttle, leg := .none, step := .moving } }
  y.shuttle dir target

/-- The shuttle leg of a rewind (R130). -/
def Transport.rewindShuttle (x : Transport) : Transport :=
  let y := { x with loc := { x.loc with phase := .rewinding, leg := .shuttle, step := .moving } }
  y.shuttle .backward (shuttleBraking x.drive.active + 4000 + x.reck.drift : Int)

/-- The backward leg of a rewind, with its stop target as a distance (R130, R132). -/
def Transport.rewindBack (x : Transport) (distance : Int) : Transport :=
  let y := { x with
    chan := x.chan.setMode .spacing, loc := { x.loc with phase := .rewinding, leg := .back, step := .moving } }
  y.run .locate .backward .fs (some distance)

/-- The forward leg of a rewind, to 50 + β (R131). -/
def Transport.rewindForward (x : Transport) : Transport :=
  let y := { x with
    chan := x.chan.setMode .decode, loc := { x.loc with phase := .rewinding, leg := .forward, step := .moving } }
  y.run .locate .forward .rw (some (50 + y.reck.drift - y.reck.position))

/-- The corrective move of a rewind, toward position 50 (R131). -/
def Transport.rewindCorrect (x : Transport) : Transport :=
  let p := x.reck.position
  let y := { x with
    loc := { x.loc with phase := .rewinding, leg := .correct, step := .moving, corrected := true } }
  y.run .locate (if p < 50 then .forward else .backward) .rw (some ((50 - p).natAbs : Int))

/-- The planning of a rewind at a standstill that has not found the tape at the load point (R130). -/
def Transport.rewindRow (x : Transport) : Transport :=
  match planRewind x.reck with
  | .complete => x
  | .blind => x.rewindBack 16100000
  | .forward => x.rewindForward
  | .shuttle => x.rewindShuttle
  | .back => x.rewindBack (x.reck.position + x.reck.drift + 2000)

/-- The leg of R120 carried out, with β stored in the plan. -/
def Transport.takeLeg (x : Transport) (leg : LocateLeg) : Transport :=
  let eps := match x.loc.aim with | some a => a.2 | none => 0
  let beta := planBound x.reck eps
  let s := x.loc.standOff
  let a : Int := shuttleBraking x.drive.active + 4000 + beta
  let y := { x with loc := { x.loc with beta := beta } }
  match leg with
  | .decode => y.decodeApproach
  | .rewind => y.rewindRow
  | .shuttleForward => y.shuttleLeg .forward (s - a)
  | .shuttleBackward => y.shuttleLeg .backward (s - a)
  | .fastSpace => y.fastSpaceTo (s - (4000 + beta))

/-- The plan toward its aim (R120). The rewind row at the load point falls through to a forward leg (log 16). -/
def Transport.planAim (x : Transport) : Transport :=
  let eps := match x.loc.aim with | some a => a.2 | none => 0
  match x.aimedLeg x.loc.standOff eps with
  | .rewind =>
    if x.reck.atLoadPoint then
      x.takeLeg (if x.reck.position ≤ x.loc.standOff then .decode else .fastSpace)
    else x.takeLeg .rewind
  | leg => x.takeLeg leg

/-- The present waypoint: the aim is absent, and β is the drift bound (R128). -/
def Transport.planPresent (x : Transport) : Transport :=
  { x with loc := { x.loc with aim := none, beta := x.reck.drift } }.approachOver x.blocksLeft

/-- The load point as waypoint, with the tape there: the aim is absent, β is 0, and the blocks left are counted from
next block 0, whatever the sequence held (R128). -/
def Transport.planFromLoadPoint (x : Transport) : Transport :=
  { x with loc := { x.loc with aim := none, beta := 0 } }.approachOver x.loc.target

/-- The plan of a LOCATE BLOCK from its waypoint (R128). -/
def Transport.planBlock (x : Transport) (w : Waypoint) : Transport :=
  match w with
  | .present => x.planPresent
  | .entry q eps => { x with loc := { x.loc with aim := some (q, eps), standOff := q - 160 } }.planAim
  | .loadPoint =>
    if x.reck.atLoadPoint then x.planFromLoadPoint
    else { x with loc := { x.loc with aim := none, beta := 0 } }.rewindRow

/-- A rewind that has left the tape at the load point is complete (R131); a locate goes on from there (R120,
R128). -/
def State.rewindComplete (s : State) (t : Tr) : State :=
  match (s.tr t).loc.order with
  | .rewind | .unloadRewind => s.locateEndWith t .normal (signedLong (s.tr t).reck.position) none
  | _ =>
    s.modTr t fun x =>
      match x.loc.aim with
      | some _ => x.planAim
      | none => x.planFromLoadPoint

/-- The plan of a rewind (R130). -/
def State.planRewinding (s : State) (t : Tr) : State :=
  match planRewind (s.tr t).reck with
  | .complete => s.rewindComplete t
  | _ => s.modTr t Transport.rewindRow

/-- The planning of the order, as though it had just been taken (R118). -/
def State.locatePlan (s : State) (t : Tr) : State :=
  let x := s.tr t
  match x.loc.order with
  | .locateMark => s.modTr t Transport.planAim
  | .locateBlock =>
    s.modTr t fun y => y.planBlock (chooseWaypoint y.reck (s.reel t) (y.loc.target.getD 0))
  | .rewind | .unloadRewind => s.planRewinding t
  | .none => s

/-! ### Taking an order (R117, R118, R128) -/

/-- The first step of the plan would be a forward decode approach or a forward count space (R118). -/
def startsForward (x : Transport) (reel : ReelRecord) : Bool :=
  match x.loc.order with
  | .locateMark =>
    (match x.loc.aim with | some (q, eps) => x.aimedLeg (q - 160) eps = .decode | none => false)
  | .locateBlock =>
    (match chooseWaypoint x.reck reel (x.loc.target.getD 0) with
      | .present => true
      | .entry q eps => x.aimedLeg (q - 160) eps = .decode
      | .loadPoint => false)
  | _ => false

/-- The order begins (R118): at standstill or from a forward hold-over it plans at once, otherwise it settles. -/
def State.locateBegin (s : State) (t : Tr) : State :=
  let x := s.tr t
  if x.drive.standstill then s.locatePlan t
  else if x.drive.driving && x.drive.dir = .forward && x.drive.holdOver.isSome && x.drive.stopKind = .none &&
      startsForward x (s.reel t) then
    s.locatePlan t
  else s.modTr t fun x => { x.stop .locate with loc := { x.loc with phase := .settling, step := .awaiting } }

/-- The checks of R117. -/
def locateMarkCheck (x : Transport) (reel : ReelRecord) (mark : Nat) : Option Condition :=
  if mark = 0 || mark = 50000 then some .parameter
  else if reel.state ≠ .active then some .notReady
  else if x.reck.anchor = .lost then some .positionLost
  else if (findMark reel.entries mark).isNone then some .noSuchMark
  else none

/-- The checks of R128. -/
def locateBlockCheck (x : Transport) (reel : ReelRecord) (n : Nat) : Option Condition :=
  if 16777214 < n then some .parameter
  else if x.reck.anchor = .lost then some .positionLost
  else if reel.state = .active && reel.eod.any fun e => e ≤ n then some .beyondEnd
  else none

/-- The plan of a LOCATE MARK that has passed its checks (R117). -/
def Locate.forMark (e : Entry) : Locate :=
  { Locate.idle with
    order := .locateMark, target := some e.block, mark := some e.mark,
    aim := some (e.position, e.bound.getD 0), standOff := e.position - 160 }

/-- The plan of a LOCATE BLOCK that has passed its checks (R128). -/
def Locate.forBlock (n : Nat) : Locate := { Locate.idle with order := .locateBlock, target := some n }

/-- A rewind begins with its report to Position Reckoning, which makes the last-block record absent (R130). A REWIND
that begins during a panel unload's rewind takes its place (log 60). -/
def State.beginRewind (s : State) (t : Tr) (o : LocateOrder) : State :=
  (s.modTr t fun x =>
    { x with
      reck := { x.reck with lastBlock := none },
      loc := { Locate.idle with order := o } }).locateBegin t

/-! ### Passage reports (R124 to R126, R129) -/

/-- An overshoot on block `b` (R125). -/
def State.overshoot (s : State) (t : Tr) (b target : Nat) : State :=
  if 3 ≤ (s.tr t).loc.reversals then s.locateFailMoving t .notFound
  else
    s.modTr t fun x =>
      let y := x.stop .locate
      { y with
        chan := y.chan.watchOff .locate,
        loc := { y.loc with
          phase := .backCount, step := .awaiting, reversals := y.loc.reversals + 1,
          backCount := b - target + 1 } }

/-- The target is verified, or accepted by count: the stand-off begins (R126). The latest acceptance counts
(log 85), and so does a corrective move of this stand-off alone (log 91). -/
def Transport.standOffBegins (x : Transport) (accepted : Bool) : Transport :=
  let y := x.stop .locate
  { y with
    chan := y.chan.watchOff .locate,
    loc := { y.loc with
      phase := .standOff, step := .awaiting, countAccepted := accepted, targetStart := none,
      corrected := false } }

/-- The block number read in a passage (R124). -/
def readBlock (x : Transport) : Option Nat := x.reck.lastBlock.bind (·.block)

/-- A LOCATE BLOCK in DECODE with more than 64 blocks left turns to a count space (R129). -/
def Transport.maybeCountSpace (x : Transport) : Transport :=
  if x.loc.order = .locateBlock && x.loc.phase = .decode && x.blocksLeft.any fun k => 64 < k then x.countSpaceOn
  else x

/-- A passage report in DECODE (R124, R129). -/
def State.passageDecode (s : State) (t : Tr) (p : Passage) (target : Nat) : State :=
  match readBlock (s.tr t) with
  | none => s.modTr t Transport.maybeCountSpace
  | some b =>
    if b = target then s.modTr t (·.standOffBegins p.decoded.isNone)
    else if target < b then s.overshoot t b target
    else s.modTr t Transport.maybeCountSpace

/-- A passage report in COUNT SPACE (R129). -/
def Transport.passageCount (x : Transport) (target : Nat) : Transport :=
  if !x.reck.nextKnown || target ≤ x.reck.nextBlock + 2 then x.countSpaceEnds else x

/-- A backward passage report in BACK COUNT (R125). -/
def Transport.passageBack (x : Transport) (target : Nat) : Transport :=
  let y := { x with loc := { x.loc with backCount := x.loc.backCount - 1 } }
  if y.loc.backCount = 0 || (readBlock y).any fun b => b ≤ target then
    let z := y.stop .locate
    { z with loc := { z.loc with step := .finishing } }
  else y

/-- The target's backward passage in STAND-OFF: the target start is measured and the last move asked for
(R126). The start is the report's, the distance is from the position then held (log 61). -/
def Transport.standOffMeasured (x : Transport) (start : Int) : Transport :=
  let y := { x with loc := { x.loc with targetStart := some start, step := .finishing } }
  y.run .locate .backward .rw (some (y.reck.position - (start - 160)))

/-- The backing of a stand-off has passed the target without seeing it (R126). -/
def State.standOffMissed (s : State) (t : Tr) : State :=
  if 3 ≤ (s.tr t).loc.reversals then s.locateFailMoving t .notFound
  else
    s.modTr t fun x =>
      let y := x.stop .locate
      { y with loc := { y.loc with step := .retrying, reversals := y.loc.reversals + 1 } }

/-- A backward passage report in STAND-OFF (R126). -/
def State.passageStandOff (s : State) (t : Tr) (p : Passage) (target : Nat) : State :=
  match readBlock (s.tr t) with
  | none => s.modTr t (·.standOffMeasured p.start)
  | some b =>
    if target < b then s
    else if b < target then s.standOffMissed t
    else s.modTr t (·.standOffMeasured p.start)

/-- A passage report at the Locate Unit, after Position Reckoning and the Map Store have taken it (R124 to R126,
R129, R134). -/
def State.locatePassage (s : State) (t : Tr) (p : Passage) : State :=
  let x := s.tr t
  if x.locateFree && x.loc.failing.isNone && x.loc.step = .moving then
    match x.loc.target with
    | none => s
    | some target =>
      match x.loc.phase with
      | .decode => if p.dir = .forward then s.passageDecode t p target else s
      | .countSpace => s.modTr t (·.passageCount target)
      | .backCount => if p.dir = .backward then s.modTr t (·.passageBack target) else s
      | .standOff => if p.dir = .backward then s.passageStandOff t p target else s
      | _ => s
  else s

/-! ### Marker events, BLANK, budget (R122, R123, R125, R130, R133) -/

/-- A marker edge event at the Locate Unit: a BOT zero edge ends a backward fast space, a backing and a backward
rewind leg (R122, R125, R130, R132). One taken in BACK COUNT while the overshoot's own stop still runs, before the
backing run, changes nothing (log 97). -/
def Transport.locateMarker (x : Transport) (e : EdgeEvent) : Transport :=
  if x.locateFree && x.loc.failing.isNone && e.zeroEdge && x.loc.step = .moving then
    let stopped (f : Locate → Locate) : Transport :=
      let y := x.stop .locate
      { y with loc := f y.loc }
    match x.loc.phase, x.loc.leg with
    | .fastSpace, _ =>
      if x.drive.dir = .backward then
        { stopped (fun l => { l with step := .retrying }) with chan := x.chan.setMode .decode }
      else x
    | .backCount, _ => stopped fun l => { l with step := .finishing }
    | .rewinding, .back => stopped fun l => { l with step := .finishing }
    | _, _ => x
  else x

/-- A BLANK report at the Locate Unit (R123, R129, R133). -/
def State.locateBlank (s : State) (t : Tr) : State :=
  let l := (s.tr t).loc
  if (s.tr t).locateFree && l.failing.isNone && (l.phase = .decode || l.phase = .countSpace) then
    s.locateFailMoving t .notFound
  else s

/-- A capstan count in DECODE, BACK COUNT or STAND-OFF adds to the decode travel (R123). -/
def Locate.travelCount (l : Locate) : Locate :=
  match l.phase with
  | .decode | .backCount | .standOff => { l with travel := l.travel + 1 }
  | _ => l

/-- SCAN BUDGET EXCEEDED is due (R123). -/
def Transport.budgetDue (x : Transport) : Bool :=
  x.locateFree && x.loc.failing.isNone &&
    (x.loc.phase = .decode || x.loc.phase = .backCount || x.loc.phase = .standOff) &&
    x.loc.budget.any fun b => b < x.loc.travel

/-! ### Standstill (R118, R121, R122, R125 to R127, R130, R131, R134) -/

/-- The stand-off is complete (R127). -/
def State.standOffComplete (s : State) (t : Tr) : State :=
  let l := (s.tr t).loc
  match l.order with
  | .locateMark =>
    match (if (s.reel t).state = .active then findMark (s.reel t).entries (l.mark.getD 0) else none) with
    | none => s.locateFails t .noSuchMark
    | some e =>
      if l.target = some e.block then s.locateEndWith t .normal (signedLong e.position) (some e.block)
      else s.locateFails t .noSuchMark
  | _ => s.locateEndWith t .normal (signedLong (l.targetStart.getD 0)) none

/-- The judgement of a forward or corrective rewind leg at its standstill (R131). -/
def State.judgeRewind (s : State) (t : Tr) : State :=
  let x := s.tr t
  if x.reck.anchor ≠ .anchored then s.locateFails t .notFound
  else if x.reck.atLoadPoint then s.rewindComplete t
  else if x.loc.corrected then s.locateFails t .notFound
  else s.modTr t Transport.rewindCorrect

/-- The standstill of a rewind leg (R130, R131). -/
def State.rewindStandstill (s : State) (t : Tr) : State :=
  let l := (s.tr t).loc
  match l.leg with
  | .shuttle => s.planRewinding t
  | .back => if l.step = .finishing then s.modTr t Transport.rewindForward else s.locateFails t .notFound
  | .forward | .correct => s.judgeRewind t
  | .none => s

/-- The first backing run of BACK COUNT or STAND-OFF: backward at V_rw in DECODE without a stop target (R125,
R126). -/
def Transport.backUp (x : Transport) : Transport :=
  let y := { x with chan := x.chan.setMode .decode, loc := { x.loc with step := .moving } }
  y.run .locate .backward .rw none

/-- The corrective move of a stand-off: forward to the stand-off point (R126). -/
def Transport.standOffCorrect (x : Transport) (start : Int) : Transport :=
  let y := { x with loc := { x.loc with corrected := true } }
  y.run .locate .forward .rw (some (start - 160 - y.reck.position))

/-- The standstill of a stand-off (R126, R127). -/
def State.standOffStandstill (s : State) (t : Tr) (a : Arrival) : State :=
  let l := (s.tr t).loc
  match l.step with
  | .awaiting => s.modTr t Transport.backUp
  | .retrying => s.modTr t Transport.decodeApproach
  | .finishing =>
    match l.targetStart with
    | some start =>
      if 0 < a.passed && !l.corrected then s.modTr t (·.standOffCorrect start) else s.standOffComplete t
    | none => s
  | .moving => s

/-- A standstill report at the Locate Unit (R118, R121, R122, R125 to R127, R130, R131, R133, R134; log 23; log 42).
A failure noted in motion comes before a forward limit report (log 63). -/
def State.locateStandstill (s : State) (t : Tr) (a : Arrival) : State :=
  let x := s.tr t
  let l := x.loc
  if l.order = .none then s
  else if x.ctl.state = .faulted || x.ctl.state = .powerHeld then
    if l.order = .unloadRewind then s.modTr t Transport.locateIdle
    else s.locateFails t (if x.ctl.state = .faulted then .faultStop else .powerStop)
  else
    match l.failing with
    | some c => s.locateFails t c
    | none =>
      if a.endedBy = .limit && l.phase ≠ .settling then s.locateFails t .endOfTape
      else
        match l.phase with
        | .settling => s.locatePlan t
        | .shuttle => s.modTr t Transport.planAim
        | .fastSpace =>
          if l.step = .retrying then s.modTr t Transport.planAim else s.modTr t Transport.decodeApproach
        | .backCount =>
          if l.step = .awaiting then s.modTr t Transport.backUp
          else if l.step = .finishing then s.modTr t Transport.decodeApproach
          else s
        | .standOff => s.standOffStandstill t a
        | .rewinding => s.rewindStandstill t
        | _ => s

/-- A power stop begins: the Locate Unit waits for its standstill, or ends at once when the tape is at rest (R54,
R134; log 24). -/
def State.locatePower (s : State) (t : Tr) : State :=
  let x := s.tr t
  if x.loc.order = .none || !x.drive.atRest || x.ctl.state ≠ .powerHeld then s
  else if x.loc.order = .unloadRewind then s.modTr t Transport.locateIdle
  else s.locateFails t .powerStop

end Sys2Proof.Machine
end

