-- ==== Sys2Proof/Machine/Reports.lean ====
section
/-! DEFINITION. The Read Channel's reports to the other blocks, and what the Drive Unit's modes, counts and standstills
do at the channel (R77, R83 to R88, R91). -/
namespace Sys2Proof.Machine

/-! ### Passage and written-record reports (R84, R88) -/

/-- The anchor and bound that Position Reckoning hands the Map Store with a report (R73). -/
def State.stampToMap (s : State) (t : Tr) (p : Passage) : State :=
  match p.decoded with
  | some (b, f, kind) => s.stampReport t b f kind p.start (s.tr t).reck.anchor (s.tr t).reck.drift
  | none => s

/-- A passage report handed to Position Reckoning, which passes a DECODED stamp to the Map Store, and then to the
block that uses the channel (R69 to R73, R84; log 32). -/
def State.deliverPassage (s : State) (t : Tr) (p : Passage) : State :=
  let a := (s.tr t).reck.passage p
  let s := (s.modTr t fun x => { x with reck := a.1 }).raiseIndIf t a.2 .sequenceAdopted
  ((s.stampToMap t p).xferPassage t p).locatePassage t p

/-- A written-record report handed to Position Reckoning, the Map Store and the Transfer Unit (R71, R88, R107). -/
def State.deliverWritten (s : State) (t : Tr) (w : WrittenReport) : State :=
  let s := s.modTr t fun x => { x with reck := x.reck.written w }
  (s.mapWritten t w (s.tr t).reck.anchor (s.tr t).reck.drift).xferWritten t w

/-- A written-record report when there is one. -/
def State.deliverWrittenIf (s : State) (t : Tr) : Option WrittenReport → State
  | some w => s.deliverWritten t w
  | none => s

/-- The Transfer Unit learns that a handing has ended without a passage report (R83, R159). -/
def State.handingLostIf (s : State) (t : Tr) (b : Bool) : State :=
  if b then s.xferHandingLost t else s

/-- A record that was in progress when an order joined the motion is over, with a report or without one: the next
record is the order's own (R158; log 93). -/
def Transport.skipOver (x : Transport) : Transport :=
  if x.chan.phase = .hunt then { x with xfer := { x.xfer with skipFirst := false } } else x

/-- The detector closes the record in progress (R77, R84, R88): FOREIGN STAMP and NOISE SEEN first, then the
report (log 47), whatever order is in flight while the channel listens (log 82). -/
def State.closeRecord (s : State) (t : Tr) (r : RecordInProgress) : State :=
  let c := (s.tr t).chan
  let reel := s.reel t
  let ended := c.handOver = .handing
  let s := s.modChan t fun c => { c.toHunt with handOver := if ended then .off else c.handOver }
  match c.activity with
  | .listen =>
    if r.length < 82 then ((s.raiseInd t .noiseSeen).handingLostIf t ended).modTr t Transport.skipOver
    else
      let p := r.passage reel
      (s.raiseIndIf t (p.stamp = .none .foreign) .foreignStamp).deliverPassage t p
  | _ => s.modTr t fun x =>
      Transport.skipOver { x with chan := { x.chan with formation := x.chan.formation.map fun f => f.closes r reel } }

/-- The record in progress discarded, and the loss of a handing told to the Transfer Unit (R77, R83). -/
def State.discardRecord (s : State) (t : Tr) : State :=
  let a := (s.tr t).chan.discard
  ((s.modChan t fun _ => a.1).handingLostIf t a.2).modTr t Transport.skipOver

/-! ### The Drive Unit at the channel (R77, R85, R87, R88) -/

/-- The motion has come to an end at the channel: the record in progress is discarded, the writing stops, and a
record left on tape is reported (R77, R85, R87, R88). -/
def State.chanStops (s : State) (t : Tr) : State :=
  let s := s.discardRecord t
  let a := (s.tr t).chan.stopWriting
  (s.modChan t fun _ => a.1).deliverWrittenIf t a.2

/-- A drive mode taken by the Drive Unit and handed to Position Reckoning and then to the Read Channel, whose work
ends when the mode leaves CAPSTAN (R37, R77, R85, R87). -/
def State.driveMode (s : State) (t : Tr) (m : DriveMode) : State :=
  let was := (s.tr t).reck.mode
  let s := (s.modDrive t fun d => { d with mode := m }).modReck t (·.setMode m)
  if was = .capstan ∧ m ≠ .capstan then s.chanStops t else s

/-! ### CLEAR, abandonment and the power warning at the channel (R91) -/

/-- CLEAR at the channel (R91). -/
def State.chanClear (s : State) (t : Tr) : State :=
  (s.discardRecord t).modChan t fun c =>
    { c with mode := .decode, blankWatch := none, handOver := .off }.cut.endErasing

/-- A PWARN assertion at the channel (R91). -/
def State.chanPower (s : State) (t : Tr) : State :=
  (s.discardRecord t).modChan t fun c => { c with blankWatch := none }.cut.endErasing

/-! ### Counts at the channel (R75 to R80, R83, R86) -/

/-- The bytes that are ready are handed to the Transfer Unit (R83, R159); the handing begins when the wanted record
has locked. -/
def Transport.handOverBytes (x : Transport) : Transport :=
  let y :=
    if x.chan.beginsHanding then
      { x with chan := { x.chan with handOver := .handing }, xfer := x.xfer.handingBegins }
    else x
  { y with chan := y.chan.handedOver, xfer := y.xfer.receiveAll y.chan.ready }

/-- One step of the detector with its blank watch and the hand-over (R75, R76, R78, R83). -/
def Transport.detectorStep (x : Transport) (h : HeadSample) : Transport :=
  { x with chan := (x.chan.watchStep h).phaseStep x.drive h x.reck.position }.handOverBytes

/-- A step of the detector; a handing whose record fails to qualify ends with it, and so does the record that an order
was to skip (R76, R77, R83, R158). -/
def State.detect (s : State) (t : Tr) (h : HeadSample) : State :=
  let s := s.modTr t fun x => (x.detectorStep h).skipOver
  let c := (s.tr t).chan
  if c.phase = .hunt && c.handOver = .handing then
    (s.modChan t fun c => { c with handOver := .off }).xferHandingLost t
  else s

/-- A forward capstan count of an ERASE while the channel is ERASING (R166): in RUNNING, and in ENDING until a stop has
brought the tape to rest. Steps erased before the order runs are not its own. -/
def Transport.eraseStep (x : Transport) : Transport :=
  match x.xfer.order with
  | .erase n =>
    if (x.xfer.phase = .running || x.xfer.phase = .ending) && x.chan.activity = .erasing then
      { x with xfer := { x.xfer with erased := min n (x.xfer.erased + 1) } }
    else x
  | _ => x

/-- ERASE LENGTH REACHED is due (R166). -/
def Transport.eraseDue (x : Transport) : Bool :=
  match x.xfer.order with
  | .erase n => (x.xfer.phase = .running || x.xfer.phase = .ending) && n ≤ x.xfer.erased
  | _ => false

/-- FORMATION START is due (R86). -/
def Transport.formationDue (x : Transport) : Bool :=
  x.chan.activity = .erasing && x.chan.formation.any fun f => f.phase = .waiting && f.due

end Sys2Proof.Machine
end

