-- ==== Sys2Proof/Machine/ControlOps.lean ====
section
/-! DEFINITION. Transport Control (chapter 2): its states, loading, unloading, faults, the power warning, and the
admission of orders. -/
namespace Sys2Proof.Machine

/-! ### States (R17, R45, R46, R52) -/

/-- The pump is on in every state but UNLOADED (R17). -/
def pumpOf : TState → Bool
  | .unloaded => false
  | _ => true

/-- The motion permission of a state (R17). -/
def permissionOf : TState → Permission
  | .unloaded | .faulted | .powerHeld => .none
  | .threading => .thread
  | .seekingLoadPoint | .unloading => .creep
  | .ready | .inMotion => .full
  | .stopping => .stop

/-- The pump line and the permission that belong to a state; NONE while an emergency stop is under way (R17). -/
def Control.enter (c : Control) (st : TState) : Control :=
  { c with
    state := st, pump := pumpOf st, permission := if c.stopUnderWay then .none else permissionOf st }

/-- Both brakes released (R45, R46). -/
def Drive.releaseBrakes (d : Drive) : Drive := { d with supplyReleased := true, takeupReleased := true }

/-- The Drive Unit on an entry to READY: brakes released, and the capstan engaged when it is not (R45). -/
def State.readyDrive (s : State) (t : Tr) : State :=
  let s := s.modDrive t Drive.releaseBrakes
  if (s.tr t).drive.engaged then s
  else (s.modDrive t fun d => { d with engaged := true, phase := .stopped }).driveMode t .capstan

/-- A state entered, with what the Drive Unit does on it (R17, R45, R46, R52). -/
def State.enter (s : State) (t : Tr) (st : TState) : State :=
  let s := s.modCtl t (·.enter st)
  match st with
  | .ready => s.readyDrive t
  | .threading => (s.modDrive t Drive.releaseBrakes).driveMode t .thread
  | .stopping => s.modDrive t (·.beginStop .controlled)
  | _ => s

/-- The capstan disengaged and both brakes set, with the mode HALTED handed on (R45). -/
def State.disengage (s : State) (t : Tr) : State := (s.modDrive t Drive.disengage).driveMode t .halted

/-- The anchor LOST and the state UNLOADED, the tape out of the drive's grip (R23, R25, R33, R34). -/
def State.toUnloaded (s : State) (t : Tr) : State := ((s.disengage t).loseAnchor t).enter t .unloaded

/-- The tape dropped with its record held: FAULTED or POWER HELD to UNLOADED (R25, R33, R34). -/
def State.dropTape (s : State) (t : Tr) : State :=
  (((s.disengage t).holdReel t).loseAnchor t).enter t .unloaded

/-- A transport whose loops or seek could fail a load (R21, R22). -/
def Control.loading (c : Control) : Bool := c.state = .threading || c.state = .seekingLoadPoint

/-! ### Admission (R18) -/

/-- PWARN counts as asserted for a transport: by its level, or until its release has been delivered (R18, R179). -/
def State.pwarnFor (s : State) (t : Tr) : Bool := s.power.pwarn.level || !s.power.released.get t

/-- The orders of the second and third tests: LOAD, the tape motion orders and CLEAR FAULT (R18). -/
def motionGroup (code : Nat) : Bool := code = 1 || code = 3 || motionCode code

/-- The third test of R18 for an order of that group: the condition that refuses it. -/
def admitByState (x : Transport) (code : Nat) : Option Condition :=
  if x.ctl.stopUnderWay then some .notReady
  else if code = 3 then
    match x.ctl.state with
    | .threading | .seekingLoadPoint | .unloading => some .notReady
    | .powerHeld => some .powerStop
    | _ => none
  else if code = 1 then
    match x.ctl.state with
    | .unloaded => if x.sense.tapePresent.level then none else some .notReady
    | .ready => none
    | .powerHeld => some .powerStop
    | _ => some .notReady
  else
    match x.ctl.state with
    | .ready | .inMotion => none
    | .powerHeld => some .powerStop
    | _ => some .notReady

/-- Admission: the condition that refuses an order by the first test that does (R18). -/
def State.admission (s : State) (t : Tr) (code : Nat) : Option Condition :=
  let x := s.tr t
  if !x.ctl.online && (motionGroup code || mapChangingCode code) then some .notReady
  else if motionGroup code then
    if s.pwarnFor t then some .powerStop else admitByState x code
  else none

/-! ### Taking a dispatched order (log 1) -/

/-- An order of this code has been dispatched and awaits its owner. -/
def Transport.dispatched (x : Transport) (code : Nat) : Bool :=
  x.port.inFlight && x.port.stage = .dispatched && x.port.held.isNone && (x.port.copy.any fun c => c.code = code)

/-- The owner takes the order of this code (R139); the admission of R18 is asked again at that moment, and nothing
happens when no such order awaits its owner (log 1). -/
def State.takeOrder (s : State) (t : Tr) (code : Nat) (f : State → OrderCopy → State) : State :=
  if (s.tr t).dispatched code then
    match (s.tr t).port.copy with
    | some c =>
      let s := s.modPort t fun p => { p with stage := .taken }
      match s.admission t code with
      | some e => s.endWith t e
      | none => f s c
    | none => s
  else s

/-! ### Loading (R20 to R24) -/

/-- The phase timer of a number of seconds, in cycles of the master clock. -/
def seconds (n : Nat) : Nat := n * cyclesPerSecond

/-- A load begins (R20). -/
def State.beginLoad (s : State) (t : Tr) (o : Operation) (tag : Option Tag) (autoFile : Bool) : State :=
  (s.modCtl t fun c =>
    { c with
      operation := o, loadTag := tag, autoFile := autoFile, timer := seconds 5, vacuumReached := false,
      seek := .idle, failCondition := none }).enter t .threading

/-- The order in flight is the LOAD whose load is under way: R23 gives its ending, and R143 does not (log 14). -/
def Transport.loadInFlight (x : Transport) : Bool := x.port.inFlight && x.ctl.operation = .orderLoad

/-- A load fails: an emergency stop, whose completion leaves the transport UNLOADED (R23), which raises FAULT when no
order is in flight (R35), and of which the Order Port is told for any order in flight but the LOAD itself (R143;
log 14). Nothing is added to a stop already under way. -/
def State.failLoad (s : State) (t : Tr) (c : Option Condition) : State :=
  if (s.tr t).ctl.loading && !(s.tr t).ctl.stopUnderWay then
    let s := if (s.tr t).loadInFlight then s else (s.raiseCause t .fault).modPort t Port.stopBegins
    (s.modCtl t fun k =>
      { k with
        stopUnderWay := true, permission := .none,
        failCondition := if k.operation = .orderLoad then c else none }).modDrive t fun d =>
      { d with requester := .transport }.beginStop .emergency
  else s

/-- A load that was to end without a termination (R23): its order has been abandoned or cleared. -/
def State.forgetLoad (s : State) (t : Tr) : State :=
  (s.modCtl t fun c => { c with failCondition := none }).failLoad t none

/-- The end of a failing load's stop (R23); a termination held through it is formed (R143). -/
def State.loadFailed (s : State) (t : Tr) : State :=
  let c := (s.tr t).ctl.failCondition
  let s := (s.modCtl t fun k =>
    { k with
      stopUnderWay := false, operation := .none, failCondition := none, seek := .idle,
      vacuumReached := false }).toUnloaded t
  match c with
  | some e => s.endWith t e
  | none => s.releaseHeld t

/-- The search for the load point begins (R22). -/
def Transport.beginSeek (x : Transport) : Transport :=
  if x.sense.bot.level then
    { x with ctl := { x.ctl with seek := .backing } }.creep .backward (some 20000) false
  else { x with ctl := { x.ctl with seek := .forward } }.creep .forward (some 600000) false

/-- THREADING is complete: the capstan is engaged and SEEKING LOAD POINT begins (R21, R46). -/
def State.threaded (s : State) (t : Tr) : State :=
  (((s.modDrive t fun d => { d with engaged := true, phase := .stopped }).driveMode t .capstan).enter t
    .seekingLoadPoint).modTr t Transport.beginSeek

/-- Both columns read vacuum PRESENT (R21). -/
def Sensing.bothVacuum (x : Sensing) : Bool := x.supplyVacuum.level && x.takeupVacuum.level

/-- A column holds zone 2 (R21). -/
def Column.centered (c : Column) : Bool := c.valid && c.zone = .z2

/-- Both columns hold zone 2 (R21). -/
def Sensing.bothCentered (x : Sensing) : Bool := x.supplyColumn.centered && x.takeupColumn.centered

/-- The two conditions of THREADING in turn (R21; log 17): both vacuums restart the timer at 10 s, then both columns
in zone 2 end the phase. -/
def State.threadCheck (s : State) (t : Tr) : State :=
  let x := s.tr t
  if x.ctl.state = .threading && !x.ctl.stopUnderWay then
    let s :=
      if !x.ctl.vacuumReached && x.sense.bothVacuum then
        s.modCtl t fun c => { c with vacuumReached := true, timer := seconds 10 }
      else s
    if (s.tr t).ctl.vacuumReached && x.sense.bothCentered then s.threaded t else s
  else s

/-- The load ends well (R24). -/
def State.loadEnds (s : State) (t : Tr) : State :=
  let c := (s.tr t).ctl
  let finish (s : State) : State :=
    (s.modCtl t fun k => { k with operation := .none, seek := .idle, vacuumReached := false }).enter t .ready
  match c.operation with
  | .panelLoad => (finish (s.attachPanel t)).raiseCause t .ready
  | _ =>
    let n := s.attachCount t c.loadTag
    (finish (s.attach t c.loadTag c.autoFile)).endOrder t
      { condition := .normal, count := n, value := 0, markBlock := none }

/-- A marker edge event in SEEKING LOAD POINT (R22). -/
def State.seekMarker (s : State) (t : Tr) (e : EdgeEvent) : State :=
  let x := s.tr t
  if x.ctl.state = .seekingLoadPoint && !x.ctl.stopUnderWay then
    match e.marker, e.arrive with
    | .eot, true => s.failLoad t (some .loadFailed)
    | .bot, false =>
      if x.ctl.seek = .backing && e.direction = .backward then
        s.modTr t fun y =>
          { y with ctl := { y.ctl with seek := .forward } }.creep .forward (some 600000) false
      else s
    | .bot, true =>
      if x.ctl.seek = .forward && e.direction = .forward then
        s.modTr t fun y =>
          { y with
            reck := y.reck.loadPoint, ctl := { y.ctl with seek := .atPoint },
            drive := y.drive.stopCreep }
      else s
    | _, _ => s
  else s

/-! ### Faults (R30 to R33) -/

/-- The states from which a fault cause begins an emergency stop (R30). -/
def Control.faultable (c : Control) : Bool :=
  (c.state = .ready || c.state = .inMotion || c.state = .stopping || c.state = .unloading) && !c.stopUnderWay

/-- An emergency stop begins with a fault kind (R30, R35, R143, R168; log 30). An unload's operation is over with it
(log 55). -/
def State.emergency (s : State) (t : Tr) (k : FaultKind) : State :=
  if (s.tr t).ctl.faultable then
    let s := s.modTr t fun x =>
      { x with
        ctl := { x.ctl with
          fault := k, stopUnderWay := true, permission := .none, operation := .none, unloadEnding := false,
          stopByClear := false,
          pathIntact := k = .stall && x.sense.pathGood && x.sense.tapePresent.level },
        xfer := x.xfer.stopBegins,
        drive := x.drive.beginStop .emergency }
    (s.raiseCause t .fault).modPort t Port.stopBegins
  else s

/-- An event that would be a fault cause while a stop is under way: the path is not intact (R30). -/
def State.pathBroken (s : State) (t : Tr) : State :=
  s.modCtl t fun c => if c.faultStopping then { c with pathIntact := false } else c

/-- A stop of the unloading or of an UNLOAD order in flight ends that order with a condition (R26, R27, R31, R34); the
result count is the number of entries that the unload has retired (R26, R94). -/
def State.endUnload (s : State) (t : Tr) (c : Condition) : State :=
  if (s.tr t).hasOrder 2 then
    s.endOrder t { condition := c, count := (s.tr t).ctl.retired, value := 0, markBlock := none }
  else s

/-- The emergency stop is complete (R23, R31, R143). -/
def State.emergencyComplete (s : State) (t : Tr) : State :=
  let c := (s.tr t).ctl
  if !c.stopUnderWay then s
  else if c.loading then s.loadFailed t
  else
    let s := (s.modCtl t fun k => { k with stopUnderWay := false }).enter t .faulted
    let s := if c.pathIntact then s else s.loseAnchor t
    let s := if (s.tr t).sense.pathGood then s else s.holdReel t
    (s.endUnload t .faultStop).releaseHeld t

/-- The cause of the fault kind held is still present (R33). -/
def causePresent (x : Transport) : Bool :=
  match x.ctl.fault with
  | .vacuum => !x.sense.bothVacuum
  | .loop =>
    (x.sense.supplyColumn.valid && (x.sense.supplyColumn.zone = .z0 || x.sense.supplyColumn.zone = .z4)) ||
      (x.sense.takeupColumn.valid && (x.sense.takeupColumn.zone = .z0 || x.sense.takeupColumn.zone = .z4))
  | .tapePath => !x.sense.tapePresent.level
  | .sensor => !x.sense.supplyColumn.valid || !x.sense.takeupColumn.valid
  | _ => false

/-- CLEAR FAULT in FAULTED (R33). -/
def State.clearTheFault (s : State) (t : Tr) : State :=
  if causePresent (s.tr t) then s.endWith t .faultPersists
  else
    let s := s.modCtl t fun c => { c with fault := .none }
    if (s.tr t).sense.pathGood then (s.enter t .ready).endWith t .normal
    else (s.dropTape t).endWith t .normal

/-! ### Unloading (R26, R27) -/

/-- An unload begins with its rewind (R26). -/
def State.beginUnload (s : State) (t : Tr) (o : Operation) (keep : Bool) : State :=
  (s.modCtl t fun c => { c with operation := o, keep := keep, unloadEnding := false, retired := 0 }).beginRewind t
    .unloadRewind

/-- The rewind has brought the tape to rest at the load point: the record is dealt with and UNLOADING begins
with its creep, which has no distance limit (R26, R27, R47; log 79). -/
def State.startUnloading (s : State) (t : Tr) : State :=
  let keep := (s.tr t).ctl.keep
  let n := if keep then 0 else s.retireCount t
  let s := if keep then s.holdReel t else s.retireReel t
  ((s.modCtl t fun c => { c with retired := n, timer := seconds 30 }).enter t .unloading).modTr t
    (·.creep .backward none true)

/-- The outcome of an UNLOAD REWIND taken by Transport Control (R26, R131). -/
def State.takeRewound (s : State) (t : Tr) : State :=
  match (s.tr t).loc.rewindOutcome with
  | none => s
  | some c =>
    let s := s.modLoc t fun l => { l with rewindOutcome := none }
    if (s.tr t).ctl.operation = .orderUnload || (s.tr t).ctl.operation = .panelUnload then
      if c = .normal then s.startUnloading t
      else (s.modCtl t fun k => { k with operation := .none }).endUnload t c
    else s

/-- Tape-present ABSENT in UNLOADING: the unload ends well (R27). An unthreading wind is brought to 0 by its own stop
(R48; log 44). -/
def State.unloadEnds (s : State) (t : Tr) : State :=
  let x := s.tr t
  let s := if x.drive.mode = .unthread then s.modDrive t Drive.stopCreep else s.disengage t
  let s := ((s.loseAnchor t).modCtl t fun c => { c with operation := .none, unloadEnding := false }).enter t .unloaded
  if (s.tr t).hasOrder 2 then
    s.endOrder t { condition := .normal, count := x.ctl.retired, value := 0, markBlock := none }
  else s

/-- CLEAR or abandonment in UNLOADING: the motion is stopped (R27); what befalls it before the standstill is log 55. -/
def State.stopUnloading (s : State) (t : Tr) : State :=
  if (s.tr t).ctl.stopUnderWay then s
  else
    (s.modCtl t fun c => { c with operation := .none, unloadEnding := true }).modDrive t Drive.stopCreep

/-- The standstill of an unloading that was stopped (R27). -/
def State.unloadStopped (s : State) (t : Tr) : State :=
  let s := s.modCtl t fun c => { c with unloadEnding := false }
  if (s.tr t).sense.pathGood then s.enter t .ready else s.toUnloaded t

/-! ### Standstill (R22, R24, R27 to R29) -/

/-- The standstill report at Transport Control (R22, R24, R27 to R29, R35; log 21; log 54). -/
def State.controlStandstill (s : State) (t : Tr) (a : Arrival) : State :=
  let c := (s.tr t).ctl
  if c.stopUnderWay then s
  else
    match c.state with
    | .inMotion => s.enter t .ready
    | .stopping =>
      let s := (s.modCtl t fun k => { k with stopByClear := false }).enter t .ready
      if c.stopByClear then s.raiseCause t .ready else s
    | .seekingLoadPoint =>
      if c.seek = .atPoint then s.loadEnds t
      else if a.endedBy = .target || a.endedBy = .limit then s.failLoad t (some .loadFailed)
      else s
    | .unloading => if c.unloadEnding then s.unloadStopped t else s
    | _ => s

/-! ### CLEAR, abandonment, power (R23, R27, R29, R34) -/

/-- CLEAR at Transport Control (R23, R27, R29). -/
def State.controlClear (s : State) (t : Tr) : State :=
  let c := (s.tr t).ctl
  match c.state with
  | .threading | .seekingLoadPoint => s.forgetLoad t
  | .unloading => s.stopUnloading t
  | .inMotion =>
    if c.stopUnderWay then s
    else (s.modCtl t fun k => { k with operation := .none, stopByClear := true }).enter t .stopping
  | .ready => s.modCtl t fun k => { k with operation := .none }
  | _ => s

/-- The abandonment of an order at Transport Control (R23, R27, R29). A tape motion order abandoned during a panel
unload's rewind ends the unload too (log 60). -/
def State.controlAbandon (s : State) (t : Tr) (code : Nat) : State :=
  let c := (s.tr t).ctl
  match c.state with
  | .threading | .seekingLoadPoint => if code = 1 then s.forgetLoad t else s
  | .unloading => if code = 2 then s.stopUnloading t else s
  | .inMotion =>
    if motionCode code && !c.stopUnderWay then
      (s.modCtl t fun k => { k with operation := .none, stopByClear := false }).enter t .stopping
    else s
  | .ready => if code = 2 then s.modCtl t fun k => { k with operation := .none } else s
  | _ => s

/-- A PWARN assertion at Transport Control (R34). -/
def State.controlPower (s : State) (t : Tr) : State :=
  let c := (s.tr t).ctl
  if c.loading then s.failLoad t (some .powerStop)
  else if c.faultable then
    (s.modCtl t fun k =>
      { k with operation := .none, unloadEnding := false, stopByClear := false }).enter t .powerHeld
  else s

/-- A PWARN assertion at the Drive Unit (R54). -/
def Drive.power (d : Drive) : Drive := if d.atRest then d else d.beginStop .power

/-- A PWARN release delivered to Transport Control (R34, R35, R179). -/
def State.deliverRelease (s : State) (t : Tr) : State :=
  let s := { s with power := { s.power with released := s.power.released.set t true } }
  if (s.tr t).ctl.state = .powerHeld then
    if (s.tr t).sense.pathGood then (s.enter t .ready).raiseCause t .ready else s.dropTape t
  else s

/-- A release that waits for a power stop is delivered once the line is released and the stop is complete (R179). -/
def State.lateRelease (s : State) (t : Tr) : State :=
  if !s.power.pwarn.level && !s.power.released.get t && (s.tr t).drive.stopKind ≠ .power then s.deliverRelease t
  else s

end Sys2Proof.Machine
end

