-- ==== Sys2Proof/Machine/Standstill.lean ====
section
/-! DEFINITION. Arrival at standstill and the beginning of pending motion (R37, R40, R49, R51 to R54, R57). -/
namespace Sys2Proof.Machine

/-- How far the tape has come to rest beyond its stop target (R38). -/
def passedBy (d : Drive) : Nat :=
  match d.endedBy, d.stopTarget with
  | .target, some left => (-left).toNat
  | _, _ => 0

/-- The reports that a standstill brings (R37, R38, R51); `off` is the distance to a shuttle's target. -/
def Drive.arrival (d : Drive) (off : Option Int) : Arrival :=
  { endedBy := d.endedBy, passed := passedBy d, offTarget := off, kind := d.stopKind }

/-- The Drive Unit at standstill: the staged profile takes effect, the stop kind returns to NONE, the motion is over,
and the stall timer's value is discarded with it (R37, R52, R55, R57; logs 36 and 70). -/
def Drive.rest (d : Drive) : Drive :=
  Drive.watch { d.takeStaged with
    phase := .stopped, command := 0, commandRem := 0, stopKind := .none, stopTarget := none, holdOver := none,
    endedBy := .none, creep := none }

/-- The standstill report to the requester (R37, R51; log 36). -/
def State.requesterStandstill (s : State) (t : Tr) (a : Arrival) : State :=
  match (s.tr t).drive.requester with
  | .locate => s.locateStandstill t a
  | .transfer => s.xferStandstill t a
  | _ => s

/-- The stop complete, reported to Transport Control before the standstill (R37, R53, R54). -/
def State.stopComplete (s : State) (t : Tr) (k : StopKind) : State :=
  match k with
  | .emergency => s.emergencyComplete t
  | .power => s.endUnload t .powerStop
  | _ => s

/-- The standstill at Position Reckoning and the Read Channel (R37, R61, R77). -/
def State.restReported (s : State) (t : Tr) : State :=
  (s.modTr t fun x => { x with reck := x.reck.standstill }).chanStops t

/-- Arrival at standstill (R37, R51 to R54): the stop complete first, then Position Reckoning, the Read Channel, the
requester, and Transport Control; then an unload goes on, and a waiting release is delivered (R26, R179; log 20).
`off` is the distance from a shuttle's rest position to its target (R51). -/
def State.arriveAt (s : State) (t : Tr) (off : Option Int) : State :=
  let a := (s.tr t).drive.arrival off
  let s := s.modTr t fun x => { x with drive := (x.drive.brakeLostLoops x.sense).rest }
  let s := ((s.stopComplete t a.kind).restReported t).requesterStandstill t a
  let s := match a.kind with
    | .emergency | .power => s
    | _ => s.controlStandstill t a
  let s := s.takeRewound t
  if a.kind = .power then s.lateRelease t else s

/-- Arrival at standstill from another motion than a shuttle. -/
def State.arrive (s : State) (t : Tr) : State := s.arriveAt t none

/-- Engage may be asserted at the end of a shuttle (R51). -/
def Transport.mayEngage (x : Transport) : Bool :=
  x.sense.pathGood && !x.ctl.stopUnderWay && x.drive.stopKind ≠ .emergency

/-- A shuttle ends (R51): the shuttle end and the new mode go to Position Reckoning, then the requester hears how far
the rest position lies from the target (log 70), in whole steps (log 94), and the standstill is reported. -/
def State.endShuttle (s : State) (t : Tr) : State :=
  let ok := (s.tr t).mayEngage
  let target := (s.tr t).drive.shuttleTarget
  let s := s.modDrive t fun d =>
    { d with
      shuttlePhase := .none, shuttleSpeed := 0, shuttleRem := 0, shuttleTarget := none, engaged := ok,
      phase := .stopped }
  let s := ((s.modReck t (·.shuttleEnd)).driveMode t (if ok then .capstan else .halted)).modTr t fun x =>
    { x with drive := x.drive.brakeLostLoops x.sense }
  s.arriveAt t (target.map fun p => p - (s.tr t).reck.position)

/-- Motion begun, reported to Transport Control (R28, R40). -/
def State.motionBegun (s : State) (t : Tr) : State :=
  if (s.tr t).ctl.state = .ready then s.enter t .inMotion else s

/-- A pending request begins from standstill, at the speeds of the profile then active (R40, R47, R49, R57). A shuttle whose target does not lie in its direction
ends at once. -/
def State.beginPending (s : State) (t : Tr) (r : MotionRequest) : State :=
  match r with
  | .run dir speed target who =>
    (s.modTr t fun x =>
      { x with
        drive := { (x.drive.beginCapstan dir (x.drive.active.speed speed) target) with requester := who },
        reck := x.reck.motionBegun dir }).motionBegun t
  | .creep dir limit unload =>
    s.modTr t fun x =>
      { x with
        drive := { (x.drive.beginCapstan dir (creepSpeed x.drive.active) limit) with
          requester := .transport, creep := some unload },
        reck := x.reck.motionBegun dir }
  | .shuttle dir target =>
    let s := ((s.modDrive t (·.beginShuttle dir target)).modReck t (·.shuttleStart)).chanStops t
    let s := s.motionBegun t
    if remaining (s.tr t).drive (s.tr t).reck target ≤ 0 then s.endShuttle t else s

/-- The permission under which a request may begin (R40, R47). -/
def neededPermission : MotionRequest → Permission
  | .creep _ _ _ => .creep
  | _ => .full

/-- The next thing that comes about by itself at rest: a stop asked for at rest is complete, a stopped unloading
ends, a pending request begins or is refused (R27, R40, R52, R53). -/
def State.settleOnce (s : State) (t : Tr) : Option State :=
  let x := s.tr t
  let d := x.drive
  if d.atRest && d.stopKind ≠ .none then some (s.arrive t)
  else if d.atRest && x.ctl.state = .unloading && x.ctl.unloadEnding && !x.ctl.stopUnderWay then
    some (s.unloadStopped t)
  else if d.atRest then
    match d.pending with
    | none => none
    | some r =>
      if x.ctl.permission ≠ neededPermission r then some (s.modDrive t fun e => { e with pending := none })
      else if x.sense.pathGood then some ((s.modDrive t fun e => { e with pending := none }).beginPending t r)
      else none
  else none

/-- All that comes about by itself at rest, as far as the fuel goes (log 18). -/
def State.settle : Nat → State → Tr → State
  | 0, s, _ => s
  | n + 1, s, t =>
    match s.settleOnce t with
    | some s' => State.settle n s' t
    | none => s

/-- The transport settled. -/
def State.settled (s : State) (t : Tr) : State := State.settle 400 s t

/-- The four transports settled. -/
def State.settleAll (s : State) : State := (((s.settled .t0).settled .t1).settled .t2).settled .t3

/-- A command of one transport, after which the transport settles. -/
def runTr (t : Tr) (s : State) (f : State → State) : Host.Outcome State Fault Refusal :=
  runOn t s fun s => (f s).settled t

/-- A command of the whole controller, after which every transport settles. -/
def runEach (s : State) (f : State → State) : Host.Outcome State Fault Refusal :=
  runAll s fun s => (f s).settleAll

end Sys2Proof.Machine
end

