-- ==== Sys2Proof/Machine/Counts.lean ====
section
/-! DEFINITION. The steps that a count of something brings due (log 3), each guarded by its rule's condition, and the
tachometer counts themselves (chapters 1, 3, 4, 5). -/
namespace Sys2Proof.Machine

/-! ### Steps that come due -/

/-- RECORD QUALIFIED (R76). -/
def State.doQualified (s : State) (t : Tr) : State :=
  if (s.tr t).chan.qualifiedDue then s.modChan t Channel.qualified else s

/-- RECORD END (R77). -/
def State.doRecordEnd (s : State) (t : Tr) : State :=
  if (s.tr t).chan.recordEndDue then
    match (s.tr t).chan.record with
    | some r => s.closeRecord t r
    | none => s
  else s

/-- POSTAMBLE COMPLETE (R86). -/
def State.doPostamble (s : State) (t : Tr) : State :=
  if (s.tr t).chan.postambleDue then s.modChan t Channel.postambleComplete else s

/-- WRITTEN RECORD REPORT (R88). -/
def State.doWrittenReport (s : State) (t : Tr) : State :=
  if (s.tr t).chan.reportDue then
    match (s.tr t).chan.formation with
    | some f => (s.modChan t fun c => { c with formation := none }).deliverWritten t (f.report f.readBack)
    | none => s
  else s

/-- FORMATION START (R86). -/
def State.doFormation (s : State) (t : Tr) : State :=
  if (s.tr t).formationDue then s.modTr t Transport.beginForming else s

/-- WRITE START TIMEOUT (R163). -/
def State.doStartTimeout (s : State) (t : Tr) : State :=
  if (s.tr t).startTimeoutDue then
    ((s.modTr t fun x => { x with chan := x.chan.fill, xfer := { x.xfer with quiet := true } }).modTr t
      Transport.recordEnd).xferEnd t .dataLate
  else s

/-- ERASE LENGTH REACHED (R166). In ENDING the erasing ends too, and the stop ends the order (R168; log 77). -/
def State.doEraseLength (s : State) (t : Tr) : State :=
  if (s.tr t).eraseDue then
    if (s.tr t).xfer.phase = .ending then s.modChan t Channel.endErasing
    else ((s.modChan t Channel.endErasing).modTr t Transport.recordEnd).xferEnd t .normal
  else s

/-- BLANK (R78): the watch turns off and the block that turned it on is told. -/
def State.doBlank (s : State) (t : Tr) : State :=
  if (s.tr t).chan.blankDue then
    let who := (s.tr t).chan.blankWatch.map (·.1)
    let s := s.modChan t fun c => { c with blankWatch := none }
    if who = some .locate then s.locateBlank t else s.modTr t Transport.xferBlank
  else s

/-- SCAN BUDGET EXCEEDED (R123, R133). -/
def State.doBudget (s : State) (t : Tr) : State :=
  if (s.tr t).budgetDue then s.locateFailMoving t .notFound else s

/-- The hold-over has run out (R41). -/
def Drive.holdOverDue (d : Drive) : Bool := d.driving && d.holdOver = some 0

/-- HOLD-OVER EXPIRY (R41). -/
def State.doHoldOver (s : State) (t : Tr) : State :=
  if (s.tr t).drive.holdOverDue then s.modDrive t Drive.decel else s

/-- STOP POINT REACHED (R38): DECEL at a_c, with what ends the motion. -/
def State.doStopPoint (s : State) (t : Tr) : State :=
  let by_ := capstanStopPoint (s.tr t).drive (s.tr t).reck
  if by_ ≠ .none then s.modDrive t fun d => { d.decel with endedBy := by_ } else s

/-- SHUTTLE BRAKE POINT (R50). -/
def State.doBrakePoint (s : State) (t : Tr) : State :=
  let by_ := shuttleBrakePointOf (s.tr t).drive (s.tr t).reck
  if by_ ≠ .none then s.modDrive t fun d => { d.brake with endedBy := by_ } else s

/-- PITCH MEASURED of a reel (R62): REEL SLIP when the measurement is out of range. -/
def State.doPitch (s : State) (t : Tr) (side : Side) : State :=
  let x := s.tr t
  if (x.reck.window side).full then
    (s.modTr t fun y => { y with reck := y.reck.measure side y.drive.active.k }).raiseIndIf t
      (x.reck.window side).measured.isNone .reelSlip
  else s

/-- Every step that is still due, in a fixed order (log 3). -/
def State.catchUp (s : State) (t : Tr) : State :=
  let s := ((((s.doQualified t).doRecordEnd t).doPostamble t).doWrittenReport t).doFormation t
  let s := ((((s.doStartTimeout t).doEraseLength t).doBlank t).doBudget t).doHoldOver t
  (((((s.doStopPoint t).doBrakePoint t).doPitch t .supply).doPitch t .takeup)).settled t

/-! ### Counts (R1 to R3, R10, R38, R55, R59, R63, R75, R123, R166) -/

/-- The side of a reel tachometer. -/
def tachSide : Tach → Option Side
  | .capstan => none
  | .supply => some .supply
  | .takeup => some .takeup

/-- A count of a reel tachometer (R3, R55, R59, R61, R63 to R65; log 50). -/
def State.reelCount (s : State) (t : Tr) (tach : Tach) (side : Side) (positive : Bool) : State :=
  let x := s.tr t
  let wraps := phaseWraps (x.sense.revolutionPhase side) positive
  ((s.modSense t fun y => (y.turnReel side positive).lagMarkers tach positive).modReck t fun r =>
    r.reelCount side positive wraps x.drive.active.k).modDrive t (·.stallCount tach)

/-- A forward step at the writing side, and the data requests that it brings (R86, R156, R166). -/
def State.forwardStep (s : State) (t : Tr) : State :=
  s.modTr t fun x => x.writeStep.eraseStep

/-- A count of the capstan tachometer: Position Reckoning, the Drive Unit, the Locate Unit, and a step of the Read
Channel when it is one (R2, R38, R55, R59, R75, R86, R123). -/
def State.capstanCount (s : State) (t : Tr) (positive : Bool) (h : HeadSample) : State :=
  let d := (s.tr t).drive
  let s := (s.modSense t (·.lagMarkers .capstan positive)).modReck t (·.capstanCount positive)
  let s := s.modTr t fun x =>
    { x with drive := (x.drive.capstanCount positive).stallCount .capstan, loc := x.loc.travelCount }
  let s := if d.isStep positive then s.detect t h else s
  let s := if d.isForwardStep positive then s.forwardStep t else s
  if d.isStep positive then s.xferTest t else s

/-- One count of a tachometer (R2). -/
def State.oneCount (s : State) (t : Tr) (tach : Tach) (positive : Bool) (h : HeadSample) : State :=
  match tachSide tach with
  | none => s.capstanCount t positive h
  | some side => s.reelCount t tach side positive

/-- The counts of one sample, handed on one after the other; between the two counts of an illegal transition the
transport settles, its outputs are worked out again and the steps due are made, as between two legal counts (R1). -/
def State.counts (s : State) (t : Tr) (tach : Tach) (h1 h2 : HeadSample) : List Bool → State
  | [] => s
  | [p] => s.oneCount t tach p h1
  | p :: q :: _ => ((((s.oneCount t tach p h1).settled t).refresh t).catchUp t).oneCount t tach q h2

/-- A sample of a tachometer's phases, `cycles` clock cycles after the count before it (R1, log 6). -/
def State.tachometer (s : State) (t : Tr) (tach : Tach) (phases : Phases) (cycles : Nat) (h1 h2 : HeadSample) :
    State :=
  let s := (s.catchUp t).modTr t (·.elapse cycles)
  let d := (s.tr t).sense.tach tach
  (s.modSense t fun x => x.setTach tach (d.sample phases)).counts t tach h1 h2 (tachCounts d phases)

end Sys2Proof.Machine
end

