-- ==== Sys2Proof/Machine/Events.lean ====
section
/-! DEFINITION. What the events of the Sensing Interface do at the Drive Unit and at Transport Control (R5 to R10, R21,
R22, R27, R30, R39, R44, R45, R48). -/
namespace Sys2Proof.Machine

/-! ### Path events (R8, R30, R39, R48) -/

/-- The unload creep is under way, which a path loss turns into the unthreading wind (R48; log 46). -/
def Drive.unloadCreeping (d : Drive) : Bool := d.driving && d.creep = some true && d.stopKind = .none

/-- The unthreading wind begins (R48). The capstan comes to standstill with it, where the staged profile takes effect
(R37, R57). -/
def State.beginWind (s : State) (t : Tr) : State :=
  (s.modDrive t fun d =>
    { d.takeStaged with
      phase := .stopped, command := 0, commandRem := 0, engaged := false, takeupReleased := false,
      stopTarget := none, holdOver := none, pending := none, creep := none, endedBy := .none,
      windSpeed := creepSpeed d.takeStaged.active, windRem := 0, windStopping := false }).driveMode t .unthread

/-- A path event with PATH GOOD false at the Drive Unit (R39, R48; log 46). -/
def State.pathLostDrive (s : State) (t : Tr) : State :=
  let d := (s.tr t).drive
  if d.unloadCreeping then s.beginWind t
  else if d.driving || d.shuttlePhase = .accel || d.shuttlePhase = .run then
    s.modDrive t (·.beginStop .emergency)
  else s

/-- PATH GOOD worked out again; a change is handed to Transport Control and to the Drive Unit (R8; log 20). -/
def State.pathUpdate (s : State) (t : Tr) : State :=
  let good := pathGoodOf (s.tr t).sense
  if good = (s.tr t).sense.pathGood then s
  else
    let s := s.modSense t fun x => { x with pathGood := good }
    if good then s else (s.pathBroken t).pathLostDrive t

/-! ### Zones (R5, R21, R22, R27, R30, R45) -/

/-- Zone 0 or zone 4: a loop at its limit (R30). -/
def zoneLimit : Zone → Bool
  | .z0 | .z4 => true
  | _ => false

/-- A reel whose loop has left its column is braked at once (R45). -/
def State.brakeReels (s : State) (t : Tr) : State :=
  s.modTr t fun x => { x with drive := x.drive.brakeLostLoops x.sense }

/-- An event that may be a fault cause (R30): an emergency stop of that kind, or a path no longer intact while a stop
is under way. In UNLOADING only the supply column counts (R27; log 45). -/
def State.columnCause (s : State) (t : Tr) (side : Side) (k : FaultKind) : State :=
  if (s.tr t).ctl.state = .unloading && side = .takeup then s
  else if (s.tr t).ctl.stopUnderWay then s.pathBroken t
  else s.emergency t k

/-- A zone event at Transport Control (R21, R22, R27, R30; log 45). -/
def State.zoneAtControl (s : State) (t : Tr) (side : Side) (z : Zone) : State :=
  match (s.tr t).ctl.state with
  | .threading => if z = .z4 then s.failLoad t (some .loadFailed) else s.threadCheck t
  | .seekingLoadPoint => if zoneLimit z then s.failLoad t (some .loadFailed) else s
  | .ready | .inMotion | .stopping | .unloading =>
    if zoneLimit z then s.columnCause t side .loop
    else if z = .unknown && !((s.tr t).ctl.state = .unloading && side = .takeup) then s.pathBroken t
    else s
  | _ => s

/-- A zone event, first at the Drive Unit and then at Transport Control (R5; log 20). -/
def State.zoneEventAt (s : State) (t : Tr) (side : Side) (z : Zone) : State :=
  (s.brakeReels t).zoneAtControl t side z

/-- A column sensor fault event at Transport Control (R6, R21, R22, R30). -/
def State.sensorFaultAt (s : State) (t : Tr) (side : Side) : State :=
  match (s.tr t).ctl.state with
  | .threading | .seekingLoadPoint => s.failLoad t (some .loadFailed)
  | .ready | .inMotion | .stopping | .unloading => s.columnCause t side .sensor
  | _ => s

/-- `n` identical samples of a column's pattern, with the events they give (R5, R6, R8). -/
def State.columnSamples (s : State) (t : Tr) (side : Side) (p : Pattern) (n : Nat) : State :=
  let a := ((s.tr t).sense.column side).samples p n
  let s := s.modSense t fun x => x.setColumn side a.1
  match a.2 with
  | .none => s
  | .zone z => (s.zoneEventAt t side z).pathUpdate t
  | .fault => ((s.sensorFaultAt t side).zoneEventAt t side .unknown).pathUpdate t
  | .restored z => (s.zoneEventAt t side z).pathUpdate t

/-! ### Vacuum and tape present (R7, R9, R21, R22, R27, R30) -/

/-- A vacuum event at Transport Control (R21, R22, R27, R30). -/
def State.vacuumAtControl (s : State) (t : Tr) (side : Side) (present : Bool) : State :=
  if present then s.threadCheck t
  else
    match (s.tr t).ctl.state with
    | .threading => if (s.tr t).ctl.vacuumReached then s.failLoad t (some .loadFailed) else s
    | .seekingLoadPoint => s.failLoad t (some .loadFailed)
    | .ready | .inMotion | .stopping | .unloading => s.columnCause t side .vacuum
    | _ => s

/-- `n` samples of a column's vacuum switch (R7, R8; log 20). -/
def State.vacuumSamples (s : State) (t : Tr) (side : Side) (present : Bool) (n : Nat) : State :=
  let l := (s.tr t).sense.vacuumLevel side
  let changed := l.changes 10 present n
  let s := s.modSense t fun x => x.setVacuum side (l.samples 10 present n)
  if changed then (((s.vacuumAtControl t side present).brakeReels t)).pathUpdate t else s

/-- A tape-present event at Transport Control (R21, R22, R27, R30). In UNLOADING an ABSENT event ends the unload also
while a CLEAR or an abandonment is bringing the motion to rest (log 68). -/
def State.tapeAtControl (s : State) (t : Tr) (present : Bool) : State :=
  if present then s
  else
    let c := (s.tr t).ctl
    match c.state with
    | .threading | .seekingLoadPoint => s.failLoad t (some .loadFailed)
    | .ready | .inMotion | .stopping => if c.stopUnderWay then s.pathBroken t else s.emergency t .tapePath
    | .unloading => if c.stopUnderWay then s.pathBroken t else s.unloadEnds t
    | _ => s

/-- `n` samples of the tape-present sensor (R9). -/
def State.tapeSamples (s : State) (t : Tr) (present : Bool) (n : Nat) : State :=
  let l := (s.tr t).sense.tapePresent
  let changed := l.changes 10 present n
  let s := s.modSense t fun x => { x with tapePresent := l.samples 10 present n }
  if changed then s.tapeAtControl t present else s

/-! ### Markers (R10, R22, R50, R66 to R68) -/

/-- A BOT marker that re-anchors the position in a shuttle makes the Drive Unit brake it at once (R50, R66). -/
def Transport.botMet (x : Transport) (e : EdgeEvent) : Transport :=
  if x.reck.mode = .shuttle && x.reck.reanchors e && (x.drive.shuttlePhase = .accel || x.drive.shuttlePhase = .run)
  then { x with drive := { x.drive.brake with endedBy := .bot } }
  else x

/-- A marker edge event at Position Reckoning, the Drive Unit, Transport Control, the Locate Unit and the Transfer
Unit (R10, R22, R66 to R68; log 20). -/
def State.markerEvent (s : State) (t : Tr) (e : EdgeEvent) : State :=
  let s := (s.modReck t (·.markerEdge e)).modTr t (·.botMet e)
  ((s.seekMarker t e).modTr t (·.locateMarker e)).modTr t (·.xferMarker e)

/-- `n` samples of a marker sensor (R10). -/
def State.markerSamples (s : State) (t : Tr) (m : Marker) (v : Bool) (n : Nat) : State :=
  let x := s.tr t
  let sensor := x.sense.marker m
  let e := edgeEvent x.sense x.drive.engaged m v
  let s := s.modSense t fun y => y.setMarker m (sensor.samples v n)
  if sensor.changes v n then s.markerEvent t e else s

/-! ### Panel (R11 to R13, R19, R25, R35) -/

/-- An OFF event (R19): at once with no order in flight, otherwise pending. -/
def Transport.offEvent (x : Transport) : Transport :=
  if x.port.inFlight then { x with ctl := { x.ctl with offlinePending := x.ctl.online } }
  else
    { x with
      ctl := { x.ctl with online := false, offlinePending := false },
      port := if x.ctl.online && readyOrMoving x.ctl then x.port.raiseAtt .notReady else x.port }

/-- An ON event (R19): at once, with a pending change cancelled. -/
def State.onEvent (s : State) (t : Tr) : State :=
  let c := (s.tr t).ctl
  let s := s.modCtl t fun k => { k with online := true, offlinePending := false }
  if !c.online && readyOrMoving c then s.raiseCause t .ready else s

/-- `n` samples of the ONLINE switch (R12, R19). -/
def State.onlineSamples (s : State) (t : Tr) (on : Bool) (n : Nat) : State :=
  let l := (s.tr t).sense.online
  let changed := l.changes 20 on n
  let s := s.modSense t fun x => { x with online := l.samples 20 on n }
  if changed then (if on then s.onEvent t else s.modTr t Transport.offEvent) else s

/-- LOAD PRESSED at Transport Control (R25). -/
def State.loadButton (s : State) (t : Tr) : State :=
  let x := s.tr t
  if !x.ctl.online && x.ctl.state = .unloaded && x.sense.tapePresent.level then
    (s.beginLoad t .panelLoad none false).threadCheck t
  else s

/-- UNLOAD PRESSED at Transport Control (R25, R35). -/
def State.unloadButton (s : State) (t : Tr) : State :=
  let x := s.tr t
  if x.ctl.online then s
  else
    match x.ctl.state with
    | .ready =>
      if x.port.inFlight || x.port.pointer = .terminating || x.ctl.stopUnderWay then s
      else ((s.raiseCause t .notReady).beginUnload t .panelUnload true).takeRewound t
    | .threading | .seekingLoadPoint =>
      if x.ctl.operation = .panelLoad then s.failLoad t none else s
    | .faulted =>
      if x.ctl.stopUnderWay then s
      else (s.modCtl t fun c => { c with fault := .none }).dropTape t
    | _ => s

/-- The filter of a button (R13). -/
def Sensing.button (x : Sensing) : Button → Level
  | .load => x.loadButton
  | .unload => x.unloadButton

/-- The Sensing Interface with the filter of a button replaced. -/
def Sensing.setButton (x : Sensing) (b : Button) (l : Level) : Sensing :=
  match b with
  | .load => { x with loadButton := l }
  | .unload => { x with unloadButton := l }

/-- `n` samples of a button that read pressed (R13, R25). -/
def State.pressSamples (s : State) (t : Tr) (b : Button) (n : Nat) : State :=
  let l := (s.tr t).sense.button b
  let pressed := l.changes 20 true n
  let s := s.modSense t fun x => x.setButton b (l.samples 20 true n)
  if pressed then
    match b with
    | .load => s.loadButton t
    | .unload => s.unloadButton t
  else s

end Sys2Proof.Machine
end

