-- ==== Sys2Proof/Machine/System.lean ====
section
/-! DEFINITION. Power and the two lines of the host: POWER_ON, MAIN_POWER_LOSS, BACKUP_FAILURE, PWARN_ASSERTION,
PWARN_RELEASE, CONTROLLER_CLEAR, CLEAR_RELEASE (chapter 11). -/
namespace Sys2Proof.Machine

/-! ### Power (R14 to R16, R36, R58, R91, R92, R116, R151, R154, R170, R177, R180, R181) -/

/-- The retention verdict (R181): backup, sum and structure. -/
def retentionVerdict (s : State) : Bool :=
  !s.power.latch && retainedSum s.store = s.power.checkWord && storeSound s.store

/-- An ACTIVE record made HELD (R92). -/
def heldReel (r : ReelRecord) : ReelRecord :=
  if r.state = .active then { r with state := .held } else r

/-- The Map Store at power-on under a VALID verdict (R92). -/
def heldStore (m : MapStore) : MapStore :=
  { m with
    reels := { a0 := heldReel m.reels.a0, a1 := heldReel m.reels.a1, a2 := heldReel m.reels.a2,
               a3 := heldReel m.reels.a3 } }

/-- The Map Store at power-on (R92). -/
def storeAtPowerOn (s : State) : MapStore := if retentionVerdict s then heldStore s.store else .empty

/-- Main power comes up: every block takes its power-on state, and the retention check is made (R181). -/
def State.powerUp (s : State) (f : PowerOnSamples) : State :=
  let store := storeAtPowerOn s
  { s with
    trs := { a0 := .powerOn f.s0, a1 := .powerOn f.s1, a2 := .powerOn f.s2, a3 := .powerOn f.s3 },
    store := store, exchange := .powerOn, arb := .powerOn,
    power := .powerOn f.pwarn f.clear (retainedSum store) (retentionVerdict s), powered := true }

/-- POWER_ON (R181). -/
def execPowerOn (f : PowerOnSamples) (s : State) : Host.Outcome State Fault Refusal :=
  .next (s.powerUp f).finish

/-- VCC falls out of tolerance (R180): the retained store, the check word and the latch are held on VBAK, and nothing
else is kept; every output line is deasserted (R14) and INTR is released. `cut` is the check word that a change cut
off by the fall leaves. -/
def State.powerDown (s : State) (cut : Option Word) : State :=
  { s with
    trs := .all (.powerOn bareSamples), exchange := .powerOn, arb := .powerOn,
    power := { PowerMonitor.powerOn false false (cut.getD s.power.checkWord) false with latch := s.power.latch },
    intr := false, summary := 0, powered := false }

/-- MAIN_POWER_LOSS (R180). -/
def execMainPowerLoss (cut : Option Word) (s : State) : Host.Outcome State Fault Refusal :=
  .next (if s.powered then s.powerDown cut else s)

/-- BACKUP_FAILURE (R180): the latch is set while VCC is out of tolerance. -/
def execBackupFailure (s : State) : Host.Outcome State Fault Refusal :=
  .next (if s.powered then s else { s with power := { s.power with latch := true } })

/-! ### PWARN (R34, R54, R91, R134, R151, R168, R177 to R179) -/

/-- The assertion at the blocks of one transport (R178). An emergency stop under way is not changed (R34). The
Transfer Unit takes it before the Read Channel discards its record, so that the bytes delivered before the stop count
(R168) (log 20; log 24). -/
def State.pwarnAt (s : State) (t : Tr) : State :=
  let s := ((s.raiseAtt t .power).controlPower t).modDrive t Drive.power
  if (s.tr t).ctl.stopUnderWay then s.chanPower t
  else
    let s := ((s.xferPower t).chanPower t).locatePower t
    if (s.tr t).drive.atRest && (s.tr t).ctl.state = .powerHeld then s.endUnload t .powerStop else s

/-- The assertion taken (R178). -/
def State.takePwarn (s : State) : State :=
  let s := { s with power := { s.power with released := .all false } }
  (((s.pwarnAt .t0).pwarnAt .t1).pwarnAt .t2).pwarnAt .t3

/-- `n` samples of PWARN (R177). -/
def State.pwarnSamples (s : State) (v : Bool) (n : Nat) : State :=
  { s with power := { s.power with pwarn := s.power.pwarn.samples 10 v n } }

/-- PWARN_ASSERTION (R178). -/
def execPwarnAssertion (n : Nat) (s : State) : Host.Outcome State Fault Refusal :=
  runEach s fun s =>
    if s.power.pwarn.changes 10 true n then (s.pwarnSamples true n).takePwarn else s.pwarnSamples true n

/-- The release taken: handed to each transport that waits for it, at once or when its power stop is complete
(R179). -/
def State.takeRelease (s : State) : State :=
  (((s.lateRelease .t0).lateRelease .t1).lateRelease .t2).lateRelease .t3

/-- PWARN_RELEASE (R179). -/
def execPwarnRelease (n : Nat) (s : State) : Host.Outcome State Fault Refusal :=
  runEach s fun s =>
    if s.power.pwarn.changes 10 false n then (s.pwarnSamples false n).takeRelease else s.pwarnSamples false n

/-! ### CLEAR (R36, R91, R134, R144, R149, R152, R154, R168, R170, R182) -/

/-- The Order Port's pointer after CLEAR, or after an order abandoned or acknowledged: IDLE with index 0, no copy, no
indicators, nothing held (R137, R144, R152). -/
def Port.toIdle (p : Port) : Port :=
  { p with
    pointer := .idle, index := 0, terminationLost := false, copy := none, stage := .fetching, indicators := 0,
    stopNotice := false, held := none, senseTaken := 0 }

/-- CLEAR at the drive of a transport (R36). -/
def Drive.clear (d : Drive) : Drive := { d with staged := none, pending := none }

/-- CLEAR at the Order Port of a transport (R144, R149, R152): orders abandoned, requests withdrawn, the pointer IDLE,
the attention set emptied. -/
def State.portClear (s : State) (t : Tr) : State :=
  ((s.withdrawControl t).withdrawData t).modTr t fun x =>
    let y := if x.port.inFlight then x.applyOffline else x
    { y with port := { y.port.toIdle with attention := 0, faultAfter := false }, mapOrder := .none }

/-- READY raised at CLEAR for a transport that is then READY (R152). -/
def State.readyAtClear (s : State) (t : Tr) : State :=
  if (s.tr t).ctl.state = .ready then s.raiseAtt t .ready else s

/-- CLEAR at the blocks of one transport (R182; log 20). -/
def State.clearAt (s : State) (t : Tr) : State :=
  let s := ((s.controlClear t).modDrive t Drive.clear).modTr t Transport.locateIdle
  (((s.xferAbandon t).chanClear t).portClear t).readyAtClear t

/-- The clear taken (R182): every transport, and the exchange area free with its rotation kept (R170). -/
def State.takeClear (s : State) : State :=
  let s := (((s.clearAt .t0).clearAt .t1).clearAt .t2).clearAt .t3
  { s with
    exchange := { s.exchange with holder := none, waiting := .all false, table := [], written := 0 },
    power := { s.power with clearArmed := false } }

/-- `n` samples of CLEAR (R177). -/
def State.clearSamples (s : State) (v : Bool) (n : Nat) : State :=
  { s with power := { s.power with clear := s.power.clear.samples 10 v n } }

/-- CONTROLLER_CLEAR (R182). -/
def execControllerClear (n : Nat) (s : State) : Host.Outcome State Fault Refusal :=
  runEach s fun s =>
    if s.power.clear.changes 10 true n && s.power.clearArmed then (s.clearSamples true n).takeClear
    else s.clearSamples true n

/-- CLEAR_RELEASE (R182): CLEAR armed becomes yes again. -/
def execClearRelease (n : Nat) (s : State) : Host.Outcome State Fault Refusal :=
  runEach s fun s =>
    if s.power.clear.changes 10 false n then
      let s := s.clearSamples false n
      { s with power := { s.power with clearArmed := true } }
    else s.clearSamples false n

end Sys2Proof.Machine
end

