-- ==== Sys2Proof/Machine/HostBus.lean ====
section
/-! DEFINITION. The host bus and the Arbiter: ORDER_POINTER_WRITE, IGNORED_BUS_WRITE, ARBITER_GRANT,
ORDER_FETCH_COMPLETE, TERMINATION_WRITE_COMPLETE (chapter 8). BUS_TIMEOUT stands in Timeouts.lean. -/
namespace Sys2Proof.Machine

/-! ### Order pointers (R136 to R138, R144) -/

/-- The exchange area given up by the order of a transport, or its wait withdrawn (R170). -/
def State.releaseExchange (s : State) (t : Tr) : State :=
  let e := { s.exchange with waiting := s.exchange.waiting.set t false }
  { s with
    exchange := if e.holder = some t then { e with holder := none, table := [], written := 0 } else e }

/-- A map order of a transport is over: no stage, the exchange area given up, no data request (R98, R170). -/
def State.leaveMap (s : State) (t : Tr) : State :=
  let s := s.modTr t fun x => { x with mapOrder := .none }
  if s.exchange.holder = some t then (s.withdrawData t).releaseExchange t else s.releaseExchange t

/-- The orders whose abandonment the Locate Unit is told of: those it works on, and the UNLOAD whose rewind it makes
(R134, R144). -/
def locateCode (code : Nat) : Bool := code = 2 || code = 16 || code = 17 || code = 18

/-- The abandonment of an order at the Locate Unit (R134). Any tape motion order abandoned during a panel unload's
rewind ends that rewind with it (log 60). -/
def Transport.locateAbandon (x : Transport) (code : Nat) : Transport :=
  if locateCode code || (motionCode code && x.loc.order = .unloadRewind) then x.locateIdle else x

/-- The owners of an abandoned order are told (R23, R27, R29, R98, R134, R144, R168, R176). -/
def State.tellOwners (s : State) (t : Tr) (code : Nat) : State :=
  (((s.controlAbandon t code).modTr t (·.locateAbandon code)).xferAbandon t).leaveMap t

/-- The order in flight is abandoned (R137, R144): the conditions that a SENSE has taken out go back (R147), a pending
change to offline is applied (R19), and the owner is told (log 20). -/
def State.abandon (s : State) (t : Tr) : State :=
  let p := (s.tr t).port
  let code := match p.copy with | some c => c.code | none => 0
  let s := (s.withdrawControl t).modTr t fun x =>
    let y := x.applyOffline
    { y with port := { y.port.toIdle with attention := y.port.attention ||| y.port.senseTaken } }
  if p.stage = .fetching then s else s.tellOwners t code

/-- The pointer takes an index and becomes IN FLIGHT, and the fetch of the 12 words of the order block is requested
(R137, R138). -/
def State.startFetch (s : State) (t : Tr) (index : BitVec 13) : State :=
  (s.modPort t fun p => { p.toIdle with pointer := .inFlight, index := index }).requestControl t
    { kind := .fetch, address := index.toNat * 8, length := 12, words := [], sizes := [], orphan := false }

/-- The index bits of a written value (R136). -/
def writtenIndex (v : Word) : BitVec 13 := v.extractLsb' 0 13

/-- A write to an order pointer (R137). -/
def State.pointerWrite (s : State) (t : Tr) (index : BitVec 13) : State :=
  match (s.tr t).port.pointer with
  | .idle => if index = 0 then s else s.startFetch t index
  | .inFlight => if index = 0 then s.abandon t else s.raiseAtt t .protocol
  | .terminating =>
    if index = 0 then (s.withdrawControl t).modPort t fun p => p.leaveTerminating.toIdle
    else s.raiseAtt t .protocol
  | .completePending =>
    if index = 0 then s.modPort t Port.toIdle else (s.modPort t Port.toIdle).startFetch t index

/-- ORDER_POINTER_WRITE (R137). -/
def execOrderPointerWrite (t : Tr) (v : Word) (s : State) : Host.Outcome State Fault Refusal :=
  runTr t s fun s => s.pointerWrite t (writtenIndex v)

/-- IGNORED_BUS_WRITE (R136). -/
def execIgnoredBusWrite (_offset : Nat) (_value : Word) (s : State) : Host.Outcome State Fault Refusal :=
  .next s

/-! ### Tables of a map exchange (8.8, R171 to R173) -/

/-- The length of a map table: 8 words of header and 8 + t words for each entry (R171). -/
def tableLength (es : List Entry) : Nat :=
  8 + (es.map fun e => 8 + e.tag.length).foldl (· + ·) 0

/-- The header of a map table (8.8, R171). The bits of word 3 that 8.8 gives to no field hold 0: DESIGN CHOICE,
log 100. -/
def headerWords (r : ReelRecord) : List Word :=
  tagWords (r.tag.getD 0) ++
    [ bitIf r.tag.isSome 0 ||| bitIf r.eod.isSome 1,
      highWord (unsignedLong (r.eod.getD 0)), lowWord (unsignedLong (r.eod.getD 0)),
      BitVec.ofNat 16 r.entries.length, bitIf r.autoFile 0 ]

/-- The map table of a reel record (R171). -/
def tableWords (r : ReelRecord) : List Word := headerWords r ++ r.entries.flatMap entryWords

/-- A word of a table. -/
def tableWord (ws : List Word) (i : Nat) : Word := ws.getD i 0

/-- The two-word value that begins at a word of a table. -/
def tableLong (ws : List Word) (i : Nat) : BitVec 32 := longOf (tableWord ws i) (tableWord ws (i + 1))

/-- The EOD that a table's header flags present (8.8). -/
def tableEod (ws : List Word) : Option Nat :=
  if (tableWord ws 3).getLsbD 1 then some (tableLong ws 4).toNat else none

/-- The tag that a table's header flags present (8.8, R172). -/
def tableTag (ws : List Word) : Option Tag :=
  if (tableWord ws 3).getLsbD 0 then some (tagOfWords (tableWord ws 0) (tableWord ws 1) (tableWord ws 2)) else none

/-- The entry count of a table's header. -/
def tableCount (ws : List Word) : Nat := (tableWord ws 6).toNat

/-- The header of a table of length `c` is sound (R172). -/
def headerSound (ws : List Word) (c : Nat) : Bool :=
  tableCount ws ≤ 1024 && 8 + 8 * tableCount ws ≤ c && (tableWord ws 7 = 0 || tableWord ws 7 = 1) &&
    (tableEod ws).all fun n => n ≤ 16777215

/-- The kind of an entry record (8.8). -/
def tableKind (w : Word) : Option EntryKind :=
  match (w.extractLsb' 0 2).toNat with
  | 1 => some .checkpoint
  | 2 => some .note
  | 3 => some .file
  | _ => none

/-- The tag length of an entry record (8.8). -/
def tableTagLength (w : Word) : Nat := (w.extractLsb' 8 3).toNat

/-- The mark number and record length go with the kind (R173). -/
def kindFits (k : EntryKind) (mark recordLength : Nat) : Bool :=
  match k with
  | .file => 50001 ≤ mark && mark ≤ 65535 && recordLength = 0
  | _ => 1 ≤ mark && mark ≤ 49999

/-- The entry record at an offset of a table, as an entry in the form that R175 gives it; its slot is chosen at the
replacement. -/
def tableEntry (ws : List Word) (o : Nat) : Entry :=
  let w := tableWord ws (o + 1)
  let bound := if w.getLsbD 4 then max 400 (tableWord ws (o + 7)).toNat else 400
  { mark := (tableWord ws o).toNat, kind := (tableKind w).getD .note, block := (tableLong ws (o + 2)).toNat,
    position := (tableLong ws (o + 4)).toInt, recordLength := (tableWord ws (o + 6)).toNat, bound := some bound,
    tag := (ws.drop (o + 8)).take (tableTagLength w), slot := 0 }

/-- The checks of R173 on the first 8 words of the entry record at an offset, against the entries read before it
(latest first). -/
def entrySound (ws : List Word) (c o : Nat) (before : List Entry) : Bool :=
  let w := tableWord ws (o + 1)
  let e := tableEntry ws o
  let bound := (tableWord ws (o + 7)).toNat
  o + 8 + tableTagLength w ≤ c && tableTagLength w ≤ 4 &&
    (tableKind w).any (fun k => kindFits k e.mark e.recordLength) &&
    e.block ≤ 16777214 && (tableEod ws).all (fun n => e.block < n) &&
    0 ≤ e.position && e.position ≤ 16000000 &&
    (!w.getLsbD 4 || (1 ≤ bound && bound ≤ 20000)) &&
    (match before with
      | [] => true
      | f :: _ => f.block < e.block && f.position < e.position) &&
    before.all fun f => f.mark ≠ e.mark

/-- Where the reading of a table stands (R172, R173). -/
inductive Import where
  /-- At least so many words remain to be read; so many entries have been found valid. -/
  | more (need valid : Nat)
  /-- The table is invalid: entries found valid, and the offset of the failing record. -/
  | invalid (valid offset : Nat)
  /-- The whole table has been read, with its entries in table order. -/
  | whole (entries : List Entry)
deriving DecidableEq, Repr

/-- The entry records still to be read from an offset on, `n` in all; `before` holds those read, latest first
(R173). -/
def importEntries (ws : List Word) (c : Nat) : Nat → Nat → List Entry → Import
  | 0, _, before => .whole before.reverse
  | n + 1, o, before =>
    if c < o + 8 then .invalid before.length o
    else if ws.length < o + 8 then .more (o + 8 + 8 * n - ws.length) before.length
    else if !entrySound ws c o before then .invalid before.length o
    else
      let next := o + 8 + tableTagLength (tableWord ws (o + 1))
      if ws.length < next then .more (next + 8 * n - ws.length) before.length
      else importEntries ws c n next (tableEntry ws o :: before)

/-- Where the reading of a table of length `c` stands with the words read so far (R172, R173). -/
def importStatus (ws : List Word) (c : Nat) : Import :=
  if ws.length < 8 then .more (8 - ws.length) 0
  else if !headerSound ws c then .invalid 0 0
  else importEntries ws c (tableCount ws) 8 []

/-- The entries found valid so far (R172, R176). -/
def Import.valid : Import → Nat
  | .more _ v => v
  | .invalid v _ => v
  | .whole es => es.length

/-- The words that the next burst of an import reads (R172): never past what the table can still need, nor past the
`room` words that operand C still allows. -/
def Import.burst (room : Nat) : Import → Nat
  | .more n _ => min room (min 8 n)
  | _ => 0

/-! ### The Arbiter (R149) -/

/-- A write transfer or a read transfer of a kind. -/
def burst (k : TransferKind) (address length : Nat) (words : List Word) (sizes : List Nat) : BusTransfer :=
  { kind := k, address := address % 16777216, length := length, words := words, sizes := sizes, orphan := false }

/-- The data address of the order of a transport. -/
def State.orderAddress (s : State) (t : Tr) : Nat :=
  match (s.tr t).port.copy with
  | some c => c.address
  | none => 0

/-- Operand C of the order of a transport. -/
def State.orderC (s : State) (t : Tr) : Nat :=
  match (s.tr t).port.copy with
  | some c => c.opC
  | none => 0

/-- The burst that a data request of a kind makes at its grant (R155, R156, R171, R172; log 12). -/
def State.dataBurst (s : State) (t : Tr) (k : TransferKind) : BusTransfer :=
  let x := s.tr t
  match k with
  | .readBurst =>
    let ws := (readBurst x).flatMap wordsOfBytes
    burst .readBurst x.xfer.hostAddress ws.length ws ((readBurst x).map (·.length))
  | .writeBurst => burst .writeBurst x.xfer.hostAddress (writeBurstWords x) [] []
  | .dumpBurst =>
    let ws := (s.exchange.table.drop s.exchange.written).take 8
    burst .dumpBurst (s.orderAddress t + 2 * s.exchange.written) ws.length ws []
  | k =>
    burst k (s.orderAddress t + 2 * s.exchange.table.length)
      ((importStatus s.exchange.table (s.orderC t)).burst (s.orderC t - s.exchange.table.length)) [] []

/-- The bytes of a read burst leave the FIFO at its grant (R155; log 12). -/
def State.takeBurst (s : State) (t : Tr) (k : TransferKind) : State :=
  match k with
  | .readBurst => s.modTr t fun x => { x with xfer := x.xfer.giveUp (readBurstBytes x) }
  | _ => s

/-- A control request granted (R149). -/
def State.grantControl (s : State) (t : Tr) : State :=
  match s.arb.control.get t with
  | some x =>
    { s with arb := { s.arb with control := s.arb.control.set t none, controlLast := t, current := some (t, x) } }
  | none => s

/-- A data request granted (R149). -/
def State.grantData (s : State) (t : Tr) : State :=
  match s.arb.data.get t with
  | some k =>
    let x := s.dataBurst t k
    let s := s.takeBurst t k
    { s with arb := { s.arb with data := s.arb.data.set t none, dataLast := t, current := some (t, x) } }
  | none => s

/-- One grant while the port is free: control before data, by rotation within a class (R149). -/
def State.grant (s : State) : State :=
  if s.arb.current.isSome then s
  else
    match firstAfter (fun t => (s.arb.control.get t).isSome) s.arb.controlLast with
    | some t => s.grantControl t
    | none =>
      match firstAfter (fun t => (s.arb.data.get t).isSome) s.arb.dataLast with
      | some t => s.grantData t
      | none => s

/-- ARBITER_GRANT (R149). -/
def execArbiterGrant (s : State) : Host.Outcome State Fault Refusal :=
  runEach s State.grant

/-! ### Ends of transfers (R138, R142, R149) -/

/-- The transfer under way ends in full, and the port is free (R149). A write's words stand in host memory. -/
def State.freePort (s : State) (x : BusTransfer) (done : Nat) : State :=
  let s := { s with arb := { s.arb with current := none } }
  if x.words = [] then s else s.hostWrite x.address (x.words.take done)

/-- A read transfer of a kind ends with its words: `f` is what the requester does with them. A transfer of another
kind under way is not ended by it (log 1); another number of words is no event of the part (log 7); an orphan's words
go to no one (R150). -/
def endRead (k : TransferKind) (ws : List Word) (s : State) (f : Tr → State → State) :
    Host.Outcome State Fault Refusal :=
  match s.arb.current with
  | some (t, x) =>
    if x.kind = k then
      if ws.length = x.length then
        runEach s fun s =>
          let s := s.freePort x x.length
          if x.orphan then s else f t s
      else .fault .wordCount
    else .next s
  | none => .next s

/-- A write transfer of a kind ends in full: its words stand in host memory, and `f` is what the requester does
(R149, R150). -/
def endWrite (k : TransferKind) (s : State) (f : Tr → BusTransfer → State → State) :
    Host.Outcome State Fault Refusal :=
  match s.arb.current with
  | some (t, x) =>
    if x.kind = k then
      runEach s fun s =>
        let s := s.freePort x x.length
        if x.orphan then s else f t x s
    else .next s
  | none => .next s

/-- Validation of the copy of an order (R139): the condition of the first step that refuses. -/
def State.validate (s : State) (t : Tr) (c : OrderCopy) : Option Condition :=
  if c.code < 1 || 22 < c.code then some .illegalOrder
  else if c.usesAddress && c.w5.getLsbD 0 then some .parameter
  else s.admission t c.code

/-- The order block has been read: the copy is kept, validated and dispatched, or refused (R138, R139). -/
def State.fetched (s : State) (t : Tr) (ws : List Word) : State :=
  let c := copyOfWords ws
  let s := s.modPort t fun p => { p with copy := some c }
  match s.validate t c with
  | some e => s.endWith t e
  | none => s.modPort t fun p => { p with stage := .dispatched }

/-- ORDER_FETCH_COMPLETE (R138). -/
def execOrderFetchComplete (ws : List Word) (s : State) : Host.Outcome State Fault Refusal :=
  endRead .fetch ws s fun t s => s.fetched t ws

/-- The termination write has ended: the pointer becomes COMPLETE PENDING (R142), and FAULT is raised for an emergency
stop that began meanwhile (R143). -/
def State.terminated (s : State) (t : Tr) (lost : Bool) : State :=
  s.modPort t fun p =>
    if p.pointer = .terminating then
      { p.leaveTerminating with pointer := .completePending, terminationLost := lost }
    else p

/-- TERMINATION_WRITE_COMPLETE (R142). -/
def execTerminationWriteComplete (s : State) : Host.Outcome State Fault Refusal :=
  endWrite .termination s fun t _ s => s.terminated t false

end Sys2Proof.Machine
end

