-- ==== Sys2Proof/Machine/ControlOrders.lean ====
section
/-! DEFINITION. The orders of Transport Control, the Drive Unit, the Read Channel and the Order Port: LOAD, UNLOAD,
CLEAR_FAULT, SET_PROFILE, PROFILE_RECORD_READ, SET_DETECTOR, DETECTOR_RECORD_READ, SENSE, SENSE_RECORD_WRITTEN,
SET_NOTICE_MASK (chapters 2, 3, 5, 8). -/
namespace Sys2Proof.Machine

/-! ### LOAD, UNLOAD, CLEAR FAULT (R20, R24, R26, R33) -/

/-- The volume tag that a LOAD carries: absent without TAGGED (R20). -/
def loadTagOf (c : OrderCopy) : Option Tag := if c.modifier 8 then some c.tag else none

/-- A LOAD admitted in READY: the reel record rule applied at once (R20, R24). -/
def State.attachOrder (s : State) (t : Tr) (c : OrderCopy) : State :=
  (s.attach t (loadTagOf c) (c.modifier 9)).endOrder t
    { condition := .normal, count := s.attachCount t (loadTagOf c), value := 0, markBlock := none }

/-- A LOAD taken by Transport Control (R20). -/
def State.takeLoad (s : State) (t : Tr) (c : OrderCopy) : State :=
  if (s.tr t).ctl.state = .unloaded then
    (s.beginLoad t .orderLoad (loadTagOf c) (c.modifier 9)).threadCheck t
  else s.attachOrder t c

/-- LOAD (R20). -/
def execLoad (t : Tr) (s : State) : Host.Outcome State Fault Refusal :=
  runTr t s fun s => s.takeOrder t 1 fun s c => s.takeLoad t c

/-- UNLOAD (R26). -/
def execUnload (t : Tr) (s : State) : Host.Outcome State Fault Refusal :=
  runTr t s fun s => s.takeOrder t 2 fun s c => (s.beginUnload t .orderUnload (c.modifier 8)).takeRewound t

/-- CLEAR_FAULT (R33); in another state than FAULTED it completes at once with no effect (R18). -/
def execClearFault (t : Tr) (s : State) : Host.Outcome State Fault Refusal :=
  runTr t s fun s => s.takeOrder t 3 fun s _ =>
    if (s.tr t).ctl.state = .faulted then s.clearTheFault t else s.endWith t .normal

/-! ### SET PROFILE and SET DETECTOR (R56, R57, R89, R90, R153) -/

/-- A control read of so many words from the data address of an order (8.6). -/
def State.readRecord (s : State) (t : Tr) (k : TransferKind) (c : OrderCopy) (n : Nat) : State :=
  s.requestControl t (burst k c.address n [] [])

/-- SET_PROFILE (R56). -/
def execSetProfile (t : Tr) (s : State) : Host.Outcome State Fault Refusal :=
  runTr t s fun s => s.takeOrder t 4 fun s c => s.readRecord t .profile c 14

/-- The profile record applied (R56, R57, R153). -/
def State.profileRead (s : State) (t : Tr) (ws : List Word) : State :=
  let formed := profileFormed ws (s.tr t).drive.replaced
  let p := profileAdjust formed
  (((s.modDrive t (·.acceptProfile p)).raiseIndIf t (p ≠ formed) .parameterAdjusted)).endWith t .normal

/-- PROFILE_RECORD_READ (R57). -/
def execProfileRecordRead (ws : List Word) (s : State) : Host.Outcome State Fault Refusal :=
  endRead .profile ws s fun t s => s.profileRead t ws

/-- SET_DETECTOR (R89). -/
def execSetDetector (t : Tr) (s : State) : Host.Outcome State Fault Refusal :=
  runTr t s fun s => s.takeOrder t 5 fun s c => s.readRecord t .detector c 4

/-- The detector record applied, or refused with PARAMETER (R89, R90). -/
def State.detectorRead (s : State) (t : Tr) (ws : List Word) : State :=
  if settingsInRange (settingsOfWords ws) then
    (s.modChan t (·.accept (settingsOfWords ws))).endWith t .normal
  else s.endWith t .parameter

/-- DETECTOR_RECORD_READ (R90). -/
def execDetectorRecordRead (ws : List Word) (s : State) : Host.Outcome State Fault Refusal :=
  endRead .detector ws s fun t s => s.detectorRead t ws

/-! ### SENSE and SET NOTICE MASK (R147, R148) -/

/-- A SENSE taken: the record is formed, the conditions leave the attention set, and the write is requested
(R147). -/
def State.takeSense (s : State) (t : Tr) (c : OrderCopy) : State :=
  let ws := senseRecord (s.tr t) (s.reel t) s.store.poolFree
  (s.modPort t fun p => { p with attention := 0, senseTaken := p.attention }).requestControl t
    (burst .senseRecord c.address 16 ws [])

/-- SENSE (R147). -/
def execSense (t : Tr) (s : State) : Host.Outcome State Fault Refusal :=
  runTr t s fun s => s.takeOrder t 21 fun s c => s.takeSense t c

/-- SENSE_RECORD_WRITTEN (R147). -/
def execSenseRecordWritten (s : State) : Host.Outcome State Fault Refusal :=
  endWrite .senseRecord s fun t _ s =>
    (s.modPort t fun p => { p with senseTaken := 0 }).endOrder t
      { condition := .normal, count := 16, value := 0, markBlock := none }

/-- The new notice mask, or PARAMETER when a bit above 4 is given (R148). -/
def State.takeMask (s : State) (t : Tr) (c : OrderCopy) : State :=
  if 32 ≤ c.opA then s.endWith t .parameter
  else
    let old := (s.tr t).port.noticeMask
    (s.modPort t fun p => { p with noticeMask := c.w1.extractLsb' 0 5 }).endOrder t
      { condition := .normal, count := 0, value := old.setWidth 32, markBlock := none }

/-- SET_NOTICE_MASK (R148). -/
def execSetNoticeMask (t : Tr) (s : State) : Host.Outcome State Fault Refusal :=
  runTr t s fun s => s.takeOrder t 22 fun s c => s.takeMask t c

end Sys2Proof.Machine
end

