-- ==== Sys2Proof/Machine/MapOrders.lean ====
section
/-! DEFINITION. The map orders and the map exchange: ENTER_MARK, AMEND_MARK, RETIRE_MARK, LOOK_UP_MARK,
TAG_WORDS_READ, MAP_ENTRY_RECORD_WRITTEN, DUMP_MAP, LOAD_MAP, EXCHANGE_AREA_GRANT, DUMP_MAP_BURST_COMPLETE,
LOAD_MAP_BURST_COMPLETE (chapters 6 and 10). -/
namespace Sys2Proof.Machine

/-! ### Host entries (R98 to R103) -/

/-- The tag words of a map order are read as one control transfer (R98). -/
def State.readTag (s : State) (t : Tr) (c : OrderCopy) (n : Nat) : State :=
  (s.modTr t fun x => { x with mapOrder := .tagWords }).readRecord t .tagWords c n

/-- The first stage of an ENTER MARK, and the third at once when it carries no tag (R98, R99). -/
def State.takeEnter (s : State) (t : Tr) (c : OrderCopy) : State :=
  let o := enterOperands c
  match enterCheckOperands (s.reel t) o with
  | some e => s.endWith t e
  | none => if o.tagLength = 0 then s.enterStage3 t o [] else s.readTag t c o.tagLength

/-- ENTER_MARK (R99). -/
def execEnterMark (t : Tr) (s : State) : Host.Outcome State Fault Refusal :=
  runTr t s fun s => s.takeOrder t 12 fun s c => s.takeEnter t c

/-- The first stage of an AMEND MARK, and the third at once when it carries no new tag words (R98, R101). -/
def State.takeAmend (s : State) (t : Tr) (c : OrderCopy) : State :=
  let o := amendOperands c
  match amendCheckOperands (s.reel t) o with
  | some e => s.endWith t e
  | none => if o.tagLength = 0 then s.amendStage3 t o [] else s.readTag t c o.tagLength

/-- AMEND_MARK (R101). -/
def execAmendMark (t : Tr) (s : State) : Host.Outcome State Fault Refusal :=
  runTr t s fun s => s.takeOrder t 13 fun s c => s.takeAmend t c

/-- RETIRE_MARK (R102). -/
def execRetireMark (t : Tr) (s : State) : Host.Outcome State Fault Refusal :=
  runTr t s fun s => s.takeOrder t 14 fun s c => s.retireStage3 t c.opA (c.modifier 8)

/-- The entry that a LOOK UP MARK names (R103). -/
def lookedUp (r : ReelRecord) (c : OrderCopy) : Option Entry :=
  if c.modifier 8 then nearestBelow r.entries c.opB else findMark r.entries c.opA

/-- The operand of a LOOK UP MARK lies in its range (R103). -/
def lookUpInRange (c : OrderCopy) : Bool :=
  if c.modifier 8 then c.opB ≤ 16777215 else markInRange c.opA

/-- A LOOK UP MARK up to its entry record write (R98, R103). NOT READY comes before PARAMETER (log 96). -/
def State.takeLookUp (s : State) (t : Tr) (c : OrderCopy) : State :=
  let r := s.reel t
  if r.state = .none then s.endWith t .notReady
  else if !lookUpInRange c then s.endWith t .parameter
  else
    match lookedUp r c with
    | none => s.endWith t .noSuchMark
    | some e =>
      (s.modTr t fun x => { x with mapOrder := .entryWrite }).requestControl t
        (burst .entryRecord c.address (8 + e.tag.length) (entryWords e) [])

/-- LOOK_UP_MARK (R103). -/
def execLookUpMark (t : Tr) (s : State) : Host.Outcome State Fault Refusal :=
  runTr t s fun s => s.takeOrder t 15 fun s c => s.takeLookUp t c

/-- The third stage of a map order at the end of its tag transfer (R98). -/
def State.tagRead (s : State) (t : Tr) (ws : List Word) : State :=
  let s := s.modTr t fun x => { x with mapOrder := .none }
  match (s.tr t).port.copy with
  | some c =>
    if c.code = 12 then s.enterStage3 t (enterOperands c) ws else s.amendStage3 t (amendOperands c) ws
  | none => s

/-- TAG_WORDS_READ (R98). -/
def execTagWordsRead (ws : List Word) (s : State) : Host.Outcome State Fault Refusal :=
  endRead .tagWords ws s fun t s => s.tagRead t ws

/-- MAP_ENTRY_RECORD_WRITTEN (R103): the result position is the one that the record carries. -/
def execMapEntryRecordWritten (s : State) : Host.Outcome State Fault Refusal :=
  endWrite .entryRecord s fun t x s =>
    (s.modTr t fun y => { y with mapOrder := .none }).endOrder t
      { condition := .normal, count := 1, value := tableLong x.words 4, markBlock := none }

/-! ### The exchange area (R170) -/

/-- The order of an exchange is over: the area is given up and its result goes to the Order Port (R170). -/
def State.endExchange (s : State) (t : Tr) (r : OrderResult) : State := (s.leaveMap t).endOrder t r

/-- The order of a DUMP MAP once it holds the area (R171). -/
def State.dumpStart (s : State) (t : Tr) : State :=
  let r := s.reel t
  if r.state = .none then
    s.endExchange t { condition := .notReady, count := 0, value := 0, markBlock := none }
  else if s.orderC t < tableLength r.entries then
    s.endExchange t { condition := .parameter, count := tableLength r.entries, value := 0, markBlock := none }
  else
    { s with exchange := { s.exchange with table := tableWords r, written := 0 } }.requestData t .dumpBurst

/-- The order of a LOAD MAP once it holds the area (R172). -/
def State.loadStart (s : State) (t : Tr) : State :=
  { s with exchange := { s.exchange with table := [], written := 0 } }.requestData t .loadBurst

/-- The area goes to an order, whose work begins (R170). -/
def State.giveArea (s : State) (t : Tr) : State :=
  let s := { s with
    exchange := { s.exchange with
      holder := some t, last := t, waiting := s.exchange.waiting.set t false, table := [], written := 0 } }
  match (s.tr t).port.copy with
  | some c => if c.code = 19 then s.dumpStart t else s.loadStart t
  | none => s

/-- Some order waits for the area. -/
def Exchange.anyWaiting (e : Exchange) : Bool := e.waiting.a0 || e.waiting.a1 || e.waiting.a2 || e.waiting.a3

/-- An order asks for the area: it takes it at once when it is free, and waits otherwise (R170; log 48). -/
def State.askArea (s : State) (t : Tr) : State :=
  let s := s.modTr t fun x => { x with mapOrder := .exchange }
  if s.exchange.holder.isNone && !s.exchange.anyWaiting then s.giveArea t
  else { s with exchange := { s.exchange with waiting := s.exchange.waiting.set t true } }

/-- DUMP_MAP (R171). -/
def execDumpMap (t : Tr) (s : State) : Host.Outcome State Fault Refusal :=
  runTr t s fun s => s.takeOrder t 19 fun s _ =>
    if (s.reel t).state = .none then s.endWith t .notReady else s.askArea t

/-- LOAD_MAP (R172). -/
def execLoadMap (t : Tr) (s : State) : Host.Outcome State Fault Refusal :=
  runTr t s fun s => s.takeOrder t 20 fun s c =>
    if c.opC < 8 || 12296 < c.opC then s.endWith t .parameter else s.askArea t

/-- The free area goes to the first waiting order after the rotation position (R170; log 48). -/
def State.grantArea (s : State) : State :=
  if s.exchange.holder.isSome then s
  else
    match firstAfter (fun t => s.exchange.waiting.get t) s.exchange.last with
    | some t => s.giveArea t
    | none => s

/-- EXCHANGE_AREA_GRANT (R170). -/
def execExchangeAreaGrant (s : State) : Host.Outcome State Fault Refusal :=
  runEach s State.grantArea

/-! ### DUMP MAP (R171) -/

/-- A burst of a dump has been written; after the last the order ends (R171). -/
def State.dumped (s : State) (t : Tr) (n : Nat) : State :=
  let e := { s.exchange with written := s.exchange.written + n }
  let s := { s with exchange := e }
  if e.table.length ≤ e.written then
    s.endExchange t
      { condition := .normal, count := e.table.length, value := unsignedLong (tableCount e.table),
        markBlock := none }
  else s.requestData t .dumpBurst

/-- DUMP_MAP_BURST_COMPLETE (R171). -/
def execDumpMapBurstComplete (s : State) : Host.Outcome State Fault Refusal :=
  endWrite .dumpBurst s fun t x s => s.dumped t x.length

/-! ### LOAD MAP (R172 to R175) -/

/-- Imported entries placed in free slots, in table order (R93, R174). -/
def placeImports (m : MapStore) (t : Tr) : List Entry → MapStore
  | [] => m
  | e :: rest =>
    let r := m.reels.get t
    placeImports
      { reels := m.reels.set t { r with entries := r.entries ++ [{ e with slot := m.freeSlot }] },
        poolFree := m.poolFree - 1 } t rest

/-- The record as a valid table leaves it, but for its entries (R174). -/
def importedReel (r : ReelRecord) (ws : List Word) : ReelRecord :=
  let base := { r with eod := tableEod ws, autoFile := tableWord ws 7 = 1, entries := [] }
  if r.state = .none then
    { base with state := .held, tag := tableTag ws, volumeCheck := volumeCheckOf (tableTag ws) }
  else base

/-- The tags of a table and of a record differ (R174). -/
def volumeMismatch (r : ReelRecord) (ws : List Word) : Bool :=
  match r.state, tableTag ws, r.tag with
  | .none, _, _ => false
  | _, some a, some b => a ≠ b
  | _, _, _ => false

/-- The checks and the replacement of R174, made at one moment (log 28). -/
def State.importTable (s : State) (t : Tr) (es : List Entry) : State :=
  let ws := s.exchange.table
  let r := s.reel t
  let old := r.entries.length
  if volumeMismatch r ws then
    s.endExchange t { condition := .volumeMismatch, count := 0, value := 0, markBlock := none }
  else if s.store.poolFree + old < es.length then
    s.endExchange t { condition := .tableInvalid, count := es.length, value := 0, markBlock := none }
  else
    let s := s.setReel t (importedReel r ws)
    let s := { s with store := placeImports s.store t es }
    (s.raiseIndIf t (es.length ≠ 0 || old ≠ 0) .mapChanged).endExchange t
      { condition := .normal, count := es.length, value := unsignedLong old, markBlock := none }

/-- A burst of an import has been read (R172 to R174). -/
def State.imported (s : State) (t : Tr) (ws : List Word) : State :=
  let s := { s with exchange := { s.exchange with table := s.exchange.table ++ ws } }
  match importStatus s.exchange.table (s.orderC t) with
  | .more _ _ => s.requestData t .loadBurst
  | .invalid v o =>
    s.endExchange t { condition := .tableInvalid, count := v, value := unsignedLong o, markBlock := none }
  | .whole es => s.importTable t es

/-- LOAD_MAP_BURST_COMPLETE (R172). -/
def execLoadMapBurstComplete (ws : List Word) (s : State) : Host.Outcome State Fault Refusal :=
  endRead .loadBurst ws s fun t s => s.imported t ws

end Sys2Proof.Machine
end

