-- ==== Sys2Proof/Machine/TapeOrders.lean ====
section
/-! DEFINITION. The orders of the Transfer Unit and the Locate Unit: READ, WRITE, WRITE_FILE_MARK, ERASE,
SPACE_FORWARD, SPACE_BACKWARD, READ_BURST_COMPLETE, WRITE_BURST_COMPLETE, READ_DRAIN_COMPLETE, WRITE_START_TIMEOUT,
ERASE_LENGTH_REACHED, LOCATE_MARK, LOCATE_BLOCK, REWIND, SCAN_BUDGET_EXCEEDED (chapters 7 and 9). -/
namespace Sys2Proof.Machine

/-! ### The Transfer Unit (R157, R159, R162, R166, R167) -/

/-- A READ as it is taken: a record count of 0 reads one record (R157). -/
def readOrder (c : OrderCopy) : Transfer := .taken (.read (c.modifier 8)) (max 1 c.opA) c.opC c.address

/-- READ (R159). -/
def execRead (t : Tr) (s : State) : Host.Outcome State Fault Refusal :=
  runTr t s fun s => s.takeOrder t 6 fun s c => s.xferTake t (readOrder c)

/-- WRITE (R162). -/
def execWrite (t : Tr) (s : State) : Host.Outcome State Fault Refusal :=
  runTr t s fun s => s.takeOrder t 7 fun s c => s.xferTake t (.taken (.write c.opC) 0 c.opC c.address)

/-- WRITE_FILE_MARK (R162). -/
def execWriteFileMark (t : Tr) (s : State) : Host.Outcome State Fault Refusal :=
  runTr t s fun s => s.takeOrder t 8 fun s _ => s.xferTake t (.taken .writeFileMark 0 0 0)

/-- ERASE (R166). -/
def execErase (t : Tr) (s : State) : Host.Outcome State Fault Refusal :=
  runTr t s fun s => s.takeOrder t 9 fun s c => s.xferTake t (.taken (.erase c.opB) 0 0 0)

/-- A SPACE FORWARD taken: a record count of 0 completes at once (R157). -/
def State.takeSpaceForward (s : State) (t : Tr) (c : OrderCopy) : State :=
  if c.opA = 0 then s.xferRefuse t .normal
  else s.xferTake t (.taken (.space .forward (c.modifier 8)) c.opA 0 0)

/-- SPACE_FORWARD (R167). -/
def execSpaceForward (t : Tr) (s : State) : Host.Outcome State Fault Refusal :=
  runTr t s fun s => s.takeOrder t 10 fun s c => s.takeSpaceForward t c

/-- A SPACE BACKWARD taken: a record count of 0, or the load point, completes at once (R157; log 40). -/
def State.takeSpaceBackward (s : State) (t : Tr) (c : OrderCopy) : State :=
  if c.opA = 0 then s.xferRefuse t .normal
  else if (s.tr t).reck.atLoadPoint then s.xferRefuse t .loadPoint
  else s.xferTake t (.taken (.space .backward (c.modifier 8)) c.opA 0 0)

/-- SPACE_BACKWARD (R167). -/
def execSpaceBackward (t : Tr) (s : State) : Host.Outcome State Fault Refusal :=
  runTr t s fun s => s.takeOrder t 11 fun s c => s.takeSpaceBackward t c

/-- READ_BURST_COMPLETE (R155). -/
def execReadBurstComplete (s : State) : Host.Outcome State Fault Refusal :=
  endWrite .readBurst s fun t x s => (s.modXfer t (·.delivered x.sizes)).xferTest t

/-- WRITE_BURST_COMPLETE (R156). -/
def execWriteBurstComplete (ws : List Word) (s : State) : Host.Outcome State Fault Refusal :=
  endRead .writeBurst ws s fun t s => (s.modXfer t (·.takeWords ws)).xferTest t

/-- READ_DRAIN_COMPLETE (R160). -/
def execReadDrainComplete (t : Tr) (s : State) : Host.Outcome State Fault Refusal :=
  runTr t s fun s => if s.drainDue t then s.xferEnd t ((s.tr t).xfer.held.getD .normal) else s

/-- WRITE_START_TIMEOUT (R163). -/
def execWriteStartTimeout (t : Tr) (s : State) : Host.Outcome State Fault Refusal :=
  runTr t s fun s => s.doStartTimeout t

/-- ERASE_LENGTH_REACHED (R166). -/
def execEraseLengthReached (t : Tr) (s : State) : Host.Outcome State Fault Refusal :=
  runTr t s fun s => s.doEraseLength t

/-! ### The Locate Unit (R117, R123, R128, R130) -/

/-- A LOCATE MARK taken by the Locate Unit (R117). -/
def State.takeLocateMark (s : State) (t : Tr) (mark : Nat) : State :=
  match locateMarkCheck (s.tr t) (s.reel t) mark with
  | some c => s.endWith t c
  | none =>
    match findMark (s.reel t).entries mark with
    | some e => ((s.modTr t Transport.supersedeUnload).modLoc t fun _ => .forMark e).locateBegin t
    | none => s.endWith t .noSuchMark

/-- LOCATE_MARK (R117). -/
def execLocateMark (t : Tr) (s : State) : Host.Outcome State Fault Refusal :=
  runTr t s fun s => s.takeOrder t 16 fun s c => s.takeLocateMark t c.opA

/-- A LOCATE BLOCK taken by the Locate Unit (R128). -/
def State.takeLocateBlock (s : State) (t : Tr) (n : Nat) : State :=
  match locateBlockCheck (s.tr t) (s.reel t) n with
  | some c => s.endWith t c
  | none => ((s.modTr t Transport.supersedeUnload).modLoc t fun _ => .forBlock n).locateBegin t

/-- LOCATE_BLOCK (R128). -/
def execLocateBlock (t : Tr) (s : State) : Host.Outcome State Fault Refusal :=
  runTr t s fun s => s.takeOrder t 17 fun s c => s.takeLocateBlock t c.opB

/-- REWIND (R130). -/
def execRewind (t : Tr) (s : State) : Host.Outcome State Fault Refusal :=
  runTr t s fun s => s.takeOrder t 18 fun s _ => (s.modTr t Transport.supersedeUnload).beginRewind t .rewind

/-- SCAN_BUDGET_EXCEEDED (R123). -/
def execScanBudgetExceeded (t : Tr) (s : State) : Host.Outcome State Fault Refusal :=
  runTr t s fun s => s.doBudget t

end Sys2Proof.Machine
end

