-- ==== Sys2Proof/Machine/Timeouts.lean ====
section
/-! DEFINITION. BUS_TIMEOUT (R150), and what each requester does with it (R56, R89, R98, R103, R138, R142, R147, R169,
R171, R172, R176). -/
namespace Sys2Proof.Machine

/-- A dump whose burst timed out (R171). -/
def State.dumpTimeout (s : State) (t : Tr) (done : Nat) : State :=
  s.endExchange t
    { condition := .busError, count := s.exchange.written + done, value := 0, markBlock := none }

/-- An import whose burst timed out: the result count gives the entries found valid (R176; log 28). -/
def State.loadTimeout (s : State) (t : Tr) (ws : List Word) : State :=
  s.endExchange t
    { condition := .busError, count := (importStatus (s.exchange.table ++ ws) (s.orderC t)).valid, value := 0,
      markBlock := none }

/-- What the requester of a transfer that timed out does (R150). A fetch that timed out reports no indicators
(R138). -/
def State.timedOut (s : State) (t : Tr) (x : BusTransfer) (done : Nat) (ws : List Word) : State :=
  match x.kind with
  | .fetch => (s.modPort t fun p => { p with indicators := 0 }).endWith t .busError
  | .termination => s.terminated t true
  | .profile | .detector => s.endWith t .busError
  | .tagWords | .entryRecord => (s.modTr t fun y => { y with mapOrder := .none }).endWith t .busError
  | .senseRecord =>
    (s.modPort t fun p => { p with attention := p.attention ||| p.senseTaken, senseTaken := 0 }).endWith t .busError
  | .readBurst | .writeBurst => s.xferBusTimeout t x done
  | .dumpBurst => s.dumpTimeout t done
  | .loadBurst => s.loadTimeout t ws

/-- A read transfer's words are given with its timeout. -/
def TransferKind.reads : TransferKind → Bool
  | .fetch | .profile | .detector | .tagWords | .writeBurst | .loadBurst => true
  | _ => false

/-- BUS_TIMEOUT (R150): the transfer under way ends after `done` words. -/
def execBusTimeout (done : Nat) (ws : List Word) (s : State) : Host.Outcome State Fault Refusal :=
  match s.arb.current with
  | some (t, x) =>
    if done < x.length && (!x.kind.reads || ws.length = done) then
      runEach s fun s =>
        let s := s.freePort x done
        if x.orphan then s else s.timedOut t x done ws
    else .fault .wordCount
  | none => .next s

end Sys2Proof.Machine
end

