-- ==== Sys2Proof/Machine/SensorEvents.lean ====
section
/-! DEFINITION. The events of the Sensing Interface: TACHOMETER_COUNT, PITCH_MEASURED, ZONE_EVENT,
COLUMN_SENSOR_FAULT, SENSOR_RESTORED, VACUUM_EVENT, TAPE_PRESENT_EVENT, MARKER_EDGE, WRITE_RING_CHANGE, ONLINE_EVENT,
LOAD_PRESSED, UNLOAD_PRESSED, BUTTON_RELEASED (chapters 1, 2, 4). -/
namespace Sys2Proof.Machine

/-- TACHOMETER_COUNT (R1). -/
def execTachometerCount (t : Tr) (tach : Tach) (phases : Phases) (cycles : Nat) (h1 h2 : HeadSample) (s : State) :
    Host.Outcome State Fault Refusal :=
  runTr t s fun s => s.tachometer t tach phases cycles h1 h2

/-- PITCH_MEASURED (R62). -/
def execPitchMeasured (t : Tr) (reel : Side) (s : State) : Host.Outcome State Fault Refusal :=
  runTr t s fun s => s.doPitch t reel

/-- ZONE_EVENT (R5). -/
def execZoneEvent (t : Tr) (column : Side) (ports : Pattern) (n : Nat) (s : State) :
    Host.Outcome State Fault Refusal :=
  runTr t s fun s => s.columnSamples t column ports n

/-- COLUMN_SENSOR_FAULT (R6). -/
def execColumnSensorFault (t : Tr) (column : Side) (ports : Pattern) (n : Nat) (s : State) :
    Host.Outcome State Fault Refusal :=
  runTr t s fun s => s.columnSamples t column ports n

/-- SENSOR_RESTORED (R6). -/
def execSensorRestored (t : Tr) (column : Side) (ports : Pattern) (n : Nat) (s : State) :
    Host.Outcome State Fault Refusal :=
  runTr t s fun s => s.columnSamples t column ports n

/-- VACUUM_EVENT (R7). -/
def execVacuumEvent (t : Tr) (column : Side) (present : Bool) (n : Nat) (s : State) :
    Host.Outcome State Fault Refusal :=
  runTr t s fun s => s.vacuumSamples t column present n

/-- TAPE_PRESENT_EVENT (R9). -/
def execTapePresentEvent (t : Tr) (present : Bool) (n : Nat) (s : State) : Host.Outcome State Fault Refusal :=
  runTr t s fun s => s.tapeSamples t present n

/-- MARKER_EDGE (R10). -/
def execMarkerEdge (t : Tr) (marker : Marker) (level : Bool) (n : Nat) (s : State) :
    Host.Outcome State Fault Refusal :=
  runTr t s fun s => s.markerSamples t marker level n

/-- WRITE_RING_CHANGE (R11). -/
def execWriteRingChange (t : Tr) (ring : Bool) (n : Nat) (s : State) : Host.Outcome State Fault Refusal :=
  runTr t s fun s => s.modSense t fun x => { x with writeRing := x.writeRing.samples 20 ring n }

/-- ONLINE_EVENT (R19). -/
def execOnlineEvent (t : Tr) (on : Bool) (n : Nat) (s : State) : Host.Outcome State Fault Refusal :=
  runTr t s fun s => s.onlineSamples t on n

/-- LOAD_PRESSED (R25). -/
def execLoadPressed (t : Tr) (n : Nat) (s : State) : Host.Outcome State Fault Refusal :=
  runTr t s fun s => s.pressSamples t .load n

/-- UNLOAD_PRESSED (R25). -/
def execUnloadPressed (t : Tr) (n : Nat) (s : State) : Host.Outcome State Fault Refusal :=
  runTr t s fun s => s.pressSamples t .unload n

/-- BUTTON_RELEASED (R13). -/
def execButtonReleased (t : Tr) (button : Button) (n : Nat) (s : State) : Host.Outcome State Fault Refusal :=
  runTr t s fun s => s.modSense t fun x => x.setButton button ((x.button button).samples 20 false n)

end Sys2Proof.Machine
end

