-- ==== Sys2Proof/Machine/DriveEvents.lean ====
section
/-! DEFINITION. Timers and the Drive Unit's events: LOAD_PHASE_TIMEOUT, UNLOAD_PHASE_TIMEOUT, STALL,
CAPSTAN_TARGET_SPEED_REACHED, STOP_POINT_REACHED, HOLD_OVER_EXPIRY, CAPSTAN_STANDSTILL, SHUTTLE_LIMIT_REACHED,
SHUTTLE_BRAKE_POINT, SHUTTLE_END, UNTHREAD_WIND_STOPPED; and the Read Channel's: RECORD_QUALIFIED,
RECORD_END_DETECTED, BLANK, FORMATION_START, POSTAMBLE_COMPLETE, WRITTEN_RECORD_REPORT (chapters 2, 3, 5). -/
namespace Sys2Proof.Machine

/-! ### Timers (R21, R27, R55; log 6) -/

/-- LOAD_PHASE_TIMEOUT (R21). -/
def execLoadPhaseTimeout (t : Tr) (s : State) : Host.Outcome State Fault Refusal :=
  runTr t s fun s =>
    if (s.tr t).ctl.state = .threading && !(s.tr t).ctl.stopUnderWay then
      (s.modCtl t fun c => { c with timer := 0 }).failLoad t (some .loadFailed)
    else s

/-- UNLOAD_PHASE_TIMEOUT (R27). While a CLEAR or an abandonment is bringing the motion to rest it has no effect
(log 67). -/
def execUnloadPhaseTimeout (t : Tr) (s : State) : Host.Outcome State Fault Refusal :=
  runTr t s fun s =>
    if (s.tr t).ctl.state = .unloading && !(s.tr t).ctl.unloadEnding && !(s.tr t).ctl.stopUnderWay then
      (s.modCtl t fun c => { c with timer := 0 }).emergency t .tapePath
    else s

/-- A stall report at Transport Control (R22, R27, R30). -/
def State.stallAtControl (s : State) (t : Tr) : State :=
  match (s.tr t).ctl.state with
  | .seekingLoadPoint => s.failLoad t (some .loadFailed)
  | .ready | .inMotion | .stopping | .unloading => s.emergency t .stall
  | _ => s

/-- A stall is due (R55): the watchdog runs, its timer has reached the stall window in force, and it has not been
reported since the timer last restarted. -/
def Drive.stallDue (d : Drive) : Bool :=
  d.watched.isSome && !d.stallReported && d.active.stallWindow * cyclesPerMs ≤ d.stallTimer

/-- STALL (R55): reported once for each run of the stall timer. -/
def execStall (t : Tr) (s : State) : Host.Outcome State Fault Refusal :=
  runTr t s fun s =>
    if (s.tr t).drive.stallDue then
      (s.modDrive t fun d => { d with stallReported := true }).stallAtControl t
    else s

/-! ### The capstan (R37, R38, R41) -/

/-- The target speed is reached: RUN (R37). -/
def Drive.reached (d : Drive) : Drive :=
  if d.phase = .accel then
    { d with phase := .run, command := dirSign d.dir * (d.targetSpeed : Int), commandRem := 0 }
  else d

/-- CAPSTAN_TARGET_SPEED_REACHED (R37). -/
def execCapstanTargetSpeedReached (t : Tr) (s : State) : Host.Outcome State Fault Refusal :=
  runTr t s fun s => s.modDrive t Drive.reached

/-- STOP_POINT_REACHED (R38). -/
def execStopPointReached (t : Tr) (s : State) : Host.Outcome State Fault Refusal :=
  runTr t s fun s => s.doStopPoint t

/-- HOLD_OVER_EXPIRY (R41). -/
def execHoldOverExpiry (t : Tr) (s : State) : Host.Outcome State Fault Refusal :=
  runTr t s fun s => s.doHoldOver t

/-- CAPSTAN_STANDSTILL (R37). -/
def execCapstanStandstill (t : Tr) (s : State) : Host.Outcome State Fault Refusal :=
  runTr t s fun s => if (s.tr t).drive.phase = .decel then s.arrive t else s

/-! ### The shuttle and the wind (R48, R50, R51) -/

/-- The shuttle limit is reached: RUN (R50). -/
def Transport.shuttleReached (x : Transport) : Transport :=
  if x.drive.shuttlePhase = .accel then
    { x with
      drive := { x.drive with
        shuttlePhase := .run, shuttleSpeed := shuttleLimit x.drive.active x.reck, shuttleRem := 0 } }
  else x

/-- SHUTTLE_LIMIT_REACHED (R50). -/
def execShuttleLimitReached (t : Tr) (s : State) : Host.Outcome State Fault Refusal :=
  runTr t s fun s => s.modTr t Transport.shuttleReached

/-- SHUTTLE_BRAKE_POINT (R50). -/
def execShuttleBrakePoint (t : Tr) (s : State) : Host.Outcome State Fault Refusal :=
  runTr t s fun s => s.doBrakePoint t

/-- SHUTTLE_END (R51). -/
def execShuttleEnd (t : Tr) (s : State) : Host.Outcome State Fault Refusal :=
  runTr t s fun s => if (s.tr t).drive.shuttlePhase = .brake then s.endShuttle t else s

/-- The supply reel has come to 0: its brake is set and the mode becomes HALTED (R48; log 44). -/
def State.windStopped (s : State) (t : Tr) : State :=
  ((s.modDrive t fun d =>
    { d with windSpeed := 0, windRem := 0, windStopping := false, supplyReleased := false }).driveMode t
      .halted).arrive t

/-- UNTHREAD_WIND_STOPPED (R48). -/
def execUnthreadWindStopped (t : Tr) (s : State) : Host.Outcome State Fault Refusal :=
  runTr t s fun s =>
    if (s.tr t).drive.mode = .unthread && (s.tr t).drive.windStopping then s.windStopped t else s

/-! ### The Read Channel (R76 to R78, R86, R88) -/

/-- RECORD_QUALIFIED (R76). -/
def execRecordQualified (t : Tr) (s : State) : Host.Outcome State Fault Refusal :=
  runTr t s fun s => s.doQualified t

/-- RECORD_END_DETECTED (R77). -/
def execRecordEndDetected (t : Tr) (s : State) : Host.Outcome State Fault Refusal :=
  runTr t s fun s => s.doRecordEnd t

/-- BLANK (R78). -/
def execBlank (t : Tr) (s : State) : Host.Outcome State Fault Refusal :=
  runTr t s fun s => s.doBlank t

/-- FORMATION_START (R86). -/
def execFormationStart (t : Tr) (s : State) : Host.Outcome State Fault Refusal :=
  runTr t s fun s => s.doFormation t

/-- POSTAMBLE_COMPLETE (R86). -/
def execPostambleComplete (t : Tr) (s : State) : Host.Outcome State Fault Refusal :=
  runTr t s fun s => s.doPostamble t

/-- WRITTEN_RECORD_REPORT (R88). -/
def execWrittenRecordReport (t : Tr) (s : State) : Host.Outcome State Fault Refusal :=
  runTr t s fun s => s.doWrittenReport t

end Sys2Proof.Machine
end

