-- ==== Sys2Proof/Machine/Dispatch.lean ====
section
/-! DEFINITION. One arm per command: each calls the command's own meaning. -/
namespace Sys2Proof.Machine

/-- The effect of a command on everything but the queue. -/
def exec (i : Instr) (s : State) : Host.Outcome State Fault Refusal :=
  match i with
  | .powerOn first => Sys2Proof.Machine.execPowerOn first s
  | .mainPowerLoss cut => Sys2Proof.Machine.execMainPowerLoss cut s
  | .backupFailure => Sys2Proof.Machine.execBackupFailure s
  | .pwarnAssertion n => Sys2Proof.Machine.execPwarnAssertion n s
  | .pwarnRelease n => Sys2Proof.Machine.execPwarnRelease n s
  | .controllerClear n => Sys2Proof.Machine.execControllerClear n s
  | .orderPointerWrite t value => Sys2Proof.Machine.execOrderPointerWrite t value s
  | .ignoredBusWrite offset value => Sys2Proof.Machine.execIgnoredBusWrite offset value s
  | .arbiterGrant => Sys2Proof.Machine.execArbiterGrant s
  | .busTimeout done words => Sys2Proof.Machine.execBusTimeout done words s
  | .orderFetchComplete words => Sys2Proof.Machine.execOrderFetchComplete words s
  | .terminationWriteComplete => Sys2Proof.Machine.execTerminationWriteComplete s
  | .load t => Sys2Proof.Machine.execLoad t s
  | .unload t => Sys2Proof.Machine.execUnload t s
  | .clearFault t => Sys2Proof.Machine.execClearFault t s
  | .setProfile t => Sys2Proof.Machine.execSetProfile t s
  | .profileRecordRead words => Sys2Proof.Machine.execProfileRecordRead words s
  | .setDetector t => Sys2Proof.Machine.execSetDetector t s
  | .detectorRecordRead words => Sys2Proof.Machine.execDetectorRecordRead words s
  | .read t => Sys2Proof.Machine.execRead t s
  | .write t => Sys2Proof.Machine.execWrite t s
  | .writeFileMark t => Sys2Proof.Machine.execWriteFileMark t s
  | .erase t => Sys2Proof.Machine.execErase t s
  | .spaceForward t => Sys2Proof.Machine.execSpaceForward t s
  | .spaceBackward t => Sys2Proof.Machine.execSpaceBackward t s
  | .enterMark t => Sys2Proof.Machine.execEnterMark t s
  | .amendMark t => Sys2Proof.Machine.execAmendMark t s
  | .retireMark t => Sys2Proof.Machine.execRetireMark t s
  | .lookUpMark t => Sys2Proof.Machine.execLookUpMark t s
  | .tagWordsRead words => Sys2Proof.Machine.execTagWordsRead words s
  | .mapEntryRecordWritten => Sys2Proof.Machine.execMapEntryRecordWritten s
  | .locateMark t => Sys2Proof.Machine.execLocateMark t s
  | .locateBlock t => Sys2Proof.Machine.execLocateBlock t s
  | .rewind t => Sys2Proof.Machine.execRewind t s
  | .dumpMap t => Sys2Proof.Machine.execDumpMap t s
  | .loadMap t => Sys2Proof.Machine.execLoadMap t s
  | .exchangeAreaGrant => Sys2Proof.Machine.execExchangeAreaGrant s
  | .dumpMapBurstComplete => Sys2Proof.Machine.execDumpMapBurstComplete s
  | .loadMapBurstComplete words => Sys2Proof.Machine.execLoadMapBurstComplete words s
  | .sense t => Sys2Proof.Machine.execSense t s
  | .senseRecordWritten => Sys2Proof.Machine.execSenseRecordWritten s
  | .setNoticeMask t => Sys2Proof.Machine.execSetNoticeMask t s
  | .readBurstComplete => Sys2Proof.Machine.execReadBurstComplete s
  | .writeBurstComplete words => Sys2Proof.Machine.execWriteBurstComplete words s
  | .tachometerCount t tach phases cycles head1 head2 => Sys2Proof.Machine.execTachometerCount t tach phases cycles head1 head2 s
  | .pitchMeasured t reel => Sys2Proof.Machine.execPitchMeasured t reel s
  | .zoneEvent t column ports n => Sys2Proof.Machine.execZoneEvent t column ports n s
  | .columnSensorFault t column ports n => Sys2Proof.Machine.execColumnSensorFault t column ports n s
  | .sensorRestored t column ports n => Sys2Proof.Machine.execSensorRestored t column ports n s
  | .vacuumEvent t column present n => Sys2Proof.Machine.execVacuumEvent t column present n s
  | .tapePresentEvent t present n => Sys2Proof.Machine.execTapePresentEvent t present n s
  | .markerEdge t marker level n => Sys2Proof.Machine.execMarkerEdge t marker level n s
  | .writeRingChange t ring n => Sys2Proof.Machine.execWriteRingChange t ring n s
  | .onlineEvent t on n => Sys2Proof.Machine.execOnlineEvent t on n s
  | .loadPressed t n => Sys2Proof.Machine.execLoadPressed t n s
  | .unloadPressed t n => Sys2Proof.Machine.execUnloadPressed t n s
  | .loadPhaseTimeout t => Sys2Proof.Machine.execLoadPhaseTimeout t s
  | .unloadPhaseTimeout t => Sys2Proof.Machine.execUnloadPhaseTimeout t s
  | .stall t => Sys2Proof.Machine.execStall t s
  | .capstanTargetSpeedReached t => Sys2Proof.Machine.execCapstanTargetSpeedReached t s
  | .stopPointReached t => Sys2Proof.Machine.execStopPointReached t s
  | .holdOverExpiry t => Sys2Proof.Machine.execHoldOverExpiry t s
  | .capstanStandstill t => Sys2Proof.Machine.execCapstanStandstill t s
  | .shuttleLimitReached t => Sys2Proof.Machine.execShuttleLimitReached t s
  | .shuttleBrakePoint t => Sys2Proof.Machine.execShuttleBrakePoint t s
  | .shuttleEnd t => Sys2Proof.Machine.execShuttleEnd t s
  | .unthreadWindStopped t => Sys2Proof.Machine.execUnthreadWindStopped t s
  | .recordQualified t => Sys2Proof.Machine.execRecordQualified t s
  | .recordEndDetected t => Sys2Proof.Machine.execRecordEndDetected t s
  | .blank t => Sys2Proof.Machine.execBlank t s
  | .scanBudgetExceeded t => Sys2Proof.Machine.execScanBudgetExceeded t s
  | .formationStart t => Sys2Proof.Machine.execFormationStart t s
  | .postambleComplete t => Sys2Proof.Machine.execPostambleComplete t s
  | .writtenRecordReport t => Sys2Proof.Machine.execWrittenRecordReport t s
  | .writeStartTimeout t => Sys2Proof.Machine.execWriteStartTimeout t s
  | .eraseLengthReached t => Sys2Proof.Machine.execEraseLengthReached t s
  | .readDrainComplete t => Sys2Proof.Machine.execReadDrainComplete t s
  | .clearRelease n => Sys2Proof.Machine.execClearRelease n s
  | .buttonReleased t button n => Sys2Proof.Machine.execButtonReleased t button n s

end Sys2Proof.Machine
end

