-- ==== Sys2Proof/Machine/Ticks.lean ====
section
/-! DEFINITION. The master clock where no command waits: what one cycle of 50 ns does by itself (log 6). -/
namespace Sys2Proof.Machine

/-- One clock cycle passed on every transport. -/
def State.elapseAll (s : State) : State :=
  (((s.modTr .t0 (·.elapse 1)).modTr .t1 (·.elapse 1)).modTr .t2 (·.elapse 1)).modTr .t3 (·.elapse 1)

/-- The master clock runs for one cycle: the ramps, the shuttle speeds and the timers go on (R21, R27, R37, R50,
R55); while main power is out nothing runs (R180). -/
def State.tick (s : State) : State :=
  if s.powered then s.elapseAll.refreshAll.finish else s

end Sys2Proof.Machine
end

