-- ==== Sys2Proof/WellFormed.lean ====
section
/-! DEFINITION. Which terms of `Instr` are commands that the part can be given. -/
namespace Sys2Proof

/-- A head sample brings at most 6 bytes, since data stand at 6 bytes a step (00_scope.md, R80; log 53). -/
def HeadSample.wellFormed (h : HeadSample) : Bool :=
  h.bytes.length ≤ 6

/-- The sizes the rules give: an order block of 12 words (R138), a profile record of 14 and a detector record
of 4 (8.8), 1 to 4 tag words (R98), data bursts of 1 to 8 words (R155, R156, R172), transfers of at most 16
words (8.6), bus offsets of 4 and above for an ignored write (R136), at least one sample (log 53). -/
def Instr.wellFormed : Instr → Bool
  | .ignoredBusWrite offset _ => 4 ≤ offset && offset < 4096
  | .busTimeout done words => done < 16 && (words.length = 0 || words.length = done)
  | .orderFetchComplete words => words.length = 12
  | .profileRecordRead words => words.length = 14
  | .detectorRecordRead words => words.length = 4
  | .tagWordsRead words => 1 ≤ words.length && words.length ≤ 4
  | .loadMapBurstComplete words => 1 ≤ words.length && words.length ≤ 8
  | .writeBurstComplete words => 1 ≤ words.length && words.length ≤ 8
  | .tachometerCount _ _ _ _ head1 head2 => head1.wellFormed && head2.wellFormed
  | .pwarnAssertion n => 1 ≤ n
  | .pwarnRelease n => 1 ≤ n
  | .controllerClear n => 1 ≤ n
  | .clearRelease n => 1 ≤ n
  | .zoneEvent _ _ _ n => 1 ≤ n
  | .columnSensorFault _ _ _ n => 1 ≤ n
  | .sensorRestored _ _ _ n => 1 ≤ n
  | .vacuumEvent _ _ _ n => 1 ≤ n
  | .tapePresentEvent _ _ n => 1 ≤ n
  | .markerEdge _ _ _ n => 1 ≤ n
  | .writeRingChange _ _ n => 1 ≤ n
  | .onlineEvent _ _ n => 1 ≤ n
  | .loadPressed _ n => 1 ≤ n
  | .unloadPressed _ n => 1 ≤ n
  | .buttonReleased _ _ n => 1 ≤ n
  | .powerOn _ | .mainPowerLoss _ | .backupFailure | .orderPointerWrite _ _ | .arbiterGrant
  | .terminationWriteComplete | .load _ | .unload _ | .clearFault _ | .setProfile _ | .setDetector _
  | .read _ | .write _ | .writeFileMark _ | .erase _ | .spaceForward _ | .spaceBackward _
  | .enterMark _ | .amendMark _ | .retireMark _ | .lookUpMark _ | .mapEntryRecordWritten
  | .locateMark _ | .locateBlock _ | .rewind _ | .dumpMap _ | .loadMap _ | .exchangeAreaGrant
  | .dumpMapBurstComplete | .sense _ | .senseRecordWritten | .setNoticeMask _ | .readBurstComplete
  | .pitchMeasured _ _ | .loadPhaseTimeout _ | .unloadPhaseTimeout _ | .stall _
  | .capstanTargetSpeedReached _ | .stopPointReached _ | .holdOverExpiry _ | .capstanStandstill _
  | .shuttleLimitReached _ | .shuttleBrakePoint _ | .shuttleEnd _ | .unthreadWindStopped _
  | .recordQualified _ | .recordEndDetected _ | .blank _ | .scanBudgetExceeded _ | .formationStart _
  | .postambleComplete _ | .writtenRecordReport _ | .writeStartTimeout _ | .eraseLengthReached _
  | .readDrainComplete _ => true

end Sys2Proof
end

