-- ==== Sys2Proof/Laws/PerInstr.lean ====
section
/-! SUPPORT. A fact about every command as a term, constructor by constructor. -/
namespace Sys2Proof.Laws

/-- The words that a command brings from the host bus. -/
def carriedWords : Instr → List Word
  | .busTimeout _ words | .orderFetchComplete words | .profileRecordRead words | .detectorRecordRead words
  | .tagWordsRead words | .loadMapBurstComplete words | .writeBurstComplete words => words
  | _ => []

/-- The head samples that a command brings. -/
def carriedSamples : Instr → List HeadSample
  | .tachometerCount _ _ _ _ head1 head2 => [head1, head2]
  | _ => []

/-- A well-formed command brings no more words than one bus transfer has, at most 16 (8.6), and no head sample with
more than the 6 bytes that a step of tape holds (R80). -/
def Wf.Statement (i : Instr) : Prop :=
  i.wellFormed = true → (carriedWords i).length ≤ 16 ∧ ∀ h ∈ carriedSamples i, h.bytes.length ≤ 6

/-- A command that brings neither words nor head samples. -/
theorem wf_plain {i : Instr} (hw : carriedWords i = []) (hs : carriedSamples i = []) : Wf.Statement i := by
  simp [Wf.Statement, hw, hs]

theorem Wf.powerOn (first : PowerOnSamples) : Wf.Statement (.powerOn first) := wf_plain rfl rfl

theorem Wf.mainPowerLoss (cut : Option Word) : Wf.Statement (.mainPowerLoss cut) := wf_plain rfl rfl

theorem Wf.backupFailure : Wf.Statement .backupFailure := wf_plain rfl rfl

theorem Wf.pwarnAssertion (n : Nat) : Wf.Statement (.pwarnAssertion n) := wf_plain rfl rfl

theorem Wf.pwarnRelease (n : Nat) : Wf.Statement (.pwarnRelease n) := wf_plain rfl rfl

theorem Wf.controllerClear (n : Nat) : Wf.Statement (.controllerClear n) := wf_plain rfl rfl

theorem Wf.orderPointerWrite (t : Tr) (value : Word) : Wf.Statement (.orderPointerWrite t value) := wf_plain rfl rfl

theorem Wf.ignoredBusWrite (offset : Nat) (value : Word) :
    Wf.Statement (.ignoredBusWrite offset value) := wf_plain rfl rfl

theorem Wf.arbiterGrant : Wf.Statement .arbiterGrant := wf_plain rfl rfl

theorem Wf.busTimeout (done : Nat) (words : List Word) : Wf.Statement (.busTimeout done words) := by
  intro h
  simp [Instr.wellFormed] at h
  simp [carriedWords, carriedSamples]
  obtain ⟨hd, rfl | hl⟩ := h
  · simp
  · omega

theorem Wf.orderFetchComplete (words : List Word) : Wf.Statement (.orderFetchComplete words) := by
  intro h
  simp [Instr.wellFormed] at h
  simp [carriedWords, carriedSamples]
  omega

theorem Wf.terminationWriteComplete : Wf.Statement .terminationWriteComplete := wf_plain rfl rfl

theorem Wf.load (t : Tr) : Wf.Statement (.load t) := wf_plain rfl rfl

theorem Wf.unload (t : Tr) : Wf.Statement (.unload t) := wf_plain rfl rfl

theorem Wf.clearFault (t : Tr) : Wf.Statement (.clearFault t) := wf_plain rfl rfl

theorem Wf.setProfile (t : Tr) : Wf.Statement (.setProfile t) := wf_plain rfl rfl

theorem Wf.profileRecordRead (words : List Word) : Wf.Statement (.profileRecordRead words) := by
  intro h
  simp [Instr.wellFormed] at h
  simp [carriedWords, carriedSamples]
  omega

theorem Wf.setDetector (t : Tr) : Wf.Statement (.setDetector t) := wf_plain rfl rfl

theorem Wf.detectorRecordRead (words : List Word) : Wf.Statement (.detectorRecordRead words) := by
  intro h
  simp [Instr.wellFormed] at h
  simp [carriedWords, carriedSamples]
  omega

theorem Wf.read (t : Tr) : Wf.Statement (.read t) := wf_plain rfl rfl

theorem Wf.write (t : Tr) : Wf.Statement (.write t) := wf_plain rfl rfl

theorem Wf.writeFileMark (t : Tr) : Wf.Statement (.writeFileMark t) := wf_plain rfl rfl

theorem Wf.erase (t : Tr) : Wf.Statement (.erase t) := wf_plain rfl rfl

theorem Wf.spaceForward (t : Tr) : Wf.Statement (.spaceForward t) := wf_plain rfl rfl

theorem Wf.spaceBackward (t : Tr) : Wf.Statement (.spaceBackward t) := wf_plain rfl rfl

theorem Wf.enterMark (t : Tr) : Wf.Statement (.enterMark t) := wf_plain rfl rfl

theorem Wf.amendMark (t : Tr) : Wf.Statement (.amendMark t) := wf_plain rfl rfl

theorem Wf.retireMark (t : Tr) : Wf.Statement (.retireMark t) := wf_plain rfl rfl

theorem Wf.lookUpMark (t : Tr) : Wf.Statement (.lookUpMark t) := wf_plain rfl rfl

theorem Wf.tagWordsRead (words : List Word) : Wf.Statement (.tagWordsRead words) := by
  intro h
  simp [Instr.wellFormed] at h
  simp [carriedWords, carriedSamples]
  omega

theorem Wf.mapEntryRecordWritten : Wf.Statement .mapEntryRecordWritten := wf_plain rfl rfl

theorem Wf.locateMark (t : Tr) : Wf.Statement (.locateMark t) := wf_plain rfl rfl

theorem Wf.locateBlock (t : Tr) : Wf.Statement (.locateBlock t) := wf_plain rfl rfl

theorem Wf.rewind (t : Tr) : Wf.Statement (.rewind t) := wf_plain rfl rfl

theorem Wf.dumpMap (t : Tr) : Wf.Statement (.dumpMap t) := wf_plain rfl rfl

theorem Wf.loadMap (t : Tr) : Wf.Statement (.loadMap t) := wf_plain rfl rfl

theorem Wf.exchangeAreaGrant : Wf.Statement .exchangeAreaGrant := wf_plain rfl rfl

theorem Wf.dumpMapBurstComplete : Wf.Statement .dumpMapBurstComplete := wf_plain rfl rfl

theorem Wf.loadMapBurstComplete (words : List Word) : Wf.Statement (.loadMapBurstComplete words) := by
  intro h
  simp [Instr.wellFormed] at h
  simp [carriedWords, carriedSamples]
  omega

theorem Wf.sense (t : Tr) : Wf.Statement (.sense t) := wf_plain rfl rfl

theorem Wf.senseRecordWritten : Wf.Statement .senseRecordWritten := wf_plain rfl rfl

theorem Wf.setNoticeMask (t : Tr) : Wf.Statement (.setNoticeMask t) := wf_plain rfl rfl

theorem Wf.readBurstComplete : Wf.Statement .readBurstComplete := wf_plain rfl rfl

theorem Wf.writeBurstComplete (words : List Word) : Wf.Statement (.writeBurstComplete words) := by
  intro h
  simp [Instr.wellFormed] at h
  simp [carriedWords, carriedSamples]
  omega

theorem Wf.tachometerCount (t : Tr) (tach : Tach) (phases : Phases) (cycles : Nat) (head1 head2 : HeadSample) :
    Wf.Statement (.tachometerCount t tach phases cycles head1 head2) := by
  intro h
  simp_all [Instr.wellFormed, HeadSample.wellFormed, carriedWords, carriedSamples]

theorem Wf.pitchMeasured (t : Tr) (reel : Side) : Wf.Statement (.pitchMeasured t reel) := wf_plain rfl rfl

theorem Wf.zoneEvent (t : Tr) (column : Side) (ports : Pattern) (n : Nat) :
    Wf.Statement (.zoneEvent t column ports n) := wf_plain rfl rfl

theorem Wf.columnSensorFault (t : Tr) (column : Side) (ports : Pattern) (n : Nat) :
    Wf.Statement (.columnSensorFault t column ports n) := wf_plain rfl rfl

theorem Wf.sensorRestored (t : Tr) (column : Side) (ports : Pattern) (n : Nat) :
    Wf.Statement (.sensorRestored t column ports n) := wf_plain rfl rfl

theorem Wf.vacuumEvent (t : Tr) (column : Side) (present : Bool) (n : Nat) :
    Wf.Statement (.vacuumEvent t column present n) := wf_plain rfl rfl

theorem Wf.tapePresentEvent (t : Tr) (present : Bool) (n : Nat) :
    Wf.Statement (.tapePresentEvent t present n) := wf_plain rfl rfl

theorem Wf.markerEdge (t : Tr) (marker : Marker) (level : Bool) (n : Nat) :
    Wf.Statement (.markerEdge t marker level n) := wf_plain rfl rfl

theorem Wf.writeRingChange (t : Tr) (ring : Bool) (n : Nat) :
    Wf.Statement (.writeRingChange t ring n) := wf_plain rfl rfl

theorem Wf.onlineEvent (t : Tr) (on : Bool) (n : Nat) : Wf.Statement (.onlineEvent t on n) := wf_plain rfl rfl

theorem Wf.loadPressed (t : Tr) (n : Nat) : Wf.Statement (.loadPressed t n) := wf_plain rfl rfl

theorem Wf.unloadPressed (t : Tr) (n : Nat) : Wf.Statement (.unloadPressed t n) := wf_plain rfl rfl

theorem Wf.loadPhaseTimeout (t : Tr) : Wf.Statement (.loadPhaseTimeout t) := wf_plain rfl rfl

theorem Wf.unloadPhaseTimeout (t : Tr) : Wf.Statement (.unloadPhaseTimeout t) := wf_plain rfl rfl

theorem Wf.stall (t : Tr) : Wf.Statement (.stall t) := wf_plain rfl rfl

theorem Wf.capstanTargetSpeedReached (t : Tr) : Wf.Statement (.capstanTargetSpeedReached t) := wf_plain rfl rfl

theorem Wf.stopPointReached (t : Tr) : Wf.Statement (.stopPointReached t) := wf_plain rfl rfl

theorem Wf.holdOverExpiry (t : Tr) : Wf.Statement (.holdOverExpiry t) := wf_plain rfl rfl

theorem Wf.capstanStandstill (t : Tr) : Wf.Statement (.capstanStandstill t) := wf_plain rfl rfl

theorem Wf.shuttleLimitReached (t : Tr) : Wf.Statement (.shuttleLimitReached t) := wf_plain rfl rfl

theorem Wf.shuttleBrakePoint (t : Tr) : Wf.Statement (.shuttleBrakePoint t) := wf_plain rfl rfl

theorem Wf.shuttleEnd (t : Tr) : Wf.Statement (.shuttleEnd t) := wf_plain rfl rfl

theorem Wf.unthreadWindStopped (t : Tr) : Wf.Statement (.unthreadWindStopped t) := wf_plain rfl rfl

theorem Wf.recordQualified (t : Tr) : Wf.Statement (.recordQualified t) := wf_plain rfl rfl

theorem Wf.recordEndDetected (t : Tr) : Wf.Statement (.recordEndDetected t) := wf_plain rfl rfl

theorem Wf.blank (t : Tr) : Wf.Statement (.blank t) := wf_plain rfl rfl

theorem Wf.scanBudgetExceeded (t : Tr) : Wf.Statement (.scanBudgetExceeded t) := wf_plain rfl rfl

theorem Wf.formationStart (t : Tr) : Wf.Statement (.formationStart t) := wf_plain rfl rfl

theorem Wf.postambleComplete (t : Tr) : Wf.Statement (.postambleComplete t) := wf_plain rfl rfl

theorem Wf.writtenRecordReport (t : Tr) : Wf.Statement (.writtenRecordReport t) := wf_plain rfl rfl

theorem Wf.writeStartTimeout (t : Tr) : Wf.Statement (.writeStartTimeout t) := wf_plain rfl rfl

theorem Wf.eraseLengthReached (t : Tr) : Wf.Statement (.eraseLengthReached t) := wf_plain rfl rfl

theorem Wf.readDrainComplete (t : Tr) : Wf.Statement (.readDrainComplete t) := wf_plain rfl rfl

theorem Wf.clearRelease (n : Nat) : Wf.Statement (.clearRelease n) := wf_plain rfl rfl

theorem Wf.buttonReleased (t : Tr) (button : Button) (n : Nat) :
    Wf.Statement (.buttonReleased t button n) := wf_plain rfl rfl

end Sys2Proof.Laws
end

