-- ==== Sys2Proof/Safety.lean ====
section
/-! DEFINITION. What a safe state is, and the conditions and frames in whose terms the statements speak. -/
namespace Sys2Proof.Machine

/-! ### Invariants -/

/-- INTR and the summary word say what the pointers, the attention sets, PWARN and the verdict say, and the check
word is the sum of the retained store, while main power is up (R145, R180). -/
def State.OutputsAgree (s : State) : Prop :=
  s.powered = true →
    s.intr = intrOf s.trs ∧ s.summary = summaryOf s.trs s.power ∧ s.power.checkWord = retainedSum s.store

/-- Host memory is in canonical form (log 5). -/
def State.MemoryCanonical (s : State) : Prop := memWf s.hostMemory = true

/-- The write enable line is asserted only with a write ring (R11). -/
def State.WriteInterlocked (s : State) : Prop :=
  ∀ t, (s.tr t).sense.writeEnable = true → (s.tr t).sense.writeRing.level = true

/-- PATH GOOD is what the vacuum levels and the zones make it (R8). -/
def State.PathAgrees (s : State) : Prop := ∀ t, (s.tr t).sense.pathGood = pathGoodOf (s.tr t).sense

/-- No reel command exceeds the reel speed limit, and a reel whose brake is set is commanded to 0 (R44, R45). -/
def State.ReelsLimited (s : State) : Prop :=
  ∀ t, (s.tr t).drive.supplyCommand.natAbs ≤ (s.tr t).drive.active.sMax ∧
    (s.tr t).drive.takeupCommand.natAbs ≤ (s.tr t).drive.active.sMax ∧
    ((s.tr t).drive.supplyReleased = false → (s.tr t).drive.supplyCommand = 0) ∧
    ((s.tr t).drive.takeupReleased = false → (s.tr t).drive.takeupCommand = 0)

/-- A mark number goes with its entry's kind: above 49,999 for FILE alone (R98, R113). -/
def markFits (e : Entry) : Bool := decide (e.kind = .file) == decide (49999 < e.mark)

/-- A map in order: blocks and positions rise strictly together, mark numbers differ and go with the kinds, and
there are at most 1024 entries (R93, R95). -/
def reelOrdered (r : ReelRecord) : Bool :=
  entriesRise r.entries && marksDiffer r.entries && r.entries.all markFits && r.entries.length ≤ 1024

/-- Every map in order, and the pool counted: the free slots and the entries together are 2048 (R93, R95). -/
def State.MapsOrdered (s : State) : Prop :=
  (∀ t, reelOrdered (s.reel t) = true) ∧ s.store.poolFree + entryTotal s.store = 2048

/-! ### Conditions on a state -/

/-- Nothing comes about by itself at a transport: no request waits that could begin, no stop asked for at rest. -/
abbrev State.Settled (s : State) (t : Tr) : Prop := (s.settleOnce t).isNone = true

/-- Standstill in drive mode CAPSTAN with nothing pending. -/
abbrev Transport.Standing (x : Transport) : Prop :=
  x.drive.phase = .stopped ∧ x.drive.shuttlePhase = .none ∧ x.drive.mode = .capstan ∧ x.drive.stopKind = .none ∧
    x.drive.pending = none ∧ x.drive.creep = none ∧ x.ctl.unloadEnding = false

/-- Standstill with no stop asked for and no request pending. -/
abbrev Drive.Calm (d : Drive) : Prop :=
  d.phase = .stopped ∧ d.shuttlePhase = .none ∧ d.stopKind = .none ∧ d.pending = none

/-- READY at standstill, with PATH GOOD. -/
abbrev Transport.ReadyStanding (x : Transport) : Prop :=
  x.Standing ∧ x.ctl.state = .ready ∧ x.ctl.permission = .full ∧ x.ctl.stopUnderWay = false ∧
    x.sense.pathGood = true ∧ x.drive.engaged = true

/-- Tape at rest in no drive's grip: the capstan disengaged, both brakes set, drive mode HALTED (R45). -/
abbrev Transport.Gripless (x : Transport) : Prop :=
  x.drive.phase = .stopped ∧ x.drive.shuttlePhase = .none ∧ x.drive.mode = .halted ∧ x.drive.stopKind = .none ∧
    x.drive.pending = none ∧ x.drive.engaged = false ∧ x.drive.supplyReleased = false ∧
    x.drive.takeupReleased = false ∧ x.reck.mode = .halted ∧ x.ctl.stopUnderWay = false ∧ x.ctl.unloadEnding = false

/-- UNLOADED (R17, R45). -/
abbrev Transport.Unloaded (x : Transport) : Prop := x.Gripless ∧ x.ctl.state = .unloaded

/-- IN MOTION with the capstan at its target speed and no stop under way. -/
abbrev Transport.Running (x : Transport) : Prop :=
  x.ctl.state = .inMotion ∧ x.ctl.stopUnderWay = false ∧ x.drive.phase = .run ∧ x.drive.shuttlePhase = .none ∧
    x.drive.mode = .capstan ∧ x.drive.stopKind = .none ∧ x.drive.creep = none

/-- IN MOTION under the capstan or in a shuttle that drives, with no stop under way. -/
abbrev Transport.UnderWay (x : Transport) : Prop :=
  x.ctl.state = .inMotion ∧ x.ctl.stopUnderWay = false ∧ x.drive.stopKind = .none ∧
    (x.drive.mode = .capstan ∧ x.drive.shuttlePhase = .none ∧ (x.drive.phase = .accel ∨ x.drive.phase = .run) ∨
      x.drive.mode = .shuttle ∧ x.drive.phase = .stopped ∧ (x.drive.shuttlePhase = .accel ∨ x.drive.shuttlePhase = .run))

/-- A stop of a kind has begun on a transport under way: DECEL of the capstan or BRAKE of the shuttle from the speed
reached, hold-over, pending request and both targets gone (R52 to R54; log 69). -/
abbrev Drive.StopBegun (d d' : Drive) (k : StopKind) : Prop :=
  d'.stopKind = k ∧ d'.pending = none ∧ d'.holdOver = none ∧ d'.stopTarget = none ∧ d'.shuttleTarget = none ∧
    d'.command = d.command ∧ d'.engaged = d.engaged ∧ d'.mode = d.mode ∧
    d'.phase = (if d.mode = .capstan then .decel else .stopped) ∧
    d'.shuttlePhase = (if d.mode = .capstan then .none else .brake)

/-- The Read Channel listens and nothing is on its way through it. -/
abbrev Channel.Quiet (c : Channel) : Prop :=
  c.activity = .listen ∧ c.writeGate = false ∧ c.phase = .hunt ∧ c.record = none ∧ c.pendingSettings = none ∧
    c.formation = none ∧ c.blankWatch = none ∧ c.handOver = .off

/-- The Transfer Unit and the Locate Unit stand as they do without an order, and the channel is quiet (R116, R154). -/
abbrev Transport.Unused (x : Transport) : Prop :=
  x.xfer = Transfer.idle ∧ x.loc = Locate.idle ∧ x.chan.Quiet

/-- An order is in flight and its owner works on it: no stop has been noticed and no change to offline waits. -/
abbrev Transport.Working (x : Transport) : Prop :=
  x.port.pointer = .inFlight ∧ x.port.held = none ∧ x.port.stopNotice = false ∧ x.ctl.offlinePending = false ∧
    x.ctl.stopUnderWay = false

/-- The order `c` of a code has been dispatched and awaits its owner (R139). -/
abbrev State.Waits (s : State) (t : Tr) (code : Nat) (c : OrderCopy) : Prop :=
  s.powered = true ∧ (s.tr t).Working ∧ (s.tr t).port.stage = .dispatched ∧ (s.tr t).port.copy = some c ∧
    c.code = code

/-- The order that awaits its owner is admitted (R18). -/
abbrev State.Awaits (s : State) (t : Tr) (code : Nat) (c : OrderCopy) : Prop :=
  s.Waits t code c ∧ s.admission t code = none

/-- Nothing comes about by itself at any transport. -/
abbrev State.AllSettled (s : State) : Prop := s.Settled .t0 ∧ s.Settled .t1 ∧ s.Settled .t2 ∧ s.Settled .t3

/-- A transfer of a kind under way for a transport, whose outcome its requester waits for; no motion is about to begin
by itself. -/
abbrev State.Transfers (s : State) (t : Tr) (x : BusTransfer) (k : TransferKind) : Prop :=
  s.powered = true ∧ s.arb.current = some (t, x) ∧ x.orphan = false ∧ x.kind = k ∧ s.AllSettled

/-- A read transfer under way that these words end. -/
abbrev State.Reads (s : State) (t : Tr) (x : BusTransfer) (k : TransferKind) (ws : List Word) : Prop :=
  s.Transfers t x k ∧ x.words = [] ∧ ws.length = x.length

/-- A write transfer under way, with its words. -/
abbrev State.Writes (s : State) (t : Tr) (x : BusTransfer) (k : TransferKind) : Prop :=
  s.Transfers t x k ∧ x.words.length = x.length ∧ x.words ≠ []

/-- The tachometer of a reel. -/
def reelTach : Side → Tach
  | .supply => .supply
  | .takeup => .takeup

/-- The Sensing Interface with PATH GOOD worked out again (R8). -/
def Sensing.withPath (x : Sensing) : Sensing := { x with pathGood := pathGoodOf x }

/-- The number of a transport. -/
def trNumber : Tr → Nat
  | .t0 => 0
  | .t1 => 1
  | .t2 => 2
  | .t3 => 3

/-- The transport that a command belongs to; absent for the commands of the whole controller, of the bus and of the
exchange area. -/
def commandOf : Instr → Option Tr
  | .orderPointerWrite t _ | .load t | .unload t | .clearFault t | .setProfile t | .setDetector t | .read t | .write t
  | .writeFileMark t | .erase t | .spaceForward t | .spaceBackward t | .enterMark t | .amendMark t | .retireMark t
  | .lookUpMark t | .locateMark t | .locateBlock t | .rewind t | .dumpMap t | .loadMap t | .sense t | .setNoticeMask t
  | .tachometerCount t _ _ _ _ _ | .pitchMeasured t _ | .zoneEvent t _ _ _ | .columnSensorFault t _ _ _
  | .sensorRestored t _ _ _ | .vacuumEvent t _ _ _ | .tapePresentEvent t _ _ | .markerEdge t _ _ _
  | .writeRingChange t _ _ | .onlineEvent t _ _ | .loadPressed t _ | .unloadPressed t _ | .loadPhaseTimeout t
  | .unloadPhaseTimeout t | .stall t | .capstanTargetSpeedReached t | .stopPointReached t | .holdOverExpiry t
  | .capstanStandstill t | .shuttleLimitReached t | .shuttleBrakePoint t | .shuttleEnd t | .unthreadWindStopped t
  | .recordQualified t | .recordEndDetected t | .blank t | .scanBudgetExceeded t | .formationStart t
  | .postambleComplete t | .writtenRecordReport t | .writeStartTimeout t | .eraseLengthReached t
  | .readDrainComplete t | .buttonReleased t _ _ => some t
  | .powerOn _ | .mainPowerLoss _ | .backupFailure | .pwarnAssertion _ | .pwarnRelease _ | .controllerClear _
  | .clearRelease _ | .ignoredBusWrite _ _ | .arbiterGrant | .busTimeout _ _ | .orderFetchComplete _
  | .terminationWriteComplete | .profileRecordRead _ | .detectorRecordRead _ | .tagWordsRead _
  | .mapEntryRecordWritten | .exchangeAreaGrant | .dumpMapBurstComplete | .loadMapBurstComplete _
  | .senseRecordWritten | .readBurstComplete | .writeBurstComplete _ => none

/-! ### What a command leaves unchanged, and how an order ends -/

/-- Beyond transport `t` nothing has changed: no record of another transport, no other reel record, nothing of
host memory, the Power Monitor (its check word apart), main power or the queue. -/
def State.OnlyAt (s s' : State) (t : Tr) : Prop :=
  (∀ u, u ≠ t → s'.tr u = s.tr u ∧ s'.reel u = s.reel u) ∧ s'.hostMemory = s.hostMemory ∧
    { s'.power with checkWord := s.power.checkWord } = s.power ∧ s'.powered = s.powered ∧ s'.pending = s.pending

/-- After an event of the whole controller: beyond transport `t` the outputs have been worked out again, and nothing
else has changed but the Arbiter and host memory. -/
def State.OnlyAtEach (s s' : State) (t : Tr) : Prop :=
  (∀ u, u ≠ t → s'.tr u = (s.tr u).refresh ∧ s'.reel u = s.reel u) ∧
    { s'.power with checkWord := s.power.checkWord } = s.power ∧ s'.powered = s.powered ∧ s'.pending = s.pending

/-- Nothing of the Map Store, the exchange area and the Arbiter has changed. -/
def State.SameShared (s s' : State) : Prop :=
  s'.store = s.store ∧ s'.exchange = s.exchange ∧ s'.arb = s.arb

/-- Only the record of transport `t` has changed, and it is now `x` with its outputs worked out again; INTR, the
summary word and the check word follow. -/
def State.Becomes (s s' : State) (t : Tr) (x : Transport) : Prop :=
  s.OnlyAt s' t ∧ s.SameShared s' ∧ s'.tr t = x.refresh

/-- The record of a READY transport whose capstan has begun a motion from standstill for a block's request: ACCEL from
speed 0, IN MOTION, and Position Reckoning told the direction (R28, R37, R40, R61). -/
def Transport.started (x : Transport) (who : Requester) (dir : Dir) (speed : Nat) (target : Option Int) : Transport :=
  { x with
    ctl := { x.ctl with state := .inMotion, pump := true, permission := .full },
    drive := { x.drive with
      phase := .accel, command := 0, commandRem := 0, dir := dir, targetSpeed := speed, stopTarget := target,
      holdOver := none, pending := none, endedBy := .none, creep := none, requester := who },
    reck := x.reck.motionBegun dir }

/-- The record of a transport that has taken the order dispatched to it. -/
def Transport.withTaken (x : Transport) : Transport := { x with port := { x.port with stage := .taken } }

/-- The record of an UNLOADED transport whose load has begun: THREADING with a phase timer of 5 s, both brakes
released (R20, R46). -/
def Transport.threading (x : Transport) (o : Operation) (tag : Option Tag) (autoFile : Bool) : Transport :=
  { x with
    ctl := { x.ctl with
      state := .threading, pump := true, permission := .thread, operation := o, loadTag := tag,
      autoFile := autoFile, timer := 100000000, vacuumReached := false, seek := .idle, failCondition := none },
    drive := { x.drive with mode := .thread, supplyReleased := true, takeupReleased := true },
    reck := { x.reck with mode := .thread, moving := false } }

/-- An emergency stop with a fault kind has begun on a transport whose capstan ran: the capstan in DECEL, no motion
allowed, and the Order Port told (R30, R35, R53, R143). -/
def State.EmergencyBegun (s s' : State) (t : Tr) (k : FaultKind) : Prop :=
  let x := s.tr t
  let x' := s'.tr t
  x'.ctl.fault = k ∧ x'.ctl.stopUnderWay = true ∧ x'.ctl.permission = .none ∧ x'.ctl.operation = .none ∧
    x'.drive.stopKind = .emergency ∧ x'.drive.phase = .decel ∧ x'.drive.pending = none ∧
    x'.port.attention = (if x.port.pointer = .inFlight then x.port.attention else x.port.attention ||| 4#5) ∧
    x'.port.stopNotice = (x.port.stopNotice || x.port.pointer = .inFlight) ∧ x'.port.pointer = x.port.pointer

/-- The Order Port's record once an emergency stop has begun (R35, R143): FAULT when no order is in flight, the order in
flight noted for FAULT STOP, a termination being written noted for FAULT at its end. -/
def Port.stopTold (p : Port) : Port :=
  { p with
    attention := if p.pointer = .inFlight then p.attention else p.attention ||| 4#5,
    stopNotice := p.stopNotice || p.pointer = .inFlight, faultAfter := p.faultAfter || p.pointer = .terminating }

/-- The Order Port's record with an indicator joined to the order in flight when a condition holds (8.4). -/
def Port.raisedIf (p : Port) (b : Bool) (i : Indicator) : Port := if b then p.raiseInd i else p

/-- The words 7 to 11 of an order that has just ended (R141). -/
def endWords (x : Transport) (c : Condition) (count : Nat) (value : BitVec 32) (indicators : BitVec 16) : List Word :=
  [BitVec.ofNat 16 count, highWord value, lowWord value, indicators, terminationWord x c]

/-- The order of a transport has ended: the pointer is TERMINATING, its result words are these, and the write of
words 7 to 11 is requested (R141, R142). -/
def State.Terminates (s s' : State) (t : Tr) (c : Condition) (count : Nat) (value : BitVec 32)
    (indicators : BitVec 16) : Prop :=
  let ws := endWords (s'.tr t) c count value indicators
  (s'.tr t).port.pointer = .terminating ∧ (s'.tr t).port.result = ws ∧
    s'.arb.control.get t = some
      { kind := .termination, address := (s.tr t).port.index.toNat * 8 + 14, length := 5, words := ws, sizes := [],
        orphan := false }

/-- Only the control request of a transport has changed in the Arbiter. -/
def State.OnlyControl (s s' : State) (t : Tr) : Prop :=
  s'.arb = { s.arb with control := s.arb.control.set t (s'.arb.control.get t) }

end Sys2Proof.Machine
end

