-- ==== Sys2Proof/Certificates/Slice0/Obligations.lean ====
section
/-! DEFINITION. The statements for the provers. -/
section
open Sys2Proof Sys2Proof.Machine

/-- One step takes the front of the queue and runs it with the queue's rest (log 1). -/
def Obligations.StepRunsFront : Prop :=
  ∀ (c : Instr) (q : List Instr) (s : State), s.pending = c :: q → step s = exec c (s.withPending q)

/-- The tick of log 6, a choice of the model: the manual gives a clock and the table no row for it. -/
def Obligations.StepIdles : Prop :=
  ∀ (s : State) (t : Tr),
    s.powered = true →
    s.pending = [] →
    ∃ s', step s = .next s' ∧
      (s'.tr t).ctl.timer = (s.tr t).ctl.timer - 1 ∧
      (s'.tr t).reck = (s.tr t).reck ∧
      (s'.tr t).chan = (s.tr t).chan ∧
      (s'.tr t).loc = (s.tr t).loc ∧
      (s'.tr t).xfer = (s.tr t).xfer ∧
      (s'.tr t).port = (s.tr t).port ∧
      { (s'.tr t).sense with writeEnable := (s.tr t).sense.writeEnable } = (s.tr t).sense ∧
      ((s.tr t).drive.watched = none ∨ (s'.tr t).drive.watched ≠ (s.tr t).drive.watched ∨ (s'.tr t).drive.stallTimer = (s.tr t).drive.stallTimer + 1) ∧
      s.SameShared s' ∧
      s'.hostMemory = s.hostMemory ∧
      s'.powered = true ∧
      s'.pending = []

/-- exec acts on everything but the queue: the model's choice (log 1), since no rule speaks of such a queue. -/
def Obligations.QueueUntouched : Prop :=
  ∀ (c : Instr) (s s' : State), exec c s = .next s' → s'.pending = s.pending

/-- R145 as an invariant of every step: OutputsAgree is the invariant, and the bits are spelled out. -/
def Obligations.InterruptAndSummary : Prop :=
  ∀ (s s' : State), s.OutputsAgree → step s = .next s' → s'.powered = true →
    s'.OutputsAgree ∧
    (s'.intr = true ↔ ∃ t, (s'.tr t).port.pointer = .completePending ∨
      (s'.tr t).port.attention &&& (s'.tr t).port.noticeMask ≠ 0) ∧
    (∀ t, s'.summary.getLsbD (trNumber t) = decide ((s'.tr t).port.pointer = .completePending) ∧
      s'.summary.getLsbD (4 + trNumber t) = decide ((s'.tr t).port.attention &&& (s'.tr t).port.noticeMask ≠ 0) ∧
      (pointerWord (s'.tr t).port).getLsbD 14 = s'.summary.getLsbD (4 + trNumber t)) ∧
    s'.summary.getLsbD 8 = s'.power.pwarn.level ∧ s'.summary.getLsbD 9 = s'.power.verdict

/-- The invariants at reset; the samples and the verdict are those of log 2. -/
def Obligations.ResetSafe : Prop :=
  State.reset.OutputsAgree ∧ State.reset.MemoryCanonical ∧ State.reset.WriteInterlocked ∧
    State.reset.PathAgrees ∧ State.reset.ReelsLimited ∧ State.reset.MapsOrdered

/-- Equal memories stay equal data; the form is the model's (log 5). -/
def Obligations.MemoryStaysCanonical : Prop :=
  ∀ (s s' : State), s.MemoryCanonical → step s = .next s' → s'.MemoryCanonical

/-- The interlock of R11 as an invariant of every step. -/
def Obligations.WriteEnableInterlocked : Prop :=
  ∀ (s s' : State), s.WriteInterlocked → step s = .next s' → s'.WriteInterlocked

/-- The level of R8 as an invariant of every step. -/
def Obligations.PathGoodFollows : Prop :=
  ∀ (s s' : State), s.PathAgrees → step s = .next s' → s'.PathAgrees

/-- The clamp of R44 and the brakes of R45 as an invariant of every step. -/
def Obligations.ReelCommandsLimited : Prop :=
  ∀ (s s' : State), s.ReelsLimited → step s = .next s' → s'.ReelsLimited

/-- The order of R95 and the pool of R93 as an invariant of every step, whichever command runs. -/
def Obligations.MapsStayOrdered : Prop :=
  ∀ (s s' : State), s.MapsOrdered → step s = .next s' → s'.MapsOrdered

/-- The four transports work independently of one another (00_scope.md, "General description"). -/
def Obligations.TransportsIndependent : Prop :=
  ∀ (s s' : State) (t : Tr) (c : Instr), commandOf c = some t → exec c s = .next s' →
    (∀ u, u ≠ t → s'.tr u = s.tr u ∧ s'.reel u = s.reel u) ∧ s'.hostMemory = s.hostMemory ∧
    s'.power.pwarn = s.power.pwarn ∧ s'.power.clear = s.power.clear ∧ s'.powered = s.powered

/-- Every other block stops where it stands (R180). -/
def Obligations.NothingWithoutPower : Prop :=
  ∀ (s s' : State) (c : Instr), s.powered = false → (∀ f, c ≠ .powerOn f) → c ≠ .backupFailure →
    exec c s = .next s' → s' = s

/-- R1, R2, R10, R37, R38, R41, R55, R59, R61, R75, R76, R78, R86, R123. The clock cycles that pass with the count (log 6), and that a step without a write ring spoils the read-back (log 37), are the model's choices. -/
def Obligations.CapstanCountsMoveThePosition : Prop :=
    ∀ (s : State) (t : Tr) (ph : Phases) (cycles : Nat) (h1 h2 : HeadSample), s.powered = true → 
    ((s.tr t).Unused → (s.tr t).Standing → (s.tr t).reck.mode = .capstan → (s.tr t).reck.moving = false → (s.tr t).reck.supplyWindow.full = false → (s.tr t).reck.takeupWindow.full = false → positionMin + 2 ≤ (s.tr t).reck.position → (s.tr t).reck.position + 2 ≤ positionMax →
      ∃ s', exec (.tachometerCount t .capstan ph cycles h1 h2) s = .next s' ∧
        s.Becomes s' t ((tachCounts (s.tr t).sense.capstanTach ph).foldl
        (fun y p => { y with
          sense := y.sense.lagMarkers .capstan p, reck := { y.reck with position := y.reck.position + signValue p },
          drive := y.drive.stallCount .capstan })
        { (s.tr t).elapse cycles with
          sense := (s.tr t).sense.setTach .capstan ((s.tr t).sense.capstanTach.sample ph) })) ∧
    (∀ (d : Dir) (p : Bool), s.Settled t → (s.tr t).drive.phase ≠ .stopped → (s.tr t).drive.shuttlePhase = .none → (s.tr t).drive.mode = .capstan → (s.tr t).reck.mode = .capstan → (s.tr t).reck.moving = true → (s.tr t).eraseDue = false → (s.tr t).budgetDue = false → capstanStopPoint (s.tr t).drive (s.tr t).reck = .none → (s.tr t).drive.holdOver ≠ some 0 → (s.tr t).reck.supplyWindow.full = false → (s.tr t).reck.takeupWindow.full = false → ((s.tr t).reck.supplyWindow.dir = some d ∧ (s.tr t).reck.takeupWindow.dir = some d) → positionMin < (s.tr t).reck.position → (s.tr t).reck.position < positionMax → tachCounts (s.tr t).sense.capstanTach ph = [p] → (s.tr t).chan.record = none → (s.tr t).chan.phase = .hunt → (s.tr t).chan.formation = none → (s.tr t).chan.blankWatch.all (·.2 < 60000) = true →
      ∃ s', exec (.tachometerCount t .capstan ph cycles h1 h2) s = .next s' ∧
        s.OnlyAt s' t ∧
        s'.store = s.store ∧
        s'.exchange = s.exchange ∧
        (s'.tr t).sense.capstanTach = { phases := ph, lastPositive := p } ∧
        (s'.tr t).reck = { (s.tr t).reck with
            position := (s.tr t).reck.position + signValue p,
            supplyWindow := { (s.tr t).reck.supplyWindow with
              capstanSteps := (s.tr t).reck.supplyWindow.capstanSteps + windowStep d p },
            takeupWindow := { (s.tr t).reck.takeupWindow with
              capstanSteps := (s.tr t).reck.takeupWindow.capstanSteps + windowStep d p } } ∧
        (s'.tr t).drive.stopTarget = (s.tr t).drive.stopTarget.map (fun x => if (signDir p = (s.tr t).drive.dir) then x - 1 else x + 1) ∧
        (s'.tr t).drive.holdOver = (s.tr t).drive.holdOver.map (fun x => if (signDir p = (s.tr t).drive.dir) then x - 1 else x) ∧
        ((s.tr t).drive.watched = some .capstan → (s'.tr t).drive.stallTimer = 0) ∧
        (s'.tr t).loc = { (s.tr t).loc with
            travel := (s.tr t).loc.travel +
              if (s.tr t).loc.phase = .decode ∨ (s.tr t).loc.phase = .backCount ∨ (s.tr t).loc.phase = .standOff
              then 1 else 0 } ∧
        (s'.tr t).chan.phase = (if (signDir p = (s.tr t).drive.dir) ∧ startStep (s.tr t).chan.settings h1 = true then .qualify else .hunt) ∧
        (s'.tr t).chan.blankWatch = (if (signDir p = (s.tr t).drive.dir) then
            (s.tr t).chan.blankWatch.map (fun w => (w.1, if lowStep (s.tr t).chan.settings h1 then w.2 + 1 else 0))
          else (s.tr t).chan.blankWatch)) ∧
    (∀ (r : RecordInProgress), s.Settled t → (s.tr t).drive.phase ≠ .stopped → (s.tr t).drive.shuttlePhase = .none → (s.tr t).drive.mode = .capstan → (s.tr t).reck.mode = .capstan → (s.tr t).reck.moving = true → (s.tr t).eraseDue = false → (s.tr t).budgetDue = false → capstanStopPoint (s.tr t).drive (s.tr t).reck = .none → (s.tr t).drive.holdOver ≠ some 0 → (s.tr t).reck.supplyWindow.full = false → (s.tr t).reck.takeupWindow.full = false → tachCounts (s.tr t).sense.capstanTach ph = [decide ((s.tr t).drive.dir = .forward)] → (s.tr t).chan.phase = .qualify → (s.tr t).chan.record = some r → r.qualify < 20 → (s.tr t).chan.formation = none → (s.tr t).chan.blankWatch.all (·.2 < 60000) = true →
      ∃ s', exec (.tachometerCount t .capstan ph cycles h1 h2) s = .next s' ∧
        s.OnlyAt s' t ∧
        s'.store = s.store ∧
        (if startStep (s.tr t).chan.settings h1 = true then
            (s'.tr t).chan.phase = .qualify ∧ (s'.tr t).chan.record.map (·.qualify) = some (r.qualify + 1) ∧
              (s'.tr t).chan.record.map (·.start) = some r.start
          else
            (s'.tr t).chan.phase = .hunt ∧ (s'.tr t).chan.record = none ∧
              (s'.tr t).chan.settings = (s.tr t).chan.pendingSettings.getD (s.tr t).chan.settings)) ∧
    (∀ (f : Formation), s.Settled t → (s.tr t).drive.phase ≠ .stopped → (s.tr t).drive.shuttlePhase = .none → (s.tr t).drive.mode = .capstan → (s.tr t).reck.mode = .capstan → (s.tr t).reck.moving = true → (s.tr t).eraseDue = false → (s.tr t).budgetDue = false → capstanStopPoint (s.tr t).drive (s.tr t).reck = .none → (s.tr t).drive.holdOver ≠ some 0 → (s.tr t).reck.supplyWindow.full = false → (s.tr t).reck.takeupWindow.full = false → (s.tr t).drive.dir = .forward → tachCounts (s.tr t).sense.capstanTach ph = [true] → (s.tr t).chan.record = none → (s.tr t).chan.phase = .hunt → (s.tr t).chan.blankWatch.all (·.2 < 60000) = true → (s.tr t).chan.formation = some f → (s.tr t).chan.handOver = .off → ((f.phase = .preamble ∧ f.ambleSteps < 39) ∨
      (f.phase = .data ∧ f.fill = false ∧ 6 ≤ (s.tr t).xfer.fifo.length ∧ f.written + 6 < f.declared)) →
      ∃ s', exec (.tachometerCount t .capstan ph cycles h1 h2) s = .next s' ∧
        s.OnlyAt s' t ∧
        s'.store = s.store ∧
        (s'.tr t).chan.formation = some (if f.phase = .preamble then
              { f with
                ambleSteps := f.ambleSteps + 1, steps := f.steps + 1, partBytes := 0,
                spoiled := f.spoiled || !(s.tr t).sense.writeRing.level }
            else
              { f with
                steps := f.steps + 1, bytes := f.bytes ++ (s.tr t).xfer.fifo.take 6, written := f.written + 6,
                hostBytes := f.hostBytes + 6, sum := f.sum + byteSum ((s.tr t).xfer.fifo.take 6),
                spoiled := f.spoiled || !(s.tr t).sense.writeRing.level }) ∧
        (s'.tr t).xfer.fifo = (if f.phase = .preamble then (s.tr t).xfer.fifo else (s.tr t).xfer.fifo.drop 6) ∧
        (s'.tr t).xfer.resultBytes = (s.tr t).xfer.resultBytes + if f.phase = .preamble then 0 else 6)

/-- R1 to R3, R10, R55, R61, R63 to R65. The clock cycles that pass with the count are the model's choice (log 6). -/
def Obligations.ReelCountsTurnThePhase : Prop :=
    ∀ (s : State) (t : Tr) (side : Side) (ph : Phases) (cycles : Nat) (h1 h2 : HeadSample), s.powered = true → 
    ((s.tr t).Unused → (s.tr t).Standing → (s.tr t).reck.mode = .capstan → (s.tr t).reck.moving = false → (s.tr t).reck.supplyWindow.full = false → (s.tr t).reck.takeupWindow.full = false →
      ∃ s', exec (.tachometerCount t (reelTach side) ph cycles h1 h2) s = .next s' ∧
        s.Becomes s' t ((tachCounts ((s.tr t).sense.tach (reelTach side)) ph).foldl
        (fun y p => { y with
          sense := (y.sense.turnReel side p).lagMarkers (reelTach side) p, drive := y.drive.stallCount (reelTach side) })
        { (s.tr t).elapse cycles with
          sense := (s.tr t).sense.setTach (reelTach side) (((s.tr t).sense.tach (reelTach side)).sample ph) })) ∧
    (∀ (d : Dir) (p : Bool), s.Settled t → (s.tr t).drive.phase ≠ .stopped → (s.tr t).drive.shuttlePhase = .none → (s.tr t).drive.mode = .capstan → (s.tr t).reck.mode = .capstan → (s.tr t).reck.moving = true → (s.tr t).eraseDue = false → (s.tr t).budgetDue = false → capstanStopPoint (s.tr t).drive (s.tr t).reck = .none → (s.tr t).drive.holdOver ≠ some 0 → (s.tr t).reck.supplyWindow.full = false → (s.tr t).reck.takeupWindow.full = false → (s.tr t).chan.record = none → (s.tr t).chan.phase = .hunt → (s.tr t).chan.formation = none → (s.tr t).chan.blankWatch.all (·.2 < 60000) = true → ((s.tr t).reck.window side).dir = some d → -256 < ((s.tr t).reck.window side).reelCounts → tachCounts ((s.tr t).sense.tach (reelTach side)) ph = [p] →
      ∃ s', exec (.tachometerCount t (reelTach side) ph cycles h1 h2) s = .next s' ∧
        s.OnlyAt s' t ∧
        s'.store = s.store ∧
        (s'.tr t).sense.revolutionPhase side = phaseAfter ((s.tr t).sense.revolutionPhase side) p ∧
        (s'.tr t).reck = (s.tr t).reck.setWindow side { (s.tr t).reck.window side with
            reelCounts := ((s.tr t).reck.window side).reelCounts + windowStep d p }) ∧
    (∀ (p : Bool), (s.tr t).drive.mode = .shuttle → (s.tr t).drive.shuttlePhase ≠ .none → (s.tr t).drive.phase = .stopped → (s.tr t).reck.mode = .shuttle → shuttleBrakePointOf (s.tr t).drive (s.tr t).reck = .none → (s.tr t).eraseDue = false → (s.tr t).budgetDue = false → (s.tr t).reck.supplyWindow.full = false → (s.tr t).reck.takeupWindow.full = false → (s.tr t).chan.record = none → (s.tr t).chan.phase = .hunt → (s.tr t).chan.formation = none → (s.tr t).chan.blankWatch.all (·.2 < 60000) = true → side = .takeup → tachCounts (s.tr t).sense.takeupTach ph = [p] → positionMin ≤ ((s.tr t).reck.position * 4096 + (s.tr t).reck.fraction + signValue p * (s.tr t).reck.takeupPitch) / 4096 → ((s.tr t).reck.position * 4096 + (s.tr t).reck.fraction + signValue p * (s.tr t).reck.takeupPitch) / 4096 ≤ positionMax → phaseWraps (s.tr t).sense.takeupPhase p = false →
      ∃ s', exec (.tachometerCount t (reelTach side) ph cycles h1 h2) s = .next s' ∧
        s.OnlyAt s' t ∧
        s'.store = s.store ∧
        (s'.tr t).sense.revolutionPhase .takeup = phaseAfter ((s.tr t).sense.revolutionPhase .takeup) p ∧
        (s'.tr t).reck = { (s.tr t).reck with
            position := ((s.tr t).reck.position * 4096 + (s.tr t).reck.fraction + signValue p * (s.tr t).reck.takeupPitch) / 4096,
            fraction := (((s.tr t).reck.position * 4096 + (s.tr t).reck.fraction + signValue p * (s.tr t).reck.takeupPitch) % 4096).toNat } ∧
        ((s.tr t).drive.watched = some .takeup → (s'.tr t).drive.stallTimer = 0)) ∧
    (∀ (p : Bool), (s.tr t).drive.mode = .shuttle → (s.tr t).drive.shuttlePhase ≠ .none → (s.tr t).drive.phase = .stopped → (s.tr t).reck.mode = .shuttle → shuttleBrakePointOf (s.tr t).drive (s.tr t).reck = .none → (s.tr t).eraseDue = false → (s.tr t).budgetDue = false → (s.tr t).reck.supplyWindow.full = false → (s.tr t).reck.takeupWindow.full = false → (s.tr t).chan.record = none → (s.tr t).chan.phase = .hunt → (s.tr t).chan.formation = none → (s.tr t).chan.blankWatch.all (·.2 < 60000) = true → side = .takeup → tachCounts (s.tr t).sense.takeupTach ph = [p] → positionMin ≤ ((s.tr t).reck.position * 4096 + (s.tr t).reck.fraction + signValue p * (s.tr t).reck.takeupPitch) / 4096 → ((s.tr t).reck.position * 4096 + (s.tr t).reck.fraction + signValue p * (s.tr t).reck.takeupPitch) / 4096 ≤ positionMax → phaseWraps (s.tr t).sense.takeupPhase p = true → (s.tr t).reck.anchor ≠ .lost → (s.tr t).reck.bound.getD 0 + ceilDiv (s.tr t).reck.takeupPitch 16384 ≤ 20000 →
      ∃ s', exec (.tachometerCount t (reelTach side) ph cycles h1 h2) s = .next s' ∧
        s.OnlyAt s' t ∧
        s'.store = s.store ∧
        (s'.tr t).sense.revolutionPhase .takeup = phaseAfter ((s.tr t).sense.revolutionPhase .takeup) p ∧
        (s'.tr t).reck = { (s.tr t).reck with
            position := ((s.tr t).reck.position * 4096 + (s.tr t).reck.fraction + signValue p * (s.tr t).reck.takeupPitch) / 4096,
            fraction := (((s.tr t).reck.position * 4096 + (s.tr t).reck.fraction + signValue p * (s.tr t).reck.takeupPitch) % 4096).toNat, anchor := .drifted,
            bound := some ((s.tr t).reck.bound.getD 0 + ceilDiv (s.tr t).reck.takeupPitch 16384),
            takeupPitch := clampPitch ((s.tr t).reck.takeupPitch + signValue p * (s.tr t).drive.active.k) }) ∧
    (∀ (p : Bool), (s.tr t).drive.mode = .shuttle → (s.tr t).drive.shuttlePhase ≠ .none → (s.tr t).drive.phase = .stopped → (s.tr t).reck.mode = .shuttle → shuttleBrakePointOf (s.tr t).drive (s.tr t).reck = .none → (s.tr t).eraseDue = false → (s.tr t).budgetDue = false → (s.tr t).reck.supplyWindow.full = false → (s.tr t).reck.takeupWindow.full = false → (s.tr t).chan.record = none → (s.tr t).chan.phase = .hunt → (s.tr t).chan.formation = none → (s.tr t).chan.blankWatch.all (·.2 < 60000) = true → side = .supply → tachCounts (s.tr t).sense.supplyTach ph = [p] →
      ∃ s', exec (.tachometerCount t (reelTach side) ph cycles h1 h2) s = .next s' ∧
        s.OnlyAt s' t ∧
        s'.store = s.store ∧
        (s'.tr t).sense.revolutionPhase .supply = phaseAfter ((s.tr t).sense.revolutionPhase .supply) p ∧
        (s'.tr t).reck = { (s.tr t).reck with
            supplyPitch := if phaseWraps (s.tr t).sense.supplyPhase p then
                clampPitch ((s.tr t).reck.supplyPitch - signValue p * (s.tr t).drive.active.k)
              else (s.tr t).reck.supplyPitch })

/-- R62 and R63 at a window full by its reel counts. -/
def Obligations.PitchMeasured : Prop :=
  ∀ (s : State) (t : Tr) (reel : Side),
    s.powered = true →
    s.Settled t →
    256 ≤ ((s.tr t).reck.window reel).reelCounts →
    0 ≤ ((s.tr t).reck.window reel).capstanSteps →
    ((s.tr t).reck.window reel).capstanSteps ≤ 20000 →
    ∃ s', exec (.pitchMeasured t reel) s = .next s' ∧
      s.Becomes s' t
        (if 4000 ≤ ((s.tr t).reck.window reel).capstanSteps then
          { s.tr t with
            reck := ((s.tr t).reck.setPitch reel (16 * ((s.tr t).reck.window reel).capstanSteps).toNat).setWindow reel
              { dir := ((s.tr t).reck.window reel).dir, reelCounts := 0, capstanSteps := 0 } }
        else
          { s.tr t with
            reck := ((s.tr t).reck.setPitch reel (packLaw reel (((s.tr t).reck.window reel).dir.getD .forward)
                ((s.tr t).reck.pitch reel) (s.tr t).drive.active.k)).setWindow reel
              { dir := ((s.tr t).reck.window reel).dir, reelCounts := 0, capstanSteps := 0 },
            port := (s.tr t).port.raiseInd .reelSlip })

/-- R4, R5 and R8 where no load or motion reacts. -/
def Obligations.ZoneAccepted : Prop :=
  ∀ (s : State) (t : Tr) (side : Side) (p : Pattern) (z : Zone) (n : Nat),
    s.powered = true →
    (s.tr t).Unloaded →
    ((s.tr t).sense.column side).valid = true →
    patternZone p = some z →
    z ≠ ((s.tr t).sense.column side).zone →
    p ≠ ((s.tr t).sense.column side).sampled →
    1 ≤ n →
    (s.tr t).sense.pathGood = pathGoodOf (s.tr t).sense →
    ∃ s', exec (.zoneEvent t side p n) s = .next s' ∧
      s.Becomes s' t { s.tr t with
        sense := ((s.tr t).sense.setColumn side { ((s.tr t).sense.column side) with
          accepted := if 4 ≤ n then p else ((s.tr t).sense.column side).accepted, zone := if 4 ≤ n then z else ((s.tr t).sense.column side).zone,
          sampled := p, identical := min 4 n, faultCount := 0 }).withPath }

/-- R6 and R8 where no load or motion reacts. -/
def Obligations.ColumnSensorFaultAndRestored : Prop :=
  ∀ (s : State) (t : Tr) (side : Side) (p : Pattern) (n : Nat), s.powered = true → (s.tr t).Unloaded → 1 ≤ n →
    (s.tr t).sense.pathGood = pathGoodOf (s.tr t).sense →
    (((s.tr t).sense.column side).valid = true → patternZone p = none →
      200 ≤ ((s.tr t).sense.column side).faultCount + n →
      ∃ s', exec (.columnSensorFault t side p n) s = .next s' ∧
        s.Becomes s' t { s.tr t with
          sense := ((s.tr t).sense.setColumn side { (s.tr t).sense.column side with
            valid := false, zone := .unknown, faultCount := ((s.tr t).sense.column side).faultCount + n, sampled := p,
            identical := ((s.tr t).sense.column side).identicalAfter p n,
            accepted := if ((s.tr t).sense.column side).accepts p n then p
              else ((s.tr t).sense.column side).accepted }).withPath }) ∧
    (∀ z, ((s.tr t).sense.column side).valid = false → patternZone p = some z →
      p ≠ ((s.tr t).sense.column side).sampled → 4 ≤ n →
      ∃ s', exec (.sensorRestored t side p n) s = .next s' ∧
        s.Becomes s' t { s.tr t with
          sense := ((s.tr t).sense.setColumn side
            { accepted := p, zone := z, valid := true, sampled := p, identical := 4, faultCount := 0 }).withPath })

/-- R7 and R8 where no load or motion reacts. -/
def Obligations.VacuumLevelAccepted : Prop :=
  ∀ (s : State) (t : Tr) (side : Side) (v : Bool) (n : Nat),
    s.powered = true →
    (s.tr t).Unloaded →
    1 ≤ n →
    v ≠ ((s.tr t).sense.vacuumLevel side).level →
    (s.tr t).sense.pathGood = pathGoodOf (s.tr t).sense →
    ∃ s', exec (.vacuumEvent t side v n) s = .next s' ∧
      s.Becomes s' t { s.tr t with
        sense := ((s.tr t).sense.setVacuum side
          (if 10 ≤ ((s.tr t).sense.vacuumLevel side).count + n then { level := v, count := 0 }
           else { level := !v, count := ((s.tr t).sense.vacuumLevel side).count + n })).withPath }

/-- R9 where no load or motion reacts, and R11. The last clause, that the write enable line is at once the write gate and RING, is the model's choice (log 35): R11 has the line follow the Transfer Unit while the level is RING. -/
def Obligations.TapePresentAndRingAccepted : Prop :=
  ∀ (s : State) (t : Tr) (v : Bool) (n : Nat), s.powered = true → 1 ≤ n →
    ((s.tr t).Unloaded → v ≠ (s.tr t).sense.tapePresent.level → 10 ≤ (s.tr t).sense.tapePresent.count + n →
      ∃ s', exec (.tapePresentEvent t v n) s = .next s' ∧
        s.Becomes s' t { s.tr t with sense := { (s.tr t).sense with tapePresent := { level := v, count := 0 } } }) ∧
    (s.Settled t → v ≠ (s.tr t).sense.writeRing.level → 20 ≤ (s.tr t).sense.writeRing.count + n →
      ∃ s', exec (.writeRingChange t v n) s = .next s' ∧
        s.Becomes s' t { s.tr t with sense := { (s.tr t).sense with writeRing := { level := v, count := 0 } } } ∧
        (s'.tr t).sense.writeEnable = ((s.tr t).chan.writeGate && v))

/-- R10, R50, R66 and R68. The shift of a held EOT position as a difference of whole steps is the model's choice (log 33). -/
def Obligations.BotReanchors : Prop :=
    ∀ (s : State) (t : Tr) (n : Nat), s.powered = true → 1 ≤ n → 
    (∀ (v : Bool), (s.tr t).Unused → (s.tr t).ReadyStanding → (s.tr t).reck.mode = .capstan → (s.tr t).sense.capstanTach.lastPositive = v → (s.tr t).sense.bot.level = !v → 8 ≤ (s.tr t).sense.bot.count + n →
      ∃ s', exec (.markerEdge t .bot v n) s = .next s' ∧
        s.Becomes s' t { s.tr t with
          sense := { (s.tr t).sense with bot := { level := v, count := 0, capstanLag := 0, takeupLag := 0 } },
          reck := { (s.tr t).reck with
            position := (if (s.tr t).sense.bot.count = 0 then 0 else (s.tr t).sense.bot.capstanLag), fraction := 0,
            anchor := .anchored, bound := some 0, nextBlock := 0, nextKnown := true, fileNumber := 1, lastBlock := none,
            eot := (s.tr t).reck.eot.map fun e =>
              e + ((if (s.tr t).sense.bot.count = 0 then 0 else (s.tr t).sense.bot.capstanLag) - (s.tr t).reck.position) } }) ∧
    (∀ (v : Bool), (s.tr t).xfer.order = .none → ((s.tr t).loc = Locate.idle ∨ (s.tr t).loc.phase = .shuttle ∨
      ((s.tr t).loc.phase = .rewinding ∧ (s.tr t).loc.leg = .shuttle)) → (s.tr t).ctl.state = .inMotion → (s.tr t).drive.engaged = false → ((s.tr t).drive.shuttlePhase = .accel ∨ (s.tr t).drive.shuttlePhase = .run) → (s.tr t).reck.mode = .shuttle → (s.tr t).sense.takeupTach.lastPositive = v → (s.tr t).sense.bot.level = !v → 8 ≤ (s.tr t).sense.bot.count + n →
      ∃ s', exec (.markerEdge t .bot v n) s = .next s' ∧
        s.Becomes s' t { s.tr t with
          sense := { (s.tr t).sense with bot := { level := v, count := 0, capstanLag := 0, takeupLag := 0 } },
          reck := { (s.tr t).reck with
            position := ((if (s.tr t).sense.bot.count = 0 then 0 else (s.tr t).sense.bot.takeupLag) * (s.tr t).reck.takeupPitch) / 4096, fraction := (((if (s.tr t).sense.bot.count = 0 then 0 else (s.tr t).sense.bot.takeupLag) * (s.tr t).reck.takeupPitch) % 4096).toNat,
            anchor := .anchored, bound := some 0, nextBlock := 0, nextKnown := true, fileNumber := 1, lastBlock := none,
            eot := (s.tr t).reck.eot.map fun e =>
              e + (((if (s.tr t).sense.bot.count = 0 then 0 else (s.tr t).sense.bot.takeupLag) * (s.tr t).reck.takeupPitch) / 4096 - (s.tr t).reck.position) },
          drive := { (s.tr t).drive with shuttlePhase := .brake, endedBy := .bot } }) ∧
    ((s.tr t).Unused → (s.tr t).ReadyStanding → (s.tr t).reck.mode = .capstan → (s.tr t).reck.fraction < 4096 → (s.tr t).sense.capstanTach.lastPositive = true → (s.tr t).sense.eot.level = false → 8 ≤ (s.tr t).sense.eot.count + n →
      ∃ s', exec (.markerEdge t .eot true n) s = .next s' ∧
        s.Becomes s' t { s.tr t with
          sense := { (s.tr t).sense with eot := { level := true, count := 0, capstanLag := 0, takeupLag := 0 } },
          reck := { (s.tr t).reck with
            eot := some ((s.tr t).reck.eot.getD
              ((s.tr t).reck.position -
                if (s.tr t).sense.eot.count = 0 then 0 else (s.tr t).sense.eot.capstanLag)) } })

/-- R12, R19 and R35 in READY. -/
def Obligations.OnlineSwitch : Prop :=
  ∀ (s : State) (t : Tr) (on : Bool) (n : Nat),
    s.powered = true →
    s.Settled t →
    (s.tr t).ctl.state = .ready →
    on ≠ (s.tr t).sense.online.level →
    1 ≤ n →
    20 ≤ (s.tr t).sense.online.count + n →
    ∃ s', exec (.onlineEvent t on n) s = .next s' ∧
      s.Becomes s' t { s.tr t with
        sense := { (s.tr t).sense with online := { level := on, count := 0 } },
        ctl := { (s.tr t).ctl with
          online := if on then true else (s.tr t).ctl.online && decide ((s.tr t).port.pointer = .inFlight),
          offlinePending := !on && (s.tr t).ctl.online && decide ((s.tr t).port.pointer = .inFlight) },
        port := { (s.tr t).port with
          attention :=
            if (s.tr t).port.pointer = .inFlight then (s.tr t).port.attention
            else if on && !(s.tr t).ctl.online then (s.tr t).port.attention ||| 16#5
            else if !on && (s.tr t).ctl.online then (s.tr t).port.attention ||| 8#5
            else (s.tr t).port.attention } }

/-- R13, R20, R23, R25, R26, R33, R35 and R94. The model's choices: what a failing load does at the Order Port (logs 14 and 30), the targets absent from the beginning of a stop (log 69), the creep's dropped remainder (log 10), and its lack of a distance limit (log 79). -/
def Obligations.PanelButtons : Prop :=
    ∀ (s : State) (t : Tr) (n : Nat), s.powered = true → 1 ≤ n → 
    ((s.tr t).Unloaded → (s.tr t).ctl.online = false → (s.tr t).sense.tapePresent.level = true → (s.tr t).sense.bothVacuum = false → (s.tr t).sense.loadButton.level = false → 20 ≤ (s.tr t).sense.loadButton.count + n →
      ∃ s', exec (.loadPressed t n) s = .next s' ∧
        s.Becomes s' t ({ s.tr t with sense := { (s.tr t).sense with loadButton := { level := true, count := 0 } } }.threading
          .panelLoad none false)) ∧
    ((s.tr t).Gripless → (s.tr t).ctl.state = .faulted → (s.tr t).ctl.online = false → (s.tr t).reck.anchor = .lost → (s.tr t).sense.unloadButton.level = false → 20 ≤ (s.tr t).sense.unloadButton.count + n →
      ∃ s', exec (.unloadPressed t n) s = .next s' ∧
        s.OnlyAt s' t ∧
        s'.exchange = s.exchange ∧
        s'.arb = s.arb ∧
        s'.reel t = (if (s.reel t).state = .active then { s.reel t with state := .held } else s.reel t) ∧
        s'.store.poolFree = s.store.poolFree ∧
        (s'.tr t).reck = (s.tr t).reck ∧
        (s'.tr t).port = (s.tr t).port ∧
        (s'.tr t).ctl = { (s.tr t).ctl with
          state := .unloaded, pump := false, permission := .none, fault := .none } ∧
        (s'.tr t).sense = { (s.tr t).sense with
          unloadButton := { level := true, count := 0 }, writeEnable := (s'.tr t).sense.writeEnable }) ∧
    (∀ (b : Button), s.Settled t → ((s.tr t).sense.button b).level = true → 20 ≤ ((s.tr t).sense.button b).count + n →
      ∃ s', exec (.buttonReleased t b n) s = .next s' ∧
        s.Becomes s' t { s.tr t with sense := (s.tr t).sense.setButton b { level := false, count := 0 } }) ∧
    (s.Settled t → (s.tr t).ctl.online = true → (s.tr t).sense.loadButton.level = false → 20 ≤ (s.tr t).sense.loadButton.count + n →
      ∃ s', exec (.loadPressed t n) s = .next s' ∧
        s.Becomes s' t { s.tr t with sense := { (s.tr t).sense with loadButton := { level := true, count := 0 } } }) ∧
    (s.Settled t → (s.tr t).ctl.online = true → (s.tr t).sense.unloadButton.level = false → 20 ≤ (s.tr t).sense.unloadButton.count + n →
      ∃ s', exec (.unloadPressed t n) s = .next s' ∧
        s.Becomes s' t { s.tr t with sense := { (s.tr t).sense with unloadButton := { level := true, count := 0 } } }) ∧
    ((s.tr t).ReadyStanding → (s.tr t).Unused → (s.tr t).ctl.online = false → (s.tr t).port.pointer ≠ .inFlight → (s.tr t).port.pointer ≠ .terminating → (s.tr t).reck.atLoadPoint = true → (s.tr t).sense.unloadButton.level = false → 20 ≤ (s.tr t).sense.unloadButton.count + n →
      ∃ s', exec (.unloadPressed t n) s = .next s' ∧
        s.OnlyAt s' t ∧
        s'.exchange = s.exchange ∧
        s'.arb = s.arb ∧
        s'.reel t = (if (s.reel t).state = .active then { s.reel t with state := .held } else s.reel t) ∧
        s'.store.poolFree = s.store.poolFree ∧
        s'.tr t = Transport.refresh { s.tr t with
          sense := { (s.tr t).sense with unloadButton := { level := true, count := 0 } },
          port := { (s.tr t).port with attention := (s.tr t).port.attention ||| 8#5 },
          ctl := { (s.tr t).ctl with
              state := .unloading, pump := true, permission := .creep, timer := 600000000,
              operation := .panelUnload, keep := true,
              unloadEnding := false, retired := 0 },
          drive := { (s.tr t).drive with
              phase := .accel, command := 0, commandRem := 0, dir := .backward,
              targetSpeed := (s.tr t).drive.active.vRw / 4, stopTarget := none, holdOver := none, pending := none,
              endedBy := .none, creep := some true, requester := .transport },
          chan := { (s.tr t).chan with mode := .decode },
          reck := { (s.tr t).reck with lastBlock := none }.motionBegun .backward }) ∧
    ((s.tr t).ReadyStanding → (s.tr t).Unused → (s.tr t).ctl.online = false → (s.tr t).port.pointer ≠ .inFlight → (s.tr t).port.pointer ≠ .terminating → (s.tr t).reck.atLoadPoint = false → ((s.tr t).reck.anchor = .lost ∨
      (0 ≤ (s.tr t).reck.position + (s.tr t).reck.bound.getD 0 ∧ (s.tr t).reck.position ≤ 200000)) → (s.tr t).sense.unloadButton.level = false → 20 ≤ (s.tr t).sense.unloadButton.count + n →
      ∃ s', exec (.unloadPressed t n) s = .next s' ∧
        s.Becomes s' t { Transport.started { s.tr t with
            sense := { (s.tr t).sense with unloadButton := { level := true, count := 0 } },
            port := { (s.tr t).port with attention := (s.tr t).port.attention ||| 8#5 },
            ctl := { (s.tr t).ctl with
              operation := .panelUnload, keep := true,
              unloadEnding := false, retired := 0 },
            reck := { (s.tr t).reck with lastBlock := none } } .locate .backward
            (s.tr t).drive.active.vFs (some (if (s.tr t).reck.anchor = .lost then 16100000
              else (s.tr t).reck.position + (s.tr t).reck.bound.getD 0 + 2000)) with
          chan := { (s.tr t).chan with mode := .spacing },
          loc := { Locate.idle with order := .unloadRewind, phase := .rewinding, leg := .back, step := .moving } }) ∧
    ((s.tr t).ReadyStanding → (s.tr t).Unused → (s.tr t).ctl.online = false → (s.tr t).port.pointer ≠ .inFlight → (s.tr t).port.pointer ≠ .terminating → (s.tr t).reck.atLoadPoint = false → (s.tr t).reck.anchor ≠ .lost → (s.tr t).reck.position + (s.tr t).reck.bound.getD 0 < 0 → (s.tr t).sense.unloadButton.level = false → 20 ≤ (s.tr t).sense.unloadButton.count + n →
      ∃ s', exec (.unloadPressed t n) s = .next s' ∧
        s.Becomes s' t { Transport.started { s.tr t with
            sense := { (s.tr t).sense with unloadButton := { level := true, count := 0 } },
            port := { (s.tr t).port with attention := (s.tr t).port.attention ||| 8#5 },
            ctl := { (s.tr t).ctl with
              operation := .panelUnload, keep := true,
              unloadEnding := false, retired := 0 },
            reck := { (s.tr t).reck with lastBlock := none } } .locate .forward
            (s.tr t).drive.active.vRw (some (50 + (s.tr t).reck.bound.getD 0 - (s.tr t).reck.position)) with
          chan := { (s.tr t).chan with mode := .decode },
          loc := { Locate.idle with order := .unloadRewind, phase := .rewinding, leg := .forward, step := .moving } }) ∧
    (∀ (p : Int), (s.tr t).ReadyStanding → (s.tr t).Unused → (s.tr t).ctl.online = false → (s.tr t).port.pointer ≠ .inFlight → (s.tr t).port.pointer ≠ .terminating → (s.tr t).reck.anchor ≠ .lost → 200000 < (s.tr t).reck.position → p = shuttleBraking (s.tr t).drive.active + 4000 + (s.tr t).reck.bound.getD 0 → p < (s.tr t).reck.position → (s.tr t).sense.unloadButton.level = false → 20 ≤ (s.tr t).sense.unloadButton.count + n →
      ∃ s', exec (.unloadPressed t n) s = .next s' ∧
        s.Becomes s' t { s.tr t with
          sense := { (s.tr t).sense with unloadButton := { level := true, count := 0 } },
          port := { (s.tr t).port with attention := (s.tr t).port.attention ||| 8#5 },
          ctl := { (s.tr t).ctl with
              state := .inMotion, pump := true, permission := .full, operation := .panelUnload, keep := true,
              unloadEnding := false, retired := 0 },
          drive := { (s.tr t).drive with
              engaged := false, mode := .shuttle, dir := .backward, shuttlePhase := .accel, shuttleSpeed := 0,
              shuttleRem := 0, shuttleTarget := some p, pending := none, endedBy := .none, creep := none,
              requester := .locate },
          reck := { (s.tr t).reck with lastBlock := none }.shuttleStart,
          loc := { Locate.idle with order := .unloadRewind, phase := .rewinding, leg := .shuttle, step := .moving } }) ∧
    ((s.tr t).ctl.state = .faulted → (s.tr t).ctl.stopUnderWay = false → (s.tr t).drive.Calm → (s.tr t).Unused → (s.tr t).ctl.online = false → (s.tr t).sense.unloadButton.level = false → 20 ≤ (s.tr t).sense.unloadButton.count + n →
      ∃ s', exec (.unloadPressed t n) s = .next s' ∧
        s.OnlyAt s' t ∧
        s'.exchange = s.exchange ∧
        s'.arb = s.arb ∧
        s'.reel t = (if (s.reel t).state = .active then { s.reel t with state := .held } else s.reel t) ∧
        s'.store.poolFree = s.store.poolFree ∧
        (s'.tr t).port = (s.tr t).port ∧
        (s'.tr t).chan = (s.tr t).chan ∧
        (s'.tr t).xfer = (s.tr t).xfer ∧
        (s'.tr t).loc = (s.tr t).loc ∧
        (s'.tr t).ctl = { (s.tr t).ctl with
          state := .unloaded, pump := false, permission := .none, fault := .none } ∧
        (s'.tr t).drive.phase = .stopped ∧ (s'.tr t).drive.mode = .halted ∧ (s'.tr t).drive.engaged = false ∧
          (s'.tr t).drive.supplyReleased = false ∧ (s'.tr t).drive.takeupReleased = false ∧ (s'.tr t).reck.anchor = .lost) ∧
    ((s.tr t).ctl.state = .threading → (s.tr t).ctl.operation = .panelLoad → (s.tr t).ctl.stopUnderWay = false → (s.tr t).ctl.online = false → (s.tr t).Unused → (s.tr t).drive.Calm → (s.tr t).drive.mode = .thread → (s.tr t).reck.mode = .thread → (s.tr t).port.held = none → (s.tr t).sense.unloadButton.level = false → 20 ≤ (s.tr t).sense.unloadButton.count + n →
      ∃ s', exec (.unloadPressed t n) s = .next s' ∧
        s.OnlyAt s' t ∧
        s.SameShared s' ∧
        (s'.tr t).ctl.state = .unloaded ∧ (s'.tr t).ctl.operation = .none ∧ (s'.tr t).ctl.stopUnderWay = false ∧
          (s'.tr t).ctl.pump = false ∧ (s'.tr t).ctl.permission = .none ∧ (s'.tr t).drive.engaged = false ∧
          (s'.tr t).drive.supplyReleased = false ∧ (s'.tr t).drive.takeupReleased = false ∧ (s'.tr t).reck.anchor = .lost ∧
        (s'.tr t).port = (s.tr t).port.stopTold) ∧
    ((s.tr t).ctl.state = .seekingLoadPoint → (s.tr t).ctl.operation = .panelLoad → (s.tr t).ctl.stopUnderWay = false → (s.tr t).ctl.online = false → (s.tr t).drive.phase = .run → (s.tr t).drive.shuttlePhase = .none → (s.tr t).drive.mode = .capstan → (s.tr t).drive.stopKind = .none → (s.tr t).sense.unloadButton.level = false → 20 ≤ (s.tr t).sense.unloadButton.count + n →
      ∃ s', exec (.unloadPressed t n) s = .next s' ∧
        s.Becomes s' t { s.tr t with
          sense := { (s.tr t).sense with unloadButton := { level := true, count := 0 } },
          port := (s.tr t).port.stopTold,
          ctl := { (s.tr t).ctl with stopUnderWay := true, permission := .none, failCondition := none },
          drive := { (s.tr t).drive with
              phase := .decel, stopKind := .emergency, requester := .transport, holdOver := none, pending := none,
              stopTarget := none, shuttleTarget := none } })

/-- R30, R35, R53, R55 and R143 from IN MOTION. FAULT raised at once while the pointer is TERMINATING, and told again for the end of the termination write, is the model's choice (log 30: R35 and R143 read together). -/
def Obligations.FaultCausesStopTheTape : Prop :=
  ∀ (s : State) (t : Tr) (side : Side) (p : Pattern) (n : Nat), s.powered = true → (s.tr t).Running →
    (((s.tr t).sense.column side).valid = true → (patternZone p = some .z0 ∨ patternZone p = some .z4) → patternZone p ≠ some ((s.tr t).sense.column side).zone → p ≠ ((s.tr t).sense.column side).sampled → 4 ≤ n →
      ∃ s', exec (.zoneEvent t side p n) s = .next s' ∧ s.EmergencyBegun s' t .loop ∧ s.OnlyAt s' t ∧ s.SameShared s') ∧
    (((s.tr t).sense.column side).valid = true → patternZone p = none → 1 ≤ n → 200 ≤ ((s.tr t).sense.column side).faultCount + n →
      ∃ s', exec (.columnSensorFault t side p n) s = .next s' ∧ s.EmergencyBegun s' t .sensor ∧ s.OnlyAt s' t ∧ s.SameShared s') ∧
    (((s.tr t).sense.vacuumLevel side).level = true → 1 ≤ n → 10 ≤ ((s.tr t).sense.vacuumLevel side).count + n →
      ∃ s', exec (.vacuumEvent t side false n) s = .next s' ∧ s.EmergencyBegun s' t .vacuum ∧ s.OnlyAt s' t ∧ s.SameShared s') ∧
    ((s.tr t).sense.tapePresent.level = true → 1 ≤ n → 10 ≤ (s.tr t).sense.tapePresent.count + n →
      ∃ s', exec (.tapePresentEvent t false n) s = .next s' ∧ s.EmergencyBegun s' t .tapePath ∧ s.OnlyAt s' t ∧ s.SameShared s') ∧
    ((s.tr t).drive.watched.isSome = true → (s.tr t).drive.stallReported = false → (s.tr t).drive.active.stallWindow * cyclesPerMs ≤ (s.tr t).drive.stallTimer →
      ∃ s', exec (.stall t) s = .next s' ∧ s.EmergencyBegun s' t .stall ∧ s.OnlyAt s' t ∧ s.SameShared s')

/-- The clause for a state whose main power is already in tolerance is the model's choice (log 19). R181 with R15, R16, R36, R58, R91, R92, R116, R151, R154, R170 and R177. -/
def Obligations.PowerOn : Prop :=
  ∀ (s : State) (f : PowerOnSamples),
    ∃ s', exec (.powerOn f) s = .next s' ∧
      s'.trs = ⟨.powerOn f.s0, .powerOn f.s1, .powerOn f.s2, .powerOn f.s3⟩ ∧
      s'.power.verdict = (!s.power.latch && retainedSum s.store = s.power.checkWord && storeSound s.store) ∧
      s'.store = (if s'.power.verdict then
        { s.store with reels := ⟨heldReel s.store.reels.a0, heldReel s.store.reels.a1, heldReel s.store.reels.a2,
            heldReel s.store.reels.a3⟩ }
      else { reels := .all .none, poolFree := 2048 }) ∧
      s'.exchange = .powerOn ∧
      s'.arb = .powerOn ∧
      s'.powered = true ∧
      s'.power.latch = false ∧
      s'.power.clearArmed = !f.clear ∧
      s'.power.checkWord = retainedSum s'.store ∧
      s'.intr = false ∧
      s'.hostMemory = s.hostMemory ∧
      s'.pending = s.pending

/-- R180. The value a cut change leaves is the command's (log 19), and that INTR and the write enable, pump and engage lines read released during the outage is the model's choice (log 19). -/
def Obligations.PowerLossKeepsTheStore : Prop :=
    ∀ (s : State), 
    (∀ (cut : Option Word), s.powered = true →
      ∃ s', exec (.mainPowerLoss cut) s = .next s' ∧
        s'.powered = false ∧
        s'.store = s.store ∧
        s'.power.latch = s.power.latch ∧
        s'.power.checkWord = cut.getD s.power.checkWord ∧
        s'.intr = false ∧
        s'.hostMemory = s.hostMemory ∧
        s'.pending = s.pending ∧
        (∀ t, (s'.tr t).sense.writeEnable = false ∧ (s'.tr t).ctl.pump = false ∧ (s'.tr t).drive.engaged = false)) ∧
    (s.powered = false →
      ∃ s', exec (.backupFailure) s = .next s' ∧
        s' = { s with power := { s.power with latch := true } })

/-- R34, R35, R54, R91, R134, R168, R177 to R179. That both targets are absent from the beginning of a stop is the model's choice (log 69). -/
def Obligations.PowerWarning : Prop :=
    ∀ (s : State) (n : Nat), s.powered = true → 1 ≤ n → 10 ≤ s.power.pwarn.count + n → 
    (s.power.pwarn.level = false → (∀ t, (s.tr t).Unused ∧ (s.tr t).hasOrder 2 = false ∧ ((s.tr t).ReadyStanding ∨ (s.tr t).Unloaded)) →
      ∃ s', exec (.pwarnAssertion n) s = .next s' ∧
        s'.power.pwarn = { level := true, count := 0 } ∧
        s'.power.released = .all false ∧
        s'.store = s.store ∧
        (∀ t, (s'.tr t).port.attention = (s.tr t).port.attention ||| 2#5 ∧
          (s'.tr t).ctl.state = (if (s.tr t).ctl.state = .ready then .powerHeld else .unloaded) ∧
          ((s.tr t).ctl.state = .ready → (s'.tr t).ctl.permission = .none) ∧ (s'.tr t).port.pointer = (s.tr t).port.pointer)) ∧
    (s.power.pwarn.level = false → (∀ t, (s.tr t).UnderWay ∨ (s.tr t).hasOrder 2 = false ∧ ((s.tr t).Unused ∧ ((s.tr t).ReadyStanding ∨ (s.tr t).Unloaded))) →
      ∃ s', exec (.pwarnAssertion n) s = .next s' ∧
        s'.power.pwarn = { level := true, count := 0 } ∧
        s'.power.released = .all false ∧
        s'.store = s.store ∧
        s'.hostMemory = s.hostMemory ∧
        (∀ t, (s'.tr t).port.attention = (s.tr t).port.attention ||| 2#5 ∧ (s'.tr t).port.pointer = (s.tr t).port.pointer ∧
          (s'.tr t).reck = (s.tr t).reck ∧
          (s'.tr t).ctl.state = (if (s.tr t).ctl.state = .unloaded then .unloaded else .powerHeld) ∧
          ((s.tr t).UnderWay → (s'.tr t).ctl.permission = .none ∧ (s'.tr t).ctl.operation = .none ∧
            (s.tr t).drive.StopBegun (s'.tr t).drive .power ∧ (s'.tr t).loc = (s.tr t).loc ∧
            ((s.tr t).xfer.order = .none → (s'.tr t).xfer.order = .none) ∧
            ((s.tr t).xfer.order ≠ .none → (s'.tr t).xfer.order = (s.tr t).xfer.order ∧
              (s'.tr t).xfer.phase = .ending ∧ (s'.tr t).xfer.quiet = true) ∧
            (s'.tr t).chan.phase = .hunt ∧ (s'.tr t).chan.record = none ∧ (s'.tr t).chan.blankWatch = none ∧
            (s'.tr t).chan.activity =
              (if (s.tr t).chan.activity = .erasing then .listen else (s.tr t).chan.activity)))) ∧
    (s.power.pwarn.level = true → s.power.released = .all false → (∀ t, (s.tr t).drive.Calm ∧ (s.tr t).ctl.stopUnderWay = false ∧
        ((s.tr t).ctl.state = .powerHeld ∧ (s.tr t).sense.pathGood = true ∧ (s.tr t).drive.engaged = true ∨
          (s.tr t).ctl.state = .unloaded)) →
      ∃ s', exec (.pwarnRelease n) s = .next s' ∧
        s'.power.pwarn = { level := false, count := 0 } ∧
        s'.power.released = .all true ∧
        s'.store = s.store ∧
        (∀ t, (s'.tr t).ctl.state = (if (s.tr t).ctl.state = .powerHeld then .ready else .unloaded) ∧
          (s'.tr t).port.attention = (s.tr t).port.attention |||
            (if (s.tr t).ctl.state = .powerHeld ∧ (s.tr t).port.pointer ≠ .inFlight then 16#5 else 0#5) ∧
          (s'.tr t).port.pointer = (s.tr t).port.pointer))

/-- R29, R36, R52, R91, R134, R144, R149, R152, R154, R168, R170 and R182. That both targets are absent from the beginning of a stop is the model's choice (log 69). -/
def Obligations.ControllerClear : Prop :=
    ∀ (s : State) (n : Nat), s.powered = true → 1 ≤ n → 10 ≤ s.power.clear.count + n → 
    (s.power.clear.level = false → s.power.clearArmed = true → (∀ t, (s.tr t).Unused ∧ ((s.tr t).ReadyStanding ∨ (s.tr t).Unloaded)) →
      ∃ s', exec (.controllerClear n) s = .next s' ∧
        { s'.power with checkWord := s.power.checkWord } =
          { s.power with clear := { level := true, count := 0 }, clearArmed := false } ∧
        s'.powered = true ∧
        s'.hostMemory = s.hostMemory ∧
        s'.store = s.store ∧
        s'.arb.control = .all none ∧
        s'.arb.data = .all none ∧
        s'.arb.controlLast = s.arb.controlLast ∧
        s'.arb.dataLast = s.arb.dataLast ∧
        s'.exchange.holder = none ∧
        s'.exchange.waiting = .all false ∧
        s'.exchange.last = s.exchange.last ∧
        (∀ t, (s'.tr t).port.pointer = .idle ∧ (s'.tr t).port.index = 0 ∧ (s'.tr t).port.copy = none ∧
          (s'.tr t).port.indicators = 0 ∧ (s'.tr t).port.noticeMask = (s.tr t).port.noticeMask ∧
          (s'.tr t).port.attention = (if (s.tr t).ctl.state = .ready then 16#5 else 0#5) ∧
          (s'.tr t).ctl.state = (s.tr t).ctl.state ∧ (s'.tr t).reck = (s.tr t).reck ∧
          (s'.tr t).drive.staged = none ∧ (s'.tr t).drive.active = (s.tr t).drive.active)) ∧
    (s.power.clear.level = false → s.power.clearArmed = true → (∀ t, (s.tr t).UnderWay ∨ ((s.tr t).Unused ∧ ((s.tr t).ReadyStanding ∨ (s.tr t).Unloaded))) →
      ∃ s', exec (.controllerClear n) s = .next s' ∧
        { s'.power with checkWord := s.power.checkWord } =
          { s.power with clear := { level := true, count := 0 }, clearArmed := false } ∧
        s'.powered = true ∧
        s'.hostMemory = s.hostMemory ∧
        s'.store = s.store ∧
        s'.arb.control = .all none ∧
        s'.arb.data = .all none ∧
        s'.arb.controlLast = s.arb.controlLast ∧
        s'.arb.dataLast = s.arb.dataLast ∧
        s'.exchange.holder = none ∧
        s'.exchange.waiting = .all false ∧
        s'.exchange.last = s.exchange.last ∧
        (∀ t, (s'.tr t).port.pointer = .idle ∧ (s'.tr t).port.index = 0 ∧ (s'.tr t).port.copy = none ∧
          (s'.tr t).port.indicators = 0 ∧ (s'.tr t).port.noticeMask = (s.tr t).port.noticeMask ∧
          (s'.tr t).port.attention = (if (s.tr t).ctl.state = .ready then 16#5 else 0#5) ∧
          (s'.tr t).ctl.state = (if (s.tr t).ctl.state = .inMotion then .stopping else (s.tr t).ctl.state) ∧
          (s'.tr t).reck = (s.tr t).reck ∧
          (s'.tr t).drive.staged = none ∧ (s'.tr t).drive.active = (s.tr t).drive.active ∧
          ((s.tr t).UnderWay → (s'.tr t).ctl.permission = .stop ∧
            (s.tr t).drive.StopBegun (s'.tr t).drive .controlled ∧
            (s'.tr t).xfer.order = .none ∧ (s'.tr t).loc.order = .none ∧
            (s'.tr t).chan.phase = .hunt ∧ (s'.tr t).chan.record = none ∧ (s'.tr t).chan.blankWatch = none ∧
            (s'.tr t).chan.handOver = .off ∧ (s'.tr t).chan.mode = .decode ∧ (s'.tr t).chan.activity ≠ .erasing))) ∧
    (s.power.clear.level = true → s.AllSettled →
      ∃ s', exec (.clearRelease n) s = .next s' ∧
        { s'.power with checkWord := s.power.checkWord } =
          { s.power with clear := { level := false, count := 0 }, clearArmed := true } ∧
        s'.powered = true ∧
        s'.pending = s.pending ∧
        s.SameShared s' ∧
        (∀ t, s'.tr t = (s.tr t).refresh) ∧
        s'.hostMemory = s.hostMemory)

/-- R136, R137, R138 and R143 but for abandonment. -/
def Obligations.PointerWrites : Prop :=
    ∀ (s : State) (t : Tr) (v : Word), s.powered = true → s.Settled t → 
    (writtenIndex v ≠ 0 → ((s.tr t).port.pointer = .idle ∨ (s.tr t).port.pointer = .completePending) →
      ∃ s', exec (.orderPointerWrite t v) s = .next s' ∧
        s.OnlyAt s' t ∧
        s'.store = s.store ∧
        s'.exchange = s.exchange ∧
        s.OnlyControl s' t ∧
        s'.arb.control.get t = some
          { kind := .fetch, address := 8 * (v.toNat % 8192), length := 12, words := [], sizes := [], orphan := false } ∧
        s'.tr t = Transport.refresh { s.tr t with
          port := { (s.tr t).port.toIdle with pointer := .inFlight, index := v.setWidth 13 } }) ∧
    (writtenIndex v = 0 → (s.tr t).port.pointer = .completePending →
      ∃ s', exec (.orderPointerWrite t v) s = .next s' ∧
        s.Becomes s' t { s.tr t with port := (s.tr t).port.toIdle }) ∧
    (writtenIndex v = 0 → (s.tr t).port.pointer = .idle →
      ∃ s', exec (.orderPointerWrite t v) s = .next s' ∧
        s.Becomes s' t (s.tr t)) ∧
    (writtenIndex v ≠ 0 → ((s.tr t).port.pointer = .inFlight ∨ (s.tr t).port.pointer = .terminating) →
      ∃ s', exec (.orderPointerWrite t v) s = .next s' ∧
        s.Becomes s' t { s.tr t with port := { (s.tr t).port with attention := (s.tr t).port.attention ||| 1#5 } }) ∧
    (writtenIndex v = 0 → (s.tr t).port.pointer = .terminating →
      ∃ s', exec (.orderPointerWrite t v) s = .next s' ∧
        s.OnlyAt s' t ∧
        s'.store = s.store ∧
        s'.exchange = s.exchange ∧
        s'.arb = { s.arb with
          control := s.arb.control.set t none,
          current := s.arb.current.map fun y =>
            if y.1 = t ∧ dataKind y.2.kind = false then (y.1, { y.2 with orphan := true }) else y } ∧
        s'.tr t = Transport.refresh { s.tr t with
          port := { (s.tr t).port.toIdle with
            attention := if (s.tr t).port.faultAfter then (s.tr t).port.attention ||| 4#5 else (s.tr t).port.attention,
            faultAfter := false } })

/-- R136 whole; reads are served by busRead and change nothing. -/
def Obligations.BusAccesses : Prop :=
  ∀ (s : State),
    (∀ t, busRead s (trNumber t) = pointerWord (s.tr t).port ∧
      (pointerWord (s.tr t).port).getLsbD 15 = decide ((s.tr t).port.pointer = .completePending) ∧
      (pointerWord (s.tr t).port).getLsbD 14 = decide ((s.tr t).port.attention &&& (s.tr t).port.noticeMask ≠ 0) ∧
      (pointerWord (s.tr t).port).getLsbD 13 = (s.tr t).port.terminationLost ∧
      (pointerWord (s.tr t).port).setWidth 13 = (s.tr t).port.index) ∧
    busRead s 4 = s.summary ∧ (∀ o, 5 ≤ o → busRead s o = 0) ∧
    (∀ o v, 4 ≤ o → exec (.ignoredBusWrite o v) s = .next s) ∧
    (∀ t v w, (∀ i, i < 13 → v.getLsbD i = w.getLsbD i) →
      exec (.orderPointerWrite t v) s = exec (.orderPointerWrite t w) s)

/-- R137, R138 and R144 with R23, R27, R29, R98, R134, R147 and R168. The model's choices: the stop of an abandoned LOAD raises FAULT (logs 14 and 20), the operation none at once in UNLOADING (log 55), the panel unload ended by an order abandoned in its rewind before it is taken (log 60), and the targets absent from the beginning of a stop (logs 69 and 70). -/
def Obligations.PointerAbandon : Prop :=
    ∀ (s : State) (t : Tr) (v : Word), s.powered = true → writtenIndex v = 0 → (s.tr t).port.pointer = .inFlight → (s.tr t).ctl.offlinePending = false → 
    (s.Settled t → (s.tr t).port.stage = .fetching → (s.tr t).port.senseTaken = 0 →
      ∃ s', exec (.orderPointerWrite t v) s = .next s' ∧
        s.OnlyAt s' t ∧
        s'.store = s.store ∧
        s'.exchange = s.exchange ∧
        s'.arb.control = s.arb.control.set t none ∧
        s'.arb.data = s.arb.data ∧
        s'.arb.current = (s.arb.current.map fun y =>
          if y.1 = t ∧ dataKind y.2.kind = false then (y.1, { y.2 with orphan := true }) else y) ∧
        s'.tr t = Transport.refresh { s.tr t with port := (s.tr t).port.toIdle }) ∧
    (∀ (c : OrderCopy), (s.tr t).port.stage ≠ .fetching → (s.tr t).port.copy = some c → (c.code = 3 ∨ c.code = 4 ∨ c.code = 5 ∨ c.code = 12 ∨ c.code = 13 ∨ c.code = 14 ∨ c.code = 15 ∨ c.code = 19 ∨ c.code = 20 ∨ c.code = 21 ∨ c.code = 22) → (s.tr t).ReadyStanding → (s.tr t).Unused → s.exchange.holder ≠ some t → s.exchange.waiting.get t = false →
      ∃ s', exec (.orderPointerWrite t v) s = .next s' ∧
        s.OnlyAt s' t ∧
        s'.store = s.store ∧
        s'.exchange = s.exchange ∧
        s'.arb.control = s.arb.control.set t none ∧
        s'.arb.data = s.arb.data ∧
        s'.arb.current = (s.arb.current.map fun y =>
          if y.1 = t ∧ dataKind y.2.kind = false then (y.1, { y.2 with orphan := true }) else y) ∧
        s'.tr t = Transport.refresh { s.tr t with
          port := { (s.tr t).port.toIdle with
            attention := (s.tr t).port.attention ||| (s.tr t).port.senseTaken }, mapOrder := .none }) ∧
    (∀ (c : OrderCopy), (s.tr t).port.stage ≠ .fetching → (s.tr t).port.copy = some c → (c.code = 1) → (s.tr t).ctl.state = .threading → (s.tr t).ctl.stopUnderWay = false → (s.tr t).drive.Calm → (s.tr t).drive.mode = .thread → (s.tr t).reck.mode = .thread → (s.tr t).Unused → s.exchange.holder ≠ some t → s.exchange.waiting.get t = false →
      ∃ s', exec (.orderPointerWrite t v) s = .next s' ∧
        s.OnlyAt s' t ∧
        s'.store = s.store ∧
        s'.exchange = s.exchange ∧
        s'.arb.control = s.arb.control.set t none ∧
        s'.arb.data = s.arb.data ∧
        s'.arb.current = (s.arb.current.map fun y =>
          if y.1 = t ∧ dataKind y.2.kind = false then (y.1, { y.2 with orphan := true }) else y) ∧
        (s'.tr t).ctl.state = .unloaded ∧ (s'.tr t).ctl.operation = .none ∧ (s'.tr t).ctl.stopUnderWay = false ∧
          (s'.tr t).ctl.pump = false ∧ (s'.tr t).ctl.permission = .none ∧ (s'.tr t).drive.engaged = false ∧
          (s'.tr t).drive.supplyReleased = false ∧ (s'.tr t).drive.takeupReleased = false ∧ (s'.tr t).reck.anchor = .lost ∧
        (s'.tr t).port = { (s.tr t).port.toIdle with
            attention := (s.tr t).port.attention ||| (s.tr t).port.senseTaken ||| 4#5 }) ∧
    (∀ (c : OrderCopy), (s.tr t).port.stage ≠ .fetching → (s.tr t).port.copy = some c → (c.code = 2) → (s.tr t).ctl.state = .unloading → (s.tr t).ctl.stopUnderWay = false → (s.tr t).drive.phase = .run → (s.tr t).drive.mode = .capstan → (s.tr t).Unused → s.exchange.holder ≠ some t → s.exchange.waiting.get t = false →
      ∃ s', exec (.orderPointerWrite t v) s = .next s' ∧
        s.OnlyAt s' t ∧
        s'.store = s.store ∧
        s'.exchange = s.exchange ∧
        s'.arb.control = s.arb.control.set t none ∧
        s'.arb.data = s.arb.data ∧
        s'.arb.current = (s.arb.current.map fun y =>
          if y.1 = t ∧ dataKind y.2.kind = false then (y.1, { y.2 with orphan := true }) else y) ∧
        s'.tr t = Transport.refresh { s.tr t with
          port := { (s.tr t).port.toIdle with
            attention := (s.tr t).port.attention ||| (s.tr t).port.senseTaken }, mapOrder := .none,
          ctl := { (s.tr t).ctl with operation := .none, unloadEnding := true },
          drive := { (s.tr t).drive with
              phase := .decel, holdOver := none, pending := none, stopTarget := none, endedBy := .none } }) ∧
    (∀ (c : OrderCopy) (b : Bool), (s.tr t).port.stage ≠ .fetching → (s.tr t).port.copy = some c → (c.code = 6) → (s.tr t).Running → (s.tr t).xfer.order = .read b → (s.tr t).loc.order = .none → (s.tr t).chan.blankWatch.all (·.1 = .transfer) = true → s.exchange.holder ≠ some t → s.exchange.waiting.get t = false →
      ∃ s', exec (.orderPointerWrite t v) s = .next s' ∧
        s.OnlyAt s' t ∧
        s'.store = s.store ∧
        s'.exchange = s.exchange ∧
        s'.arb.control = s.arb.control.set t none ∧
        s'.arb.data = s.arb.data.set t none ∧
        s'.arb.current = (s.arb.current.map fun y => if y.1 = t then (y.1, { y.2 with orphan := true }) else y) ∧
        s'.tr t = Transport.refresh { s.tr t with
          port := { (s.tr t).port.toIdle with
            attention := (s.tr t).port.attention ||| (s.tr t).port.senseTaken }, mapOrder := .none,
          xfer := .idle, chan := { (s.tr t).chan with blankWatch := none, handOver := .off },
          ctl := { (s.tr t).ctl with
              state := .stopping, pump := true, permission := .stop, operation := .none, stopByClear := false },
          drive := { (s.tr t).drive with
              phase := .decel, stopKind := .controlled, holdOver := none, pending := none, stopTarget := none,
              shuttleTarget := none } }) ∧
    (∀ (c : OrderCopy) (k : Nat) (f : Formation), (s.tr t).port.stage ≠ .fetching → (s.tr t).port.copy = some c → (c.code = 7) → (s.tr t).Running → (s.tr t).xfer.order = .write k → (s.tr t).loc.order = .none → (s.tr t).chan.blankWatch = none → (s.tr t).chan.formation = some f → f.phase = .waiting → s.exchange.holder ≠ some t → s.exchange.waiting.get t = false →
      ∃ s', exec (.orderPointerWrite t v) s = .next s' ∧
        s.OnlyAt s' t ∧
        s'.store = s.store ∧
        s'.exchange = s.exchange ∧
        s'.arb.control = s.arb.control.set t none ∧
        s'.arb.data = s.arb.data.set t none ∧
        s'.arb.current = (s.arb.current.map fun y => if y.1 = t then (y.1, { y.2 with orphan := true }) else y) ∧
        s'.tr t = Transport.refresh { s.tr t with
          port := { (s.tr t).port.toIdle with
            attention := (s.tr t).port.attention ||| (s.tr t).port.senseTaken }, mapOrder := .none,
          xfer := .idle, chan := { (s.tr t).chan with formation := none, handOver := .off },
          ctl := { (s.tr t).ctl with
              state := .stopping, pump := true, permission := .stop, operation := .none, stopByClear := false },
          drive := { (s.tr t).drive with
              phase := .decel, stopKind := .controlled, holdOver := none, pending := none, stopTarget := none,
              shuttleTarget := none } }) ∧
    (∀ (c : OrderCopy), (s.tr t).port.stage ≠ .fetching → (s.tr t).port.copy = some c → (c.code = 16 ∨ c.code = 17 ∨ c.code = 18) → (s.tr t).Running → (s.tr t).xfer.order = .none → (s.tr t).loc.order ≠ .none → (s.tr t).chan.blankWatch.all (·.1 = .locate) = true → s.exchange.holder ≠ some t → s.exchange.waiting.get t = false →
      ∃ s', exec (.orderPointerWrite t v) s = .next s' ∧
        s.OnlyAt s' t ∧
        s'.store = s.store ∧
        s'.exchange = s.exchange ∧
        s'.arb.control = s.arb.control.set t none ∧
        s'.arb.data = s.arb.data ∧
        s'.arb.current = (s.arb.current.map fun y =>
          if y.1 = t ∧ dataKind y.2.kind = false then (y.1, { y.2 with orphan := true }) else y) ∧
        s'.tr t = Transport.refresh { s.tr t with
          port := { (s.tr t).port.toIdle with
            attention := (s.tr t).port.attention ||| (s.tr t).port.senseTaken }, mapOrder := .none,
          loc := .idle, chan := { (s.tr t).chan with blankWatch := none, mode := .decode },
          ctl := { (s.tr t).ctl with
              state := .stopping, pump := true, permission := .stop, operation := .none, stopByClear := false },
          drive := { (s.tr t).drive with
              phase := .decel, stopKind := .controlled, holdOver := none, pending := none, stopTarget := none,
              shuttleTarget := none } })

/-- R149, with R155, R156, R171 and R172 for what a burst carries. The moment at which a burst is formed and its bytes leave the FIFO is the model's choice (log 12), and so is the separate word of an ended record (log 65). -/
def Obligations.ArbiterGrants : Prop :=
    ∀ (s : State), s.powered = true → s.AllSettled → 
    (∀ (t : Tr) (x : BusTransfer), s.arb.current = none → s.arb.control.get t = some x → firstAfter (fun u => (s.arb.control.get u).isSome) s.arb.controlLast = some t →
      ∃ s', exec (.arbiterGrant) s = .next s' ∧
        s'.arb = { s.arb with control := s.arb.control.set t none, controlLast := t, current := some (t, x) } ∧
        s'.store = s.store ∧
        s'.exchange = s.exchange ∧
        s'.hostMemory = s.hostMemory ∧
        (∀ u, s'.tr u = (s.tr u).refresh)) ∧
    (∀ (t : Tr) (bs : List Byte), s.arb.current = none → s.arb.control = .all none → firstAfter (fun u => (s.arb.data.get u).isSome) s.arb.dataLast = some t → s.arb.data.get t = some .readBurst → (s.tr t).xfer.ends = [] → bs = (s.tr t).xfer.fifo.take
      (if (s.tr t).chan.handOver = .handing then min 16 ((s.tr t).xfer.fifo.length / 2 * 2) else 16) →
      ∃ s', exec (.arbiterGrant) s = .next s' ∧
        s'.arb = { s.arb with
          data := s.arb.data.set t none, dataLast := t,
          current := some (t,
            { kind := .readBurst, address := ((s.tr t).xfer.hostAddress) % 16777216,
              length := (wordsOfBytes bs).length, words := wordsOfBytes bs,
              sizes := (wordBytes bs).map (·.length), orphan := false }) } ∧
        s.OnlyAtEach s' t ∧
        s'.store = s.store ∧
        s'.exchange = s.exchange ∧
        s'.hostMemory = s.hostMemory ∧
        s'.tr t = Transport.refresh { s.tr t with xfer := { (s.tr t).xfer with fifo := (s.tr t).xfer.fifo.drop bs.length } }) ∧
    (∀ (t : Tr) (n : Nat) (rest : List Nat) (ws : List (List Byte)), s.arb.current = none → s.arb.control = .all none → firstAfter (fun u => (s.arb.data.get u).isSome) s.arb.dataLast = some t → s.arb.data.get t = some .readBurst → (s.tr t).xfer.ends = n :: rest → ws = (wordBytes ((s.tr t).xfer.fifo.take n) ++
      fifoWords (s.tr t).handing rest ((s.tr t).xfer.fifo.drop n)).take 8 →
      ∃ s', exec (.arbiterGrant) s = .next s' ∧
        s'.arb = { s.arb with
          data := s.arb.data.set t none, dataLast := t,
          current := some (t,
            { kind := .readBurst, address := ((s.tr t).xfer.hostAddress) % 16777216,
              length := (ws.flatMap wordsOfBytes).length, words := ws.flatMap wordsOfBytes,
              sizes := ws.map (·.length), orphan := false }) } ∧
        s.OnlyAtEach s' t ∧
        s'.store = s.store ∧
        s'.exchange = s.exchange ∧
        s'.hostMemory = s.hostMemory ∧
        s'.tr t = Transport.refresh { s.tr t with
          xfer := { (s.tr t).xfer with
            fifo := (s.tr t).xfer.fifo.drop ws.flatten.length, ends := dropEnds ws.flatten.length (n :: rest) } }) ∧
    (∀ (t : Tr), s.arb.current = none → s.arb.control = .all none → firstAfter (fun u => (s.arb.data.get u).isSome) s.arb.dataLast = some t → s.arb.data.get t = some .writeBurst →
      ∃ s', exec (.arbiterGrant) s = .next s' ∧
        s'.arb = { s.arb with
          data := s.arb.data.set t none, dataLast := t,
          current := some (t,
            { kind := .writeBurst, address := ((s.tr t).xfer.hostAddress) % 16777216,
              length := min 8 (((s.tr t).xfer.roomLeft + 1) / 2), words := [],
              sizes := [], orphan := false }) } ∧
        s'.store = s.store ∧
        s'.exchange = s.exchange ∧
        s'.hostMemory = s.hostMemory ∧
        (∀ u, s'.tr u = (s.tr u).refresh)) ∧
    (∀ (t : Tr) (c : OrderCopy), s.arb.current = none → s.arb.control = .all none → firstAfter (fun u => (s.arb.data.get u).isSome) s.arb.dataLast = some t → s.arb.data.get t = some .dumpBurst → (s.tr t).port.copy = some c →
      ∃ s', exec (.arbiterGrant) s = .next s' ∧
        s'.arb = { s.arb with
          data := s.arb.data.set t none, dataLast := t,
          current := some (t,
            { kind := .dumpBurst, address := (c.address + 2 * s.exchange.written) % 16777216,
              length := min 8 (s.exchange.table.length - s.exchange.written), words := (s.exchange.table.drop s.exchange.written).take 8,
              sizes := [], orphan := false }) } ∧
        s'.store = s.store ∧
        s'.exchange = s.exchange ∧
        s'.hostMemory = s.hostMemory ∧
        (∀ u, s'.tr u = (s.tr u).refresh)) ∧
    (∀ (t : Tr) (c : OrderCopy) (n k : Nat), s.arb.current = none → s.arb.control = .all none → firstAfter (fun u => (s.arb.data.get u).isSome) s.arb.dataLast = some t → s.arb.data.get t = some .loadBurst → (s.tr t).port.copy = some c → importStatus s.exchange.table c.opC = .more n k →
      ∃ s', exec (.arbiterGrant) s = .next s' ∧
        s'.arb = { s.arb with
          data := s.arb.data.set t none, dataLast := t,
          current := some (t,
            { kind := .loadBurst, address := (c.address + 2 * s.exchange.table.length) % 16777216,
              length := min (c.opC - s.exchange.table.length) (min 8 n), words := [],
              sizes := [], orphan := false }) } ∧
        s'.store = s.store ∧
        s'.exchange = s.exchange ∧
        s'.hostMemory = s.hostMemory ∧
        (∀ u, s'.tr u = (s.tr u).refresh)) ∧
    ((s.arb.current.isSome = true ∨ (s.arb.control = .all none ∧ s.arb.data = .all none)) →
      ∃ s', exec (.arbiterGrant) s = .next s' ∧
        s'.arb = s.arb ∧
        s'.store = s.store ∧
        s'.exchange = s.exchange ∧
        s'.hostMemory = s.hostMemory ∧
        (∀ u, s'.tr u = (s.tr u).refresh))

/-- R18, R138, R139, R141 and R142. -/
def Obligations.OrderFetched : Prop :=
    ∀ (s : State) (t : Tr) (x : BusTransfer) (ws : List Word), s.Reads t x .fetch ws → ws.length = 12 → 
    ((s.tr t).Working → 1 ≤ (copyOfWords ws).code → (copyOfWords ws).code ≤ 22 → ((copyOfWords ws).usesAddress = false ∨ (copyOfWords ws).address % 2 = 0) → s.admission t (copyOfWords ws).code = none →
      ∃ s', exec (.orderFetchComplete ws) s = .next s' ∧
        s.OnlyAtEach s' t ∧
        s'.store = s.store ∧
        s'.exchange = s.exchange ∧
        s'.hostMemory = s.hostMemory ∧
        s'.arb = { s.arb with current := none } ∧
        s'.tr t = Transport.refresh { s.tr t with
          port := { (s.tr t).port with copy := some (copyOfWords ws), stage := .dispatched } }) ∧
    ((s.tr t).Working → ((copyOfWords ws).usesAddress = false ∨ (copyOfWords ws).address % 2 = 0) → ((copyOfWords ws).code = 4 ∨ (copyOfWords ws).code = 5 ∨ (copyOfWords ws).code = 15 ∨ (copyOfWords ws).code = 19 ∨ (copyOfWords ws).code = 21 ∨ (copyOfWords ws).code = 22) →
      ∃ s', exec (.orderFetchComplete ws) s = .next s' ∧
        s.OnlyAtEach s' t ∧
        s'.store = s.store ∧
        s'.exchange = s.exchange ∧
        s'.hostMemory = s.hostMemory ∧
        s'.arb = { s.arb with current := none } ∧
        s'.tr t = Transport.refresh { s.tr t with
          port := { (s.tr t).port with copy := some (copyOfWords ws), stage := .dispatched } }) ∧
    ((s.tr t).Working → ((copyOfWords ws).usesAddress = false ∨ (copyOfWords ws).address % 2 = 0) → (s.tr t).ctl.online = true → s.power.pwarn.level = false → s.power.released.get t = true → (((copyOfWords ws).code = 1 ∧ ((s.tr t).ctl.state = .ready ∨ ((s.tr t).ctl.state = .unloaded ∧ (s.tr t).sense.tapePresent.level = true))) ∨
        ((copyOfWords ws).code = 3 ∧ (s.tr t).ctl.state ≠ .threading ∧ (s.tr t).ctl.state ≠ .seekingLoadPoint ∧ (s.tr t).ctl.state ≠ .unloading ∧ (s.tr t).ctl.state ≠ .powerHeld) ∨
        (((copyOfWords ws).code = 2 ∨ (copyOfWords ws).code = 6 ∨ (copyOfWords ws).code = 7 ∨ (copyOfWords ws).code = 8 ∨ (copyOfWords ws).code = 9 ∨ (copyOfWords ws).code = 10 ∨ (copyOfWords ws).code = 11 ∨ (copyOfWords ws).code = 16 ∨ (copyOfWords ws).code = 17 ∨ (copyOfWords ws).code = 18) ∧ ((s.tr t).ctl.state = .ready ∨ (s.tr t).ctl.state = .inMotion)) ∨
        (copyOfWords ws).code = 12 ∨ (copyOfWords ws).code = 13 ∨ (copyOfWords ws).code = 14 ∨ (copyOfWords ws).code = 20) →
      ∃ s', exec (.orderFetchComplete ws) s = .next s' ∧
        s.OnlyAtEach s' t ∧
        s'.store = s.store ∧
        s'.exchange = s.exchange ∧
        s'.hostMemory = s.hostMemory ∧
        s'.arb = { s.arb with current := none } ∧
        s'.tr t = Transport.refresh { s.tr t with
          port := { (s.tr t).port with copy := some (copyOfWords ws), stage := .dispatched } }) ∧
    ((s.tr t).Working → ((copyOfWords ws).code = 0 ∨ 22 < (copyOfWords ws).code) →
      ∃ s', exec (.orderFetchComplete ws) s = .next s' ∧
        s.OnlyAtEach s' t ∧
        s'.store = s.store ∧
        s'.exchange = s.exchange ∧
        s'.arb.current = none ∧
        s'.hostMemory = s.hostMemory ∧
        s.Terminates s' t .illegalOrder 0 0 (s.tr t).port.indicators) ∧
    ((s.tr t).Working → 1 ≤ (copyOfWords ws).code → (copyOfWords ws).code ≤ 22 → (copyOfWords ws).usesAddress = true → (copyOfWords ws).address % 2 = 1 →
      ∃ s', exec (.orderFetchComplete ws) s = .next s' ∧
        s.OnlyAtEach s' t ∧
        s'.store = s.store ∧
        s'.exchange = s.exchange ∧
        s'.arb.current = none ∧
        s'.hostMemory = s.hostMemory ∧
        s.Terminates s' t .parameter 0 0 (s.tr t).port.indicators) ∧
    ((s.tr t).Working → 1 ≤ (copyOfWords ws).code → (copyOfWords ws).code ≤ 22 → ((copyOfWords ws).usesAddress = false ∨ (copyOfWords ws).address % 2 = 0) → (s.tr t).ctl.online = false → (copyOfWords ws).code ≠ 4 ∧ (copyOfWords ws).code ≠ 5 ∧ (copyOfWords ws).code ≠ 15 ∧ (copyOfWords ws).code ≠ 19 ∧ (copyOfWords ws).code ≠ 21 ∧ (copyOfWords ws).code ≠ 22 →
      ∃ s', exec (.orderFetchComplete ws) s = .next s' ∧
        s.OnlyAtEach s' t ∧
        s'.store = s.store ∧
        s'.exchange = s.exchange ∧
        s'.arb.current = none ∧
        s'.hostMemory = s.hostMemory ∧
        s.Terminates s' t .notReady 0 0 (s.tr t).port.indicators) ∧
    ((s.tr t).Working → ((copyOfWords ws).usesAddress = false ∨ (copyOfWords ws).address % 2 = 0) → (s.tr t).ctl.online = true → (s.power.pwarn.level = true ∨ s.power.released.get t = false) → ((copyOfWords ws).code = 1 ∨ (copyOfWords ws).code = 2 ∨ (copyOfWords ws).code = 3 ∨ (copyOfWords ws).code = 6 ∨ (copyOfWords ws).code = 7 ∨ (copyOfWords ws).code = 8 ∨ (copyOfWords ws).code = 9 ∨ (copyOfWords ws).code = 10 ∨ (copyOfWords ws).code = 11 ∨ (copyOfWords ws).code = 16 ∨ (copyOfWords ws).code = 17 ∨ (copyOfWords ws).code = 18) →
      ∃ s', exec (.orderFetchComplete ws) s = .next s' ∧
        s.OnlyAtEach s' t ∧
        s'.store = s.store ∧
        s'.exchange = s.exchange ∧
        s'.arb.current = none ∧
        s'.hostMemory = s.hostMemory ∧
        s.Terminates s' t .powerStop 0 0 (s.tr t).port.indicators) ∧
    ((s.tr t).Working → ((copyOfWords ws).usesAddress = false ∨ (copyOfWords ws).address % 2 = 0) → (s.tr t).ctl.online = true → s.power.pwarn.level = false → s.power.released.get t = true → (((copyOfWords ws).code = 1 ∧ (s.tr t).ctl.state ≠ .ready ∧ (s.tr t).ctl.state ≠ .powerHeld ∧ ((s.tr t).ctl.state = .unloaded → (s.tr t).sense.tapePresent.level = false)) ∨
        ((copyOfWords ws).code = 3 ∧ ((s.tr t).ctl.state = .threading ∨ (s.tr t).ctl.state = .seekingLoadPoint ∨ (s.tr t).ctl.state = .unloading)) ∨
        (((copyOfWords ws).code = 2 ∨ (copyOfWords ws).code = 6 ∨ (copyOfWords ws).code = 7 ∨ (copyOfWords ws).code = 8 ∨ (copyOfWords ws).code = 9 ∨ (copyOfWords ws).code = 10 ∨ (copyOfWords ws).code = 11 ∨ (copyOfWords ws).code = 16 ∨ (copyOfWords ws).code = 17 ∨ (copyOfWords ws).code = 18) ∧ (s.tr t).ctl.state ≠ .ready ∧ (s.tr t).ctl.state ≠ .inMotion ∧ (s.tr t).ctl.state ≠ .powerHeld)) →
      ∃ s', exec (.orderFetchComplete ws) s = .next s' ∧
        s.OnlyAtEach s' t ∧
        s'.store = s.store ∧
        s'.exchange = s.exchange ∧
        s'.arb.current = none ∧
        s'.hostMemory = s.hostMemory ∧
        s.Terminates s' t .notReady 0 0 (s.tr t).port.indicators) ∧
    ((s.tr t).port.pointer = .inFlight → (s.tr t).port.held = none → (s.tr t).port.stopNotice = false → (s.tr t).ctl.offlinePending = false → (s.tr t).ctl.stopUnderWay = true → ((copyOfWords ws).usesAddress = false ∨ (copyOfWords ws).address % 2 = 0) → (s.tr t).ctl.online = true → s.power.pwarn.level = false → s.power.released.get t = true → ((copyOfWords ws).code = 1 ∨ (copyOfWords ws).code = 2 ∨ (copyOfWords ws).code = 3 ∨ (copyOfWords ws).code = 6 ∨ (copyOfWords ws).code = 7 ∨ (copyOfWords ws).code = 8 ∨ (copyOfWords ws).code = 9 ∨ (copyOfWords ws).code = 10 ∨ (copyOfWords ws).code = 11 ∨ (copyOfWords ws).code = 16 ∨ (copyOfWords ws).code = 17 ∨ (copyOfWords ws).code = 18) →
      ∃ s', exec (.orderFetchComplete ws) s = .next s' ∧
        s.OnlyAtEach s' t ∧
        s'.store = s.store ∧
        s'.exchange = s.exchange ∧
        s'.arb.current = none ∧
        s'.hostMemory = s.hostMemory ∧
        s.Terminates s' t .notReady 0 0 (s.tr t).port.indicators)

/-- R142, R145 and R150 for a termination. -/
def Obligations.TerminationWritten : Prop :=
    ∀ (s : State) (t : Tr) (x : BusTransfer), s.Writes t x .termination → (s.tr t).port.pointer = .terminating → (s.tr t).port.faultAfter = false → 
    (
      ∃ s', exec (.terminationWriteComplete) s = .next s' ∧
        s.OnlyAtEach s' t ∧
        s'.store = s.store ∧
        s'.exchange = s.exchange ∧
        s'.arb = { s.arb with current := none } ∧
        s'.hostMemory = memWriteWords s.hostMemory x.address x.words ∧
        s'.intr = true ∧
        s'.tr t = Transport.refresh { s.tr t with port := { (s.tr t).port with pointer := .completePending, terminationLost := false } }) ∧
    (∀ (done : Nat), done < x.length →
      ∃ s', exec (.busTimeout done []) s = .next s' ∧
        s.OnlyAtEach s' t ∧
        s'.store = s.store ∧
        s'.exchange = s.exchange ∧
        s'.arb = { s.arb with current := none } ∧
        s'.hostMemory = memWriteWords s.hostMemory x.address (x.words.take done) ∧
        s'.intr = true ∧
        s'.tr t = Transport.refresh { s.tr t with port := { (s.tr t).port with pointer := .completePending, terminationLost := true } })

/-- R138, R150 with R56 and R89. -/
def Obligations.FetchTimeout : Prop :=
    ∀ (s : State) (t : Tr) (x : BusTransfer) (ws : List Word), (s.Transfers t x .fetch ∨ s.Transfers t x .profile ∨ s.Transfers t x .detector) → x.words = [] → ws.length < x.length → (s.tr t).Working → 
    (
      ∃ s', exec (.busTimeout ws.length ws) s = .next s' ∧
        s.OnlyAtEach s' t ∧
        s'.store = s.store ∧
        s'.exchange = s.exchange ∧
        s'.arb.current = none ∧
        s'.hostMemory = s.hostMemory ∧
        s.Terminates s' t .busError 0 0 (if x.kind = .fetch then 0 else (s.tr t).port.indicators))

/-- The only fault of the model (log 7). -/
def Obligations.WrongWordCountStops : Prop :=
  ∀ (s : State) (t : Tr) (x : BusTransfer) (ws : List Word), s.arb.current = some (t, x) →
    (ws.length ≠ x.length →
      (x.kind = .fetch → exec (.orderFetchComplete ws) s = .fault .wordCount) ∧
      (x.kind = .profile → exec (.profileRecordRead ws) s = .fault .wordCount) ∧
      (x.kind = .detector → exec (.detectorRecordRead ws) s = .fault .wordCount) ∧
      (x.kind = .tagWords → exec (.tagWordsRead ws) s = .fault .wordCount) ∧
      (x.kind = .writeBurst → exec (.writeBurstComplete ws) s = .fault .wordCount) ∧
      (x.kind = .loadBurst → exec (.loadMapBurstComplete ws) s = .fault .wordCount)) ∧
    (∀ n, x.length ≤ n → exec (.busTimeout n ws) s = .fault .wordCount)

/-- R20 and R24. -/
def Obligations.LoadOrder : Prop :=
    ∀ (s : State) (t : Tr) (c : OrderCopy), s.Awaits t 1 c → 
    ((s.tr t).Unloaded → (s.tr t).sense.bothVacuum = false →
      ∃ s', exec (.load t) s = .next s' ∧
        s.Becomes s' t ((s.tr t).withTaken.threading .orderLoad (if c.modifier 8 then some c.tag else none) (c.modifier 9))) ∧
    ((s.tr t).ReadyStanding → (s.reel t).state ≠ .none → c.modifier 8 = true → (s.reel t).tag = some c.tag →
      ∃ s', exec (.load t) s = .next s' ∧
        s.OnlyAt s' t ∧
        s'.exchange = s.exchange ∧
        s.OnlyControl s' t ∧
        s'.reel t = { s.reel t with state := .active } ∧
        s'.store.poolFree = s.store.poolFree ∧
        s.Terminates s' t .normal 0 0 (s.tr t).port.indicators) ∧
    ((s.tr t).ReadyStanding → (s.reel t).state ≠ .none → (c.modifier 8 = false ∨ (s.reel t).tag ≠ some c.tag) → (s.reel t).entries.length ≤ 1024 →
      ∃ s', exec (.load t) s = .next s' ∧
        s.OnlyAt s' t ∧
        s'.exchange = s.exchange ∧
        s.OnlyControl s' t ∧
        s'.reel t =
          { state := .active, tag := if c.modifier 8 then some c.tag else none,
            volumeCheck := volumeCheckOf (if c.modifier 8 then some c.tag else none), eod := none,
            autoFile := c.modifier 9, entries := [] } ∧
        s'.store.poolFree = s.store.poolFree + (s.reel t).entries.length ∧
        s.Terminates s' t .normal (s.reel t).entries.length 0 ((s.tr t).port.indicators ||| 4#16)) ∧
    ((s.tr t).ReadyStanding → (s.reel t).state = .none → (s.reel t).entries = [] →
      ∃ s', exec (.load t) s = .next s' ∧
        s.OnlyAt s' t ∧
        s'.exchange = s.exchange ∧
        s.OnlyControl s' t ∧
        s'.reel t =
          { state := .active, tag := if c.modifier 8 then some c.tag else none,
            volumeCheck := volumeCheckOf (if c.modifier 8 then some c.tag else none), eod := none,
            autoFile := c.modifier 9, entries := [] } ∧
        s'.store.poolFree = s.store.poolFree ∧
        s.Terminates s' t .normal 0 0 (s.tr t).port.indicators)

/-- R26, R27, R47, R94 and R130 at the load point. The model's choices: the remainder of a quarter of V_rw is dropped (log 10), and the creep has no distance limit (log 79). -/
def Obligations.UnloadOrder : Prop :=
    ∀ (s : State) (t : Tr) (c : OrderCopy), s.Awaits t 2 c → (s.tr t).ReadyStanding → (s.tr t).Unused → (s.tr t).reck.atLoadPoint = true → 
    (
      ∃ s', exec (.unload t) s = .next s' ∧
        s.OnlyAt s' t ∧
        s'.exchange = s.exchange ∧
        s'.arb = s.arb ∧
        s'.reel t =
          (if (s.reel t).state ≠ .active then s.reel t
           else if c.modifier 8 then { s.reel t with state := .held } else .none) ∧
        s'.store.poolFree =
          s.store.poolFree + (if (s.reel t).state = .active ∧ c.modifier 8 = false then (s.reel t).entries.length else 0) ∧
        (s'.tr t).port = { (s.tr t).port with
          stage := .taken,
          indicators := if (s.reel t).state = .active ∧ c.modifier 8 = false ∧ (s.reel t).entries ≠ [] then
              (s.tr t).port.indicators ||| 4#16 else (s.tr t).port.indicators } ∧
        (s'.tr t).ctl = { (s.tr t).ctl with
          state := .unloading, permission := .creep, pump := true, operation := .orderUnload, keep := c.modifier 8,
          unloadEnding := false, timer := 600000000, retired := (s'.tr t).ctl.retired } ∧
        (s'.tr t).drive.phase = .accel ∧
        (s'.tr t).drive.dir = .backward ∧
        (s'.tr t).drive.targetSpeed = (s.tr t).drive.active.vRw / 4 ∧
        (s'.tr t).drive.stopTarget = none ∧
        (s'.tr t).reck = { (s.tr t).reck with lastBlock := none }.motionBegun .backward)

/-- R33, R45. -/
def Obligations.ClearFault : Prop :=
    ∀ (s : State) (t : Tr) (c : OrderCopy), s.Awaits t 3 c → (s.tr t).drive.Calm → (s.tr t).drive.creep = none → (s.tr t).ctl.stopUnderWay = false → (s.tr t).ctl.unloadEnding = false → (s.tr t).reck.mode = (s.tr t).drive.mode → (s.tr t).Unused → (s.tr t).ctl.state = .faulted → 
    (causePresent (s.tr t) = true →
      ∃ s', exec (.clearFault t) s = .next s' ∧
        s.OnlyAt s' t ∧
        s'.store = s.store ∧
        s'.exchange = s.exchange ∧
        s.OnlyControl s' t ∧
        (s'.tr t).ctl = (s.tr t).ctl ∧
        (s'.tr t).reck = (s.tr t).reck ∧
        s.Terminates s' t .faultPersists 0 0 (s.tr t).port.indicators) ∧
    ((s.tr t).Gripless → causePresent (s.tr t) = false → (s.tr t).sense.pathGood = true →
      ∃ s', exec (.clearFault t) s = .next s' ∧
        s.OnlyAt s' t ∧
        s'.store = s.store ∧
        s'.exchange = s.exchange ∧
        s.OnlyControl s' t ∧
        (s'.tr t).ctl = { (s.tr t).ctl with state := .ready, fault := .none, pump := true, permission := .full } ∧
        (s'.tr t).drive.supplyReleased = true ∧ (s'.tr t).drive.takeupReleased = true ∧ (s'.tr t).drive.phase = .stopped ∧
          (s'.tr t).drive.engaged = true ∧ (s'.tr t).drive.mode = .capstan ∧
        (s'.tr t).reck = (s.tr t).reck.setMode .capstan ∧
        s.Terminates s' t .normal 0 0 (s.tr t).port.indicators) ∧
    ((s.tr t).drive.mode = .capstan → (s.tr t).drive.engaged = true → causePresent (s.tr t) = false → (s.tr t).sense.pathGood = true →
      ∃ s', exec (.clearFault t) s = .next s' ∧
        s.OnlyAt s' t ∧
        s'.store = s.store ∧
        s'.exchange = s.exchange ∧
        s.OnlyControl s' t ∧
        (s'.tr t).ctl = { (s.tr t).ctl with state := .ready, fault := .none, pump := true, permission := .full } ∧
        (s'.tr t).drive.supplyReleased = true ∧ (s'.tr t).drive.takeupReleased = true ∧ (s'.tr t).drive.phase = .stopped ∧
          (s'.tr t).drive.engaged = true ∧ (s'.tr t).drive.mode = .capstan ∧
        (s'.tr t).reck = (s.tr t).reck ∧
        s.Terminates s' t .normal 0 0 (s.tr t).port.indicators) ∧
    (causePresent (s.tr t) = false → (s.tr t).sense.pathGood = false →
      ∃ s', exec (.clearFault t) s = .next s' ∧
        s.OnlyAt s' t ∧
        s'.exchange = s.exchange ∧
        s.OnlyControl s' t ∧
        s'.reel t = (if (s.reel t).state = .active then { s.reel t with state := .held } else s.reel t) ∧
        s'.store.poolFree = s.store.poolFree ∧
        (s'.tr t).ctl = { (s.tr t).ctl with state := .unloaded, fault := .none, pump := false, permission := .none } ∧
        (s'.tr t).drive.engaged = false ∧
        (s'.tr t).drive.mode = .halted ∧
        (s'.tr t).drive.supplyReleased = false ∧
        (s'.tr t).drive.takeupReleased = false ∧
        (s'.tr t).reck.anchor = .lost ∧
        (s'.tr t).reck.mode = .halted ∧
        s.Terminates s' t .normal 0 0 (s.tr t).port.indicators)

/-- R56, R89, R147. -/
def Obligations.RecordsRequested : Prop :=
    ∀ (s : State) (t : Tr) (c : OrderCopy), s.Settled t → 
    (s.Awaits t 4 c →
      ∃ s', exec (.setProfile t) s = .next s' ∧
        s.OnlyAt s' t ∧
        s'.store = s.store ∧
        s'.exchange = s.exchange ∧
        s.OnlyControl s' t ∧
        s'.tr t = (s.tr t).withTaken.refresh ∧
        s'.arb.control.get t = some
          { kind := .profile, address := c.address % 16777216, length := 14, words := [], sizes := [], orphan := false }) ∧
    (s.Awaits t 5 c →
      ∃ s', exec (.setDetector t) s = .next s' ∧
        s.OnlyAt s' t ∧
        s'.store = s.store ∧
        s'.exchange = s.exchange ∧
        s.OnlyControl s' t ∧
        s'.tr t = (s.tr t).withTaken.refresh ∧
        s'.arb.control.get t = some
          { kind := .detector, address := c.address % 16777216, length := 4, words := [], sizes := [], orphan := false }) ∧
    (s.Awaits t 21 c →
      ∃ s', exec (.sense t) s = .next s' ∧
        s.OnlyAt s' t ∧
        s'.store = s.store ∧
        s'.exchange = s.exchange ∧
        s.OnlyControl s' t ∧
        s'.tr t = Transport.refresh { s.tr t with
          port := { (s.tr t).port with stage := .taken, attention := 0, senseTaken := (s.tr t).port.attention } } ∧
        s'.arb.control.get t = some
          { kind := .senseRecord, address := c.address % 16777216, length := 16,
            words := senseRecord (s.tr t).withTaken (s.reel t) s.store.poolFree, sizes := [], orphan := false })

/-- R74, R147 and the table of 8.8. That the fields of an absent EOD and of an absent tag hold 0 is the model's choice (log 73), and so is
that bit 15 of word 0 and bits 15, 11 and 7 to 5 of word 1, which 8.8 gives to no field, are clear (log 100). -/
def Obligations.SenseRecordWords : Prop :=
  ∀ (x : Transport) (r : ReelRecord) (n : Nat),
    (senseRecord x r n).length = 16 ∧
    ((senseRecord x r n).getD 0 0).toNat % 16 = stateCode x.ctl.state ∧
    ((senseRecord x r n).getD 0 0).toNat / 16 % 8 = faultCode x.ctl.fault ∧
    ((senseRecord x r n).getD 0 0).getLsbD 7 = x.ctl.online ∧
    ((senseRecord x r n).getD 0 0).toNat / 256 % 4 = anchorCode x.reck.anchor ∧
    ((senseRecord x r n).getD 0 0).getLsbD 10 = x.reck.nextKnown ∧
    ((senseRecord x r n).getD 0 0).getLsbD 11 = r.eod.isSome ∧
    ((senseRecord x r n).getD 0 0).toNat / 4096 % 4 = reelStateCode r.state ∧
    ((senseRecord x r n).getD 0 0).getLsbD 14 = r.tag.isSome ∧
    ((senseRecord x r n).getD 0 0).getLsbD 15 = false ∧
    ((senseRecord x r n).getD 1 0).getLsbD 4 = (x.port.attention &&& attentionBit .ready != 0) ∧ ((senseRecord x r n).getD 1 0).getLsbD 3 = (x.port.attention &&& attentionBit .notReady != 0) ∧
      ((senseRecord x r n).getD 1 0).getLsbD 2 = (x.port.attention &&& attentionBit .fault != 0) ∧ ((senseRecord x r n).getD 1 0).getLsbD 1 = (x.port.attention &&& attentionBit .power != 0) ∧
      ((senseRecord x r n).getD 1 0).getLsbD 0 = (x.port.attention &&& attentionBit .protocol != 0) ∧
    ((senseRecord x r n).getD 1 0).toNat / 256 % 8 = x.reck.supplyPitch / 65536 % 8 ∧
    ((senseRecord x r n).getD 1 0).toNat / 4096 % 8 = x.reck.takeupPitch / 65536 % 8 ∧
    (((senseRecord x r n).getD 1 0).toNat / 32 % 8 = 0 ∧ ((senseRecord x r n).getD 1 0).toNat / 2048 % 2 = 0 ∧ ((senseRecord x r n).getD 1 0).toNat / 32768 = 0) ∧
    ((senseRecord x r n).getD 2 0) = BitVec.ofNat 16 (if x.reck.anchor = .drifted then x.reck.bound.getD 0 else 0) ∧
    ((senseRecord x r n).getD 3 0) ++ ((senseRecord x r n).getD 4 0) = BitVec.ofInt 32 (if x.reck.anchor = .lost then 0 else x.reck.position) ∧
    ((senseRecord x r n).getD 5 0).toNat / 256 = (if x.reck.nextKnown then x.reck.nextBlock else 0) / 65536 % 256 ∧
    ((senseRecord x r n).getD 6 0) = BitVec.ofNat 16 (if x.reck.nextKnown then x.reck.nextBlock else 0) ∧
    ((senseRecord x r n).getD 5 0).toNat % 256 = r.eod.getD 0 / 65536 % 256 ∧
    ((senseRecord x r n).getD 7 0) = BitVec.ofNat 16 (r.eod.getD 0) ∧
    ((senseRecord x r n).getD 8 0) = BitVec.ofNat 16 (if x.reck.nextKnown then x.reck.fileNumber else 0) ∧
    ((senseRecord x r n).getD 9 0) ++ ((senseRecord x r n).getD 10 0) ++ ((senseRecord x r n).getD 11 0) = r.tag.getD 0 ∧
    ((senseRecord x r n).getD 12 0) = BitVec.ofNat 16 r.entries.length ∧
    ((senseRecord x r n).getD 13 0) = BitVec.ofNat 16 n ∧
    ((senseRecord x r n).getD 14 0) = BitVec.ofNat 16 x.reck.supplyPitch ∧
    ((senseRecord x r n).getD 15 0) = BitVec.ofNat 16 x.reck.takeupPitch

/-- R48, R56, R57, R153. The creep speed of a wind drops the remainder of a quarter of V_rw: the model's choice (log 10). -/
def Obligations.ProfileApplied : Prop :=
    ∀ (s : State) (t : Tr) (x : BusTransfer) (ws : List Word), s.Reads t x .profile ws → ws.length = 14 → (s.tr t).Working → 
    ((s.tr t).drive.standstill = true →
      ∃ s', exec (.profileRecordRead ws) s = .next s' ∧
        s.OnlyAtEach s' t ∧
        s'.exchange = s.exchange ∧
        s'.arb.current = none ∧
        s'.store = s.store ∧
        s'.hostMemory = s.hostMemory ∧
        s'.tr t = Transport.refresh { s.tr t with
          port := { (s.tr t).port with pointer := .terminating, indicators := (if profileAdjust (profileFormed ws (s.tr t).drive.replaced) = profileFormed ws (s.tr t).drive.replaced then (s.tr t).port.indicators
             else (s.tr t).port.indicators ||| 16#16), result := (s'.tr t).port.result },
          drive := { (s.tr t).drive with
            active := profileAdjust (profileFormed ws (s.tr t).drive.replaced), staged := none,
            windSpeed := if (s.tr t).drive.mode = .unthread ∧ (s.tr t).drive.windStopping = false then
                (profileAdjust (profileFormed ws (s.tr t).drive.replaced)).vRw / 4 else (s.tr t).drive.windSpeed,
            windRem := if (s.tr t).drive.mode = .unthread ∧ (s.tr t).drive.windStopping = false then 0
              else (s.tr t).drive.windRem } } ∧
        s.Terminates s' t .normal 0 0
          (if profileAdjust (profileFormed ws (s.tr t).drive.replaced) = profileFormed ws (s.tr t).drive.replaced then (s.tr t).port.indicators
             else (s.tr t).port.indicators ||| 16#16)) ∧
    ((s.tr t).drive.standstill = false →
      ∃ s', exec (.profileRecordRead ws) s = .next s' ∧
        s.OnlyAtEach s' t ∧
        s'.exchange = s.exchange ∧
        s'.arb.current = none ∧
        s'.store = s.store ∧
        s'.hostMemory = s.hostMemory ∧
        s'.tr t = Transport.refresh { s.tr t with
          port := { (s.tr t).port with pointer := .terminating, indicators := (if profileAdjust (profileFormed ws (s.tr t).drive.replaced) = profileFormed ws (s.tr t).drive.replaced then (s.tr t).port.indicators
             else (s.tr t).port.indicators ||| 16#16), result := (s'.tr t).port.result },
          drive := { (s.tr t).drive with
            staged := some (profileAdjust (profileFormed ws (s.tr t).drive.replaced)) } } ∧
        s.Terminates s' t .normal 0 0
          (if profileAdjust (profileFormed ws (s.tr t).drive.replaced) = profileFormed ws (s.tr t).drive.replaced then (s.tr t).port.indicators
             else (s.tr t).port.indicators ||| 16#16))

/-- R89 and R90. -/
def Obligations.DetectorApplied : Prop :=
    ∀ (s : State) (t : Tr) (x : BusTransfer) (ws : List Word), s.Reads t x .detector ws → ws.length = 4 → (s.tr t).Working → 
    (settingsInRange (settingsOfWords ws) = true →
      ∃ s', exec (.detectorRecordRead ws) s = .next s' ∧
        s.OnlyAtEach s' t ∧
        s'.exchange = s.exchange ∧
        s'.arb.current = none ∧
        s'.store = s.store ∧
        s'.hostMemory = s.hostMemory ∧
        s'.tr t = Transport.refresh { s.tr t with
          port := { (s.tr t).port with pointer := .terminating, indicators := (s.tr t).port.indicators, result := (s'.tr t).port.result },
          chan := if (s.tr t).chan.phase = .hunt then
              { (s.tr t).chan with settings := settingsOfWords ws, pendingSettings := none }
            else { (s.tr t).chan with pendingSettings := some (settingsOfWords ws) } } ∧
        s.Terminates s' t .normal 0 0 (s.tr t).port.indicators) ∧
    (settingsInRange (settingsOfWords ws) = false →
      ∃ s', exec (.detectorRecordRead ws) s = .next s' ∧
        s.OnlyAtEach s' t ∧
        s'.exchange = s.exchange ∧
        s'.arb.current = none ∧
        s'.store = s.store ∧
        s'.hostMemory = s.hostMemory ∧
        s'.tr t = Transport.refresh { s.tr t with
          port := { (s.tr t).port with pointer := .terminating, indicators := (s.tr t).port.indicators, result := (s'.tr t).port.result } } ∧
        s.Terminates s' t .parameter 0 0 (s.tr t).port.indicators)

/-- R148 whole. -/
def Obligations.NoticeMask : Prop :=
    ∀ (s : State) (t : Tr) (c : OrderCopy), s.Waits t 22 c → s.Settled t → 
    (c.opA < 32 →
      ∃ s', exec (.setNoticeMask t) s = .next s' ∧
        s.OnlyAt s' t ∧
        s'.store = s.store ∧
        s'.exchange = s.exchange ∧
        s.OnlyControl s' t ∧
        s'.tr t = Transport.refresh { s.tr t with
          port := { (s.tr t).port with
            noticeMask := c.w1.setWidth 5, stage := .taken, pointer := .terminating, result := (s'.tr t).port.result } } ∧
        s'.intr = intrOf s'.trs ∧
        s.Terminates s' t .normal 0 ((s.tr t).port.noticeMask.setWidth 32) (s.tr t).port.indicators) ∧
    (32 ≤ c.opA →
      ∃ s', exec (.setNoticeMask t) s = .next s' ∧
        s.OnlyAt s' t ∧
        s'.store = s.store ∧
        s'.exchange = s.exchange ∧
        s.OnlyControl s' t ∧
        s'.tr t = Transport.refresh { s.tr t with
          port := { (s.tr t).port with stage := .taken, pointer := .terminating, result := (s'.tr t).port.result } } ∧
        s'.intr = intrOf s'.trs ∧
        s.Terminates s' t .parameter 0 0 (s.tr t).port.indicators)

/-- R21, R23, R27, R30, R35 and R143. The model's choices: what the Order Port does at a failing load (log 14), FAULT raised at once while the pointer is TERMINATING (log 30), and operation none at the beginning of a stop in UNLOADING (log 55). -/
def Obligations.PhaseTimeouts : Prop :=
    ∀ (s : State) (t : Tr), s.powered = true → (s.tr t).ctl.stopUnderWay = false → (s.tr t).Unused → 
    ((s.tr t).ctl.state = .threading → (s.tr t).drive.Calm → (s.tr t).drive.mode = .thread → (s.tr t).reck.mode = .thread → (s.tr t).ctl.operation = .panelLoad → (s.tr t).port.held = none →
      ∃ s', exec (.loadPhaseTimeout t) s = .next s' ∧
        s.OnlyAt s' t ∧
        s.SameShared s' ∧
        (s'.tr t).ctl.state = .unloaded ∧ (s'.tr t).ctl.operation = .none ∧ (s'.tr t).ctl.stopUnderWay = false ∧
          (s'.tr t).ctl.pump = false ∧ (s'.tr t).ctl.permission = .none ∧ (s'.tr t).drive.engaged = false ∧
          (s'.tr t).drive.supplyReleased = false ∧ (s'.tr t).drive.takeupReleased = false ∧ (s'.tr t).reck.anchor = .lost ∧
        (s'.tr t).port = (s.tr t).port.stopTold) ∧
    ((s.tr t).ctl.state = .threading → (s.tr t).drive.Calm → (s.tr t).drive.mode = .thread → (s.tr t).reck.mode = .thread → (s.tr t).ctl.operation = .orderLoad → (s.tr t).Working →
      ∃ s', exec (.loadPhaseTimeout t) s = .next s' ∧
        s.OnlyAt s' t ∧
        s'.store = s.store ∧
        s'.exchange = s.exchange ∧
        s.OnlyControl s' t ∧
        (s'.tr t).ctl.state = .unloaded ∧ (s'.tr t).ctl.operation = .none ∧ (s'.tr t).ctl.stopUnderWay = false ∧
          (s'.tr t).ctl.pump = false ∧ (s'.tr t).ctl.permission = .none ∧ (s'.tr t).drive.engaged = false ∧
          (s'.tr t).drive.supplyReleased = false ∧ (s'.tr t).drive.takeupReleased = false ∧ (s'.tr t).reck.anchor = .lost ∧
        (s'.tr t).port.attention = (s.tr t).port.attention ∧
        s.Terminates s' t .loadFailed 0 0 (s.tr t).port.indicators) ∧
    ((s.tr t).ctl.state = .unloading → (s.tr t).ctl.unloadEnding = false → (s.tr t).drive.phase = .run → (s.tr t).drive.mode = .capstan → (s.tr t).drive.stopKind = .none →
      ∃ s', exec (.unloadPhaseTimeout t) s = .next s' ∧
        s.OnlyAt s' t ∧
        s.SameShared s' ∧
        s.EmergencyBegun s' t .tapePath)

/-- R37, R38, R41. That the target ends the motion where the forward limit lies at the same distance is the model's choice (log 56). -/
def Obligations.CapstanPhases : Prop :=
    ∀ (s : State) (t : Tr), s.powered = true → 
    ((s.tr t).drive.phase = .accel →
      ∃ s', exec (.capstanTargetSpeedReached t) s = .next s' ∧
        s.Becomes s' t { s.tr t with
          drive := { (s.tr t).drive with phase := .run, command := dirSign (s.tr t).drive.dir * (s.tr t).drive.targetSpeed, commandRem := 0 } }) ∧
    (∀ (d : Int), ((s.tr t).drive.phase = .accel ∨ (s.tr t).drive.phase = .run) → (s.tr t).drive.stopTarget = some d → d ≤ rampDistance (s.tr t).drive.command.natAbs (s.tr t).drive.active.aC → ((s.tr t).drive.dir = .backward ∨ d ≤ (s.tr t).reck.forwardLimit - (s.tr t).reck.position) →
      ∃ s', exec (.stopPointReached t) s = .next s' ∧
        s.Becomes s' t { s.tr t with drive := { (s.tr t).drive with phase := .decel, holdOver := none, endedBy := .target } }) ∧
    (((s.tr t).drive.phase = .accel ∨ (s.tr t).drive.phase = .run) → (s.tr t).drive.stopTarget = none → (s.tr t).drive.dir = .forward → (s.tr t).reck.forwardLimit - (s.tr t).reck.position ≤ rampDistance (s.tr t).drive.command.natAbs (s.tr t).drive.active.aC →
      ∃ s', exec (.stopPointReached t) s = .next s' ∧
        s.Becomes s' t { s.tr t with drive := { (s.tr t).drive with phase := .decel, holdOver := none, endedBy := .limit } }) ∧
    (((s.tr t).drive.phase = .accel ∨ (s.tr t).drive.phase = .run) → (s.tr t).drive.holdOver = some 0 →
      ∃ s', exec (.holdOverExpiry t) s = .next s' ∧
        s.Becomes s' t { s.tr t with drive := { (s.tr t).drive with phase := .decel, holdOver := none } })

/-- R28, R29, R31, R37, R45, R52 to R54, R57, R60, R61, R143, R168. That the stop target is absent at standstill (log 70), that the result bytes are counted at the standstill of a stop (log 99), and what of a record cut off they keep (log 78), are the model's choices. -/
def Obligations.CapstanStandstill : Prop :=
    ∀ (s : State) (t : Tr), s.powered = true → (s.tr t).drive.phase = .decel → (s.tr t).drive.shuttlePhase = .none → (s.tr t).drive.mode = .capstan → (s.tr t).drive.pending = none → (s.tr t).drive.engaged = true → 
    ((s.tr t).Unused → (s.tr t).drive.stopKind = .none → (s.tr t).ctl.state = .inMotion → (s.tr t).ctl.stopUnderWay = false → pathGoodOf (s.tr t).sense = true →
      ∃ s', exec (.capstanStandstill t) s = .next s' ∧
        s.Becomes s' t { s.tr t with
          ctl := { (s.tr t).ctl with state := .ready, pump := true, permission := .full },
          reck := { (s.tr t).reck with moving := false },
          drive := { (s.tr t).drive with
            phase := .stopped, command := 0, commandRem := 0, stopTarget := none, holdOver := none, endedBy := .none,
            creep := none, stopKind := .none, active := (s.tr t).drive.staged.getD (s.tr t).drive.active, staged := none,
            supplyReleased := true, takeupReleased := true } }) ∧
    ((s.tr t).Unused → (s.tr t).drive.stopKind = .controlled → (s.tr t).ctl.state = .stopping → (s.tr t).ctl.stopUnderWay = false → pathGoodOf (s.tr t).sense = true →
      ∃ s', exec (.capstanStandstill t) s = .next s' ∧
        s.Becomes s' t { s.tr t with
          ctl := { (s.tr t).ctl with state := .ready, pump := true, permission := .full, stopByClear := false },
          reck := { (s.tr t).reck with moving := false },
          port := { (s.tr t).port with
            attention := if (s.tr t).ctl.stopByClear = true ∧ (s.tr t).port.pointer ≠ .inFlight
              then (s.tr t).port.attention ||| 16#5 else (s.tr t).port.attention },
          drive := { (s.tr t).drive with
            phase := .stopped, command := 0, commandRem := 0, stopTarget := none, holdOver := none, endedBy := .none,
            creep := none, stopKind := .none, active := (s.tr t).drive.staged.getD (s.tr t).drive.active, staged := none,
            supplyReleased := true, takeupReleased := true } }) ∧
    ((s.tr t).Unused → (s.tr t).drive.stopKind = .power → (s.tr t).ctl.state = .powerHeld → (s.tr t).ctl.stopUnderWay = false → (s.tr t).ctl.unloadEnding = false → ((s.tr t).hasOrder 2 = false) → (s.power.pwarn.level = true ∨ s.power.released.get t = true) →
      ∃ s', exec (.capstanStandstill t) s = .next s' ∧
        s.Becomes s' t { s.tr t with
          reck := { (s.tr t).reck with moving := false },
          drive := { (s.tr t).drive with
            phase := .stopped, command := 0, commandRem := 0, stopTarget := none, holdOver := none, endedBy := .none,
            creep := none, stopKind := .none, active := (s.tr t).drive.staged.getD (s.tr t).drive.active, staged := none,
            supplyReleased := (s.tr t).drive.supplyReleased && (s.tr t).sense.loopIn .supply,
            takeupReleased := (s.tr t).drive.takeupReleased && (s.tr t).sense.loopIn .takeup } }) ∧
    ((s.tr t).Unused → (s.tr t).ctl.unloadEnding = false → ((s.tr t).hasOrder 2 = false) → (s.tr t).port.held = none → (s.tr t).ctl.stopUnderWay = true → (s.tr t).drive.stopKind = .emergency → ((s.tr t).ctl.state = .ready ∨ (s.tr t).ctl.state = .inMotion ∨ (s.tr t).ctl.state = .stopping) → (s.tr t).ctl.permission = .none →
      ∃ s', exec (.capstanStandstill t) s = .next s' ∧
        s.OnlyAt s' t ∧
        s'.exchange = s.exchange ∧
        s'.arb = s.arb ∧
        s'.reel t = (if (s.reel t).state = .active ∧ (s.tr t).sense.pathGood = false then { s.reel t with state := .held }
          else s.reel t) ∧
        s'.store.poolFree = s.store.poolFree ∧
        s'.tr t = Transport.refresh { s.tr t with
          ctl := { (s.tr t).ctl with state := .faulted, pump := true, permission := .none, stopUnderWay := false },
          reck := { (if (s.tr t).ctl.pathIntact then (s.tr t).reck else (s.tr t).reck.becomeLost) with moving := false },
          drive := { (s.tr t).drive with
            phase := .stopped, command := 0, commandRem := 0, stopTarget := none, holdOver := none, endedBy := .none,
            creep := none, stopKind := .none, active := (s.tr t).drive.staged.getD (s.tr t).drive.active, staged := none,
            supplyReleased := (s.tr t).drive.supplyReleased && (s.tr t).sense.loopIn .supply,
            takeupReleased := (s.tr t).drive.takeupReleased && (s.tr t).sense.loopIn .takeup } }) ∧
    (∀ (r : OrderResult), (s.tr t).Unused → (s.tr t).ctl.unloadEnding = false → (s.tr t).port.pointer = .inFlight → (s.tr t).port.held = some r → (s.tr t).port.stopNotice = true → (s.tr t).ctl.offlinePending = false → r.count ≤ 65535 → (s.tr t).ctl.stopUnderWay = true → (s.tr t).drive.stopKind = .emergency → ((s.tr t).ctl.state = .ready ∨ (s.tr t).ctl.state = .inMotion ∨ (s.tr t).ctl.state = .stopping) → (s.tr t).ctl.permission = .none →
      ∃ s', exec (.capstanStandstill t) s = .next s' ∧
        s.OnlyAt s' t ∧
        s'.exchange = s.exchange ∧
        s'.reel t = (if (s.reel t).state = .active ∧ (s.tr t).sense.pathGood = false then { s.reel t with state := .held }
          else s.reel t) ∧
        s'.store.poolFree = s.store.poolFree ∧
        s.OnlyControl s' t ∧
        s'.tr t = Transport.refresh { s.tr t with
          ctl := { (s.tr t).ctl with state := .faulted, pump := true, permission := .none, stopUnderWay := false },
          reck := { (if (s.tr t).ctl.pathIntact then (s.tr t).reck else (s.tr t).reck.becomeLost) with moving := false },
          port := { (s.tr t).port with
            pointer := .terminating, held := none, stopNotice := false, result := (s'.tr t).port.result },
          drive := { (s.tr t).drive with
            phase := .stopped, command := 0, commandRem := 0, stopTarget := none, holdOver := none, endedBy := .none,
            creep := none, stopKind := .none, active := (s.tr t).drive.staged.getD (s.tr t).drive.active, staged := none,
            supplyReleased := (s.tr t).drive.supplyReleased && (s.tr t).sense.loopIn .supply,
            takeupReleased := (s.tr t).drive.takeupReleased && (s.tr t).sense.loopIn .takeup } } ∧
        s.Terminates s' t (if r.condition = .illegalOrder ∨ r.condition = .parameter ∨ r.condition = .busError
            then r.condition else .faultStop) r.count r.value (s.tr t).port.indicators) ∧
    (∀ (nt : Bool) (c : Condition) (n : Nat), (s.tr t).loc = Locate.idle → (s.tr t).chan.formation = none → (s.tr t).xfer.quiet = true → n = (if (s.tr t).chan.handOver = .handing ∧ nt = false then (s.tr t).xfer.mark.2.1 else (s.tr t).xfer.resultBytes) → (s.tr t).drive.requester = .transfer → (s.tr t).xfer.order = .read nt → (s.tr t).xfer.phase = .ending → n ≤ 65535 → (s.tr t).ctl.unloadEnding = false → (s.tr t).port.pointer = .inFlight → (s.tr t).port.held = none → (s.tr t).ctl.offlinePending = false → ((s.tr t).port.copy.all (·.code = 6) = true) → (s.power.pwarn.level = true ∨ s.power.released.get t = true) → (((s.tr t).drive.stopKind = .emergency ∧ (s.tr t).ctl.stopUnderWay = true ∧ (s.tr t).ctl.state = .inMotion ∧
      (s.tr t).ctl.permission = .none ∧ (s.tr t).port.stopNotice = true ∧ c = .faultStop) ∨
      ((s.tr t).drive.stopKind = .power ∧ (s.tr t).ctl.stopUnderWay = false ∧ (s.tr t).ctl.state = .powerHeld ∧
      (s.tr t).port.stopNotice = false ∧ c = .powerStop)) →
      ∃ s', exec (.capstanStandstill t) s = .next s' ∧
        s.OnlyAt s' t ∧
        s'.exchange = s.exchange ∧
        s'.reel t = (if c = .faultStop ∧ (s.reel t).state = .active ∧ (s.tr t).sense.pathGood = false
          then { s.reel t with state := .held } else s.reel t) ∧
        s'.store.poolFree = s.store.poolFree ∧
        s'.tr t = Transport.refresh { s.tr t with
          ctl := if c = .faultStop then { (s.tr t).ctl with
              state := .faulted, pump := true, permission := .none, stopUnderWay := false } else (s.tr t).ctl,
          reck := { (if c = .powerStop ∨ (s.tr t).ctl.pathIntact then (s.tr t).reck else (s.tr t).reck.becomeLost) with
            moving := false },
          chan := (s'.tr t).chan, xfer := .idle,
          port := { (s.tr t).port with
            pointer := .terminating, held := none, stopNotice := false, result := (s'.tr t).port.result,
            indicators := (s.tr t).port.indicators ||| (s.tr t).xfer.own },
          drive := { (s.tr t).drive with
            phase := .stopped, command := 0, commandRem := 0, stopTarget := none, holdOver := none, endedBy := .none,
            creep := none, stopKind := .none, active := (s.tr t).drive.staged.getD (s.tr t).drive.active, staged := none,
            supplyReleased := (s.tr t).drive.supplyReleased && (s.tr t).sense.loopIn .supply,
            takeupReleased := (s.tr t).drive.takeupReleased && (s.tr t).sense.loopIn .takeup } } ∧
        (s'.tr t).chan.record = none ∧ (s'.tr t).chan.phase = .hunt ∧ (s'.tr t).chan.handOver = .off ∧
        s.Terminates s' t c n (signedLong (lastBlockStart (s'.tr t).reck))
          ((s.tr t).port.indicators ||| (s.tr t).xfer.own))

/-- R29, R37, R40, R50 to R52, R57, R60, R61, R65, R119 to R122, R130. That the distances are in whole steps (log 94), that the target ends a forward shuttle where the forward limit lies at the same distance (log 56), and that the shuttle target is absent after the shuttle (log 70), are the model's choices. -/
def Obligations.ShuttlePhases : Prop :=
    ∀ (s : State) (t : Tr), s.powered = true → 
    ((s.tr t).drive.shuttlePhase = .accel →
      ∃ s', exec (.shuttleLimitReached t) s = .next s' ∧
        s.Becomes s' t { s.tr t with
          drive := { (s.tr t).drive with
            shuttlePhase := .run, shuttleSpeed := shuttleLimit (s.tr t).drive.active (s.tr t).reck, shuttleRem := 0 } }) ∧
    (∀ (p : Int), ((s.tr t).drive.shuttlePhase = .accel ∨ (s.tr t).drive.shuttlePhase = .run) → (s.tr t).drive.dir = .backward → (s.tr t).drive.shuttleTarget = some p → (s.tr t).reck.position - p ≤ rampDistance (s.tr t).drive.shuttleSpeed (s.tr t).drive.active.aR →
      ∃ s', exec (.shuttleBrakePoint t) s = .next s' ∧
        s.Becomes s' t { s.tr t with drive := { (s.tr t).drive with shuttlePhase := .brake, endedBy := .target } }) ∧
    (∀ (p : Int), ((s.tr t).drive.shuttlePhase = .accel ∨ (s.tr t).drive.shuttlePhase = .run) → (s.tr t).drive.dir = .forward → (s.tr t).drive.shuttleTarget = some p → p - (s.tr t).reck.position ≤ rampDistance (s.tr t).drive.shuttleSpeed (s.tr t).drive.active.aR → p ≤ (s.tr t).reck.forwardLimit →
      ∃ s', exec (.shuttleBrakePoint t) s = .next s' ∧
        s.Becomes s' t { s.tr t with drive := { (s.tr t).drive with shuttlePhase := .brake, endedBy := .target } }) ∧
    (∀ (p : Int), ((s.tr t).drive.shuttlePhase = .accel ∨ (s.tr t).drive.shuttlePhase = .run) → (s.tr t).drive.dir = .forward → (s.tr t).drive.shuttleTarget = some p → (s.tr t).reck.forwardLimit - (s.tr t).reck.position ≤ rampDistance (s.tr t).drive.shuttleSpeed (s.tr t).drive.active.aR → (s.tr t).reck.forwardLimit < p →
      ∃ s', exec (.shuttleBrakePoint t) s = .next s' ∧
        s.Becomes s' t { s.tr t with drive := { (s.tr t).drive with shuttlePhase := .brake, endedBy := .limit } }) ∧
    ((s.tr t).drive.shuttlePhase = .brake → (s.tr t).drive.mode = .shuttle → (s.tr t).drive.pending = none → (s.tr t).reck.mode = .shuttle → (s.tr t).reck.anchor ≠ .lost → (s.tr t).reck.drift + 64 ≤ 20000 → (s.tr t).ctl.stopUnderWay = false → (s.tr t).sense.pathGood = true → pathGoodOf (s.tr t).sense = true → (s.tr t).Unused → (((s.tr t).drive.stopKind = .none ∧ (s.tr t).ctl.state = .inMotion) ∨
      ((s.tr t).drive.stopKind = .controlled ∧ (s.tr t).ctl.state = .stopping ∧ (s.tr t).ctl.stopByClear = false)) →
      ∃ s', exec (.shuttleEnd t) s = .next s' ∧
        s.OnlyAt s' t ∧
        s.SameShared s' ∧
        (s'.tr t).ctl = { (s.tr t).ctl with state := .ready, pump := true, permission := .full } ∧
        (s'.tr t).reck = { (s.tr t).reck.restartWindows none with
          anchor := .drifted, bound := some ((s.tr t).reck.drift + 64), mode := .capstan, moving := false } ∧
        (s'.tr t).drive.shuttlePhase = .none ∧
        (s'.tr t).drive.phase = .stopped ∧
        (s'.tr t).drive.mode = .capstan ∧
        (s'.tr t).drive.engaged = true ∧
        (s'.tr t).drive.shuttleTarget = none ∧
        (s'.tr t).drive.stopKind = .none ∧
        (s'.tr t).port = (s.tr t).port) ∧
    ((s.tr t).drive.shuttlePhase = .brake → (s.tr t).drive.mode = .shuttle → (s.tr t).drive.pending = none → (s.tr t).reck.mode = .shuttle → (s.tr t).reck.anchor ≠ .lost → (s.tr t).reck.drift + 64 ≤ 20000 → (s.tr t).ctl.stopUnderWay = false → (s.tr t).sense.pathGood = true → pathGoodOf (s.tr t).sense = true → (s.tr t).drive.stopKind = .none → (s.tr t).drive.phase = .stopped → (s.tr t).drive.requester = .locate → (s.tr t).drive.watched = some .takeup → (s.tr t).drive.endedBy ≠ .limit → (s.tr t).ctl.state = .inMotion → (s.tr t).ctl.permission = .full → (s.tr t).xfer = Transfer.idle → (s.tr t).chan.Quiet → (s.tr t).loc.failing = none → (s.tr t).loc.rewindOutcome = none → (s.tr t).loc.order ≠ .none → (s.tr t).loc.phase = .rewinding → (s.tr t).loc.leg = .shuttle → 0 ≤ (s.tr t).reck.position + ((s.tr t).reck.drift + 64 : Nat) → (s.tr t).reck.position ≤ 200000 →
      ∃ s', exec (.shuttleEnd t) s = .next s' ∧
        s.Becomes s' t { s.tr t with
          drive := { (s.tr t).drive with
            shuttlePhase := .none, shuttleSpeed := 0, shuttleRem := 0, shuttleTarget := none, engaged := true,
            mode := .capstan, phase := .accel, command := 0, commandRem := 0, dir := .backward,
            targetSpeed := ((s.tr t).drive.staged.getD (s.tr t).drive.active).vFs, stopTarget := some ((s.tr t).reck.position + ((s.tr t).reck.drift + 64 : Nat) + 2000),
            holdOver := none, endedBy := .none, creep := none, supplyReleased := true, takeupReleased := true,
            active := (s.tr t).drive.staged.getD (s.tr t).drive.active, staged := none },
          ctl := { (s.tr t).ctl with state := .inMotion, pump := true, permission := .full },
          reck := { (s.tr t).reck.restartWindows (some .backward) with
            anchor := .drifted, bound := some ((s.tr t).reck.drift + 64), mode := .capstan, moving := true },
          chan := { (s.tr t).chan with mode := .spacing },
          loc := { (s.tr t).loc with leg := .back, step := .moving } }) ∧
    (∀ (a : Int × Nat), (s.tr t).drive.shuttlePhase = .brake → (s.tr t).drive.mode = .shuttle → (s.tr t).drive.pending = none → (s.tr t).reck.mode = .shuttle → (s.tr t).reck.anchor ≠ .lost → (s.tr t).reck.drift + 64 ≤ 20000 → (s.tr t).ctl.stopUnderWay = false → (s.tr t).sense.pathGood = true → pathGoodOf (s.tr t).sense = true → (s.tr t).drive.stopKind = .none → (s.tr t).drive.phase = .stopped → (s.tr t).drive.requester = .locate → (s.tr t).drive.watched = some .takeup → (s.tr t).drive.endedBy ≠ .limit → (s.tr t).ctl.state = .inMotion → (s.tr t).ctl.permission = .full → (s.tr t).xfer = Transfer.idle → (s.tr t).chan.Quiet → (s.tr t).loc.failing = none → (s.tr t).loc.rewindOutcome = none → ((s.tr t).loc.order = .locateMark ∨ (s.tr t).loc.order = .locateBlock) → (s.tr t).loc.phase = .shuttle → (s.tr t).loc.aim = some a → (s.tr t).reck.position < ((s.tr t).loc.standOff - (4000 + ((s.tr t).reck.drift + 64 + a.2) : Nat)) → (s.tr t).loc.standOff - (s.tr t).reck.position ≤ 200000 →
      ∃ s', exec (.shuttleEnd t) s = .next s' ∧
        s.Becomes s' t { s.tr t with
          drive := { (s.tr t).drive with
            shuttlePhase := .none, shuttleSpeed := 0, shuttleRem := 0, shuttleTarget := none, engaged := true,
            mode := .capstan, phase := .accel, command := 0, commandRem := 0, dir := .forward,
            targetSpeed := ((s.tr t).drive.staged.getD (s.tr t).drive.active).vFs, stopTarget := some (((s.tr t).loc.standOff - (4000 + ((s.tr t).reck.drift + 64 + a.2) : Nat)) - (s.tr t).reck.position),
            holdOver := none, endedBy := .none, creep := none, supplyReleased := true, takeupReleased := true,
            active := (s.tr t).drive.staged.getD (s.tr t).drive.active, staged := none },
          ctl := { (s.tr t).ctl with state := .inMotion, pump := true, permission := .full },
          reck := { (s.tr t).reck.restartWindows (some .forward) with
            anchor := .drifted, bound := some ((s.tr t).reck.drift + 64), mode := .capstan, moving := true },
          chan := { (s.tr t).chan with mode := .spacing },
          loc := { (s.tr t).loc with
            phase := .fastSpace, leg := .none, step := .moving, beta := (s.tr t).reck.drift + 64 + a.2 } })

/-- R37, R48 and R57. That UNLOADED is entered while the wind still comes to rest (log 44), and that the stop target is absent at standstill (log 70), are the model's choices. -/
def Obligations.WindStopped : Prop :=
    ∀ (s : State) (t : Tr), s.powered = true → (s.tr t).ctl.state = .unloaded → (s.tr t).ctl.stopUnderWay = false → (s.tr t).drive.Calm → (s.tr t).drive.mode = .unthread → (s.tr t).drive.windStopping = true → (s.tr t).drive.takeupReleased = false → (s.tr t).reck.mode = .unthread → (s.tr t).Unused → 
    (
      ∃ s', exec (.unthreadWindStopped t) s = .next s' ∧
        s.Becomes s' t { s.tr t with
          reck := { (s.tr t).reck with mode := .halted, moving := false },
          drive := { (s.tr t).drive with
            windSpeed := 0, windRem := 0, windStopping := false, supplyReleased := false, mode := .halted,
            command := 0, commandRem := 0, stopTarget := none, holdOver := none, endedBy := .none, creep := none,
            active := (s.tr t).drive.staged.getD (s.tr t).drive.active, staged := none } })

/-- R69, R70, R72, R73, R76 to R78, R84, R97, R108 to R111, R113, R114, R158, R160 and R167. The model's choices: a noise burst is reported in LISTEN during an ERASE order too (log 82) and ends skip first (log 93), NO TRANSFER counts the record that ends it (log 39), BLANK TAPE takes the place of a condition already held (log 41), when a stamp agrees with the sequence (log 49), and STOP and RECORD END make the stop target absent (log 70). -/
def Obligations.DetectorReports : Prop :=
    ∀ (s : State) (t : Tr), s.powered = true → s.Settled t → 
    (∀ (r : RecordInProgress), (s.tr t).chan.phase = .qualify → (s.tr t).chan.record = some r → 20 ≤ r.qualify →
      ∃ s', exec (.recordQualified t) s = .next s' ∧
        s.Becomes s' t { s.tr t with chan := { (s.tr t).chan with phase := .inRecord } }) ∧
    (∀ (r : RecordInProgress), (s.tr t).chan.phase = .trail → (s.tr t).chan.record = some r → 60 ≤ r.low → (s.tr t).chan.activity = .listen → (s.tr t).chan.handOver ≠ .handing → r.length < 82 →
      ∃ s', exec (.recordEndDetected t) s = .next s' ∧
        s.Becomes s' t { s.tr t with
          chan := { (s.tr t).chan with phase := .hunt, record := none, settings := (s.tr t).chan.pendingSettings.getD (s.tr t).chan.settings, pendingSettings := none },
          xfer := { (s.tr t).xfer with skipFirst := false }, port := (s.tr t).port.raiseInd .noiseSeen }) ∧
    (∀ (r : RecordInProgress), (s.tr t).chan.phase = .trail → (s.tr t).chan.record = some r → 60 ≤ r.low → (s.tr t).chan.activity = .listen → 82 ≤ r.length → r.dir = .forward → (s.tr t).chan.handOver ≠ .handing → (s.tr t).xfer.phase = .idle → (s.tr t).loc.target = none → r.mode = .spacing → (s.tr t).reck.nextKnown = true → (s.tr t).reck.nextBlock < 16777215 → 1 ≤ (s.tr t).reck.fileNumber → (s.tr t).reck.fileNumber < 65535 →
      ∃ s', exec (.recordEndDetected t) s = .next s' ∧
        s.Becomes s' t { s.tr t with
          chan := { (s.tr t).chan with phase := .hunt, record := none, settings := (s.tr t).chan.pendingSettings.getD (s.tr t).chan.settings, pendingSettings := none },
          reck := { (s.tr t).reck with
            nextBlock := (s.tr t).reck.nextBlock + 1,
            fileNumber := (s.tr t).reck.fileNumber + (if r.length < 84 then 1 else 0),
            lastBlock := some
              { block := some (s.tr t).reck.nextBlock, start := r.start, length := r.length,
                kind := if r.length < 84 then .fileMark else .data, stamped := false,
                anchor := (s.tr t).reck.anchor, bound := (s.tr t).reck.bound.getD 0 } } }) ∧
    (∀ (r : RecordInProgress) (b f : Nat) (k : RecordKind), (s.tr t).chan.phase = .trail → (s.tr t).chan.record = some r → 60 ≤ r.low → (s.tr t).chan.activity = .listen → 82 ≤ r.length → r.dir = .forward → (s.tr t).chan.handOver ≠ .handing → (s.tr t).xfer.phase = .idle → (s.tr t).loc.target = none → r.stamp (s.reel t) = .decoded b f k → (s.reel t).state ≠ .active → b < 16777215 → 1 ≤ f → (if k = .fileMark then f + 1 else f) ≤ 65535 →
      ∃ s', exec (.recordEndDetected t) s = .next s' ∧
        s.Becomes s' t { s.tr t with
          chan := { (s.tr t).chan with phase := .hunt, record := none, settings := (s.tr t).chan.pendingSettings.getD (s.tr t).chan.settings, pendingSettings := none },
          reck := { (s.tr t).reck with
            nextBlock := b + 1, nextKnown := true,
            fileNumber := if k = .fileMark then f + 1 else f,
            lastBlock := some
              { block := some b, start := r.start, length := r.length, kind := k, stamped := true,
                anchor := (s.tr t).reck.anchor, bound := (s.tr t).reck.bound.getD 0 } },
          port := (s.tr t).port.raisedIf (!((s.tr t).reck.nextKnown && (s.tr t).reck.nextBlock = b && (s.tr t).reck.fileNumber = f)) .sequenceAdopted }) ∧
    (∀ (r : RecordInProgress) (b f : Nat) (e : Entry) (nb : Option Nat), (s.tr t).chan.phase = .trail → (s.tr t).chan.record = some r → 60 ≤ r.low → (s.tr t).chan.activity = .listen → 82 ≤ r.length → r.dir = .forward → (s.tr t).chan.handOver ≠ .handing → (s.tr t).xfer.phase = .idle → (s.tr t).loc.target = none → r.stamp (s.reel t) = .decoded b f .data → (s.reel t).state = .active → findBlock (s.reel t).entries b = some e → e.kind ≠ .file → 0 ≤ r.start → b < 16777215 → 1 ≤ f → f ≤ 65535 → (((s.tr t).reck.anchor = .anchored ∧ (e.bound ≠ none ∨ 40 < (r.start - e.position).natAbs) ∧ nb = none) ∨
      ((s.tr t).reck.anchor = .drifted ∧ e.bound.any ((s.tr t).reck.bound.getD 0 < ·) = true ∧ nb = some ((s.tr t).reck.bound.getD 0))) →
      ∃ s', exec (.recordEndDetected t) s = .next s' ∧
        s.OnlyAt s' t ∧
        s'.exchange = s.exchange ∧
        s'.arb = s.arb ∧
        s'.reel t = { s.reel t with
          entries :=
            (s.reel t).entries.filter (fun g => g.block < b ∧ g.position < r.start) ++
              { e with position := r.start, bound := nb } ::
                (s.reel t).entries.filter (fun g => b < g.block ∧ r.start < g.position) } ∧
        s'.store.poolFree = s.store.poolFree + (s.reel t).entries.length - (s'.reel t).entries.length ∧
        s'.tr t = Transport.refresh { s.tr t with
          chan := { (s.tr t).chan with phase := .hunt, record := none, settings := (s.tr t).chan.pendingSettings.getD (s.tr t).chan.settings, pendingSettings := none },
          reck := { (s.tr t).reck with
            nextBlock := b + 1, nextKnown := true,
            fileNumber := f,
            lastBlock := some
              { block := some b, start := r.start, length := r.length, kind := .data, stamped := true,
                anchor := (s.tr t).reck.anchor, bound := (s.tr t).reck.bound.getD 0 } },
          port := (((s.tr t).port.raisedIf (!((s.tr t).reck.nextKnown && (s.tr t).reck.nextBlock = b && (s.tr t).reck.fileNumber = f)) .sequenceAdopted).raisedIf
            (decide (placeRetires (s.reel t).entries { e with position := r.start, bound := nb } ≠ 0)) .mapChanged).raisedIf (decide (r.start ≠ e.position)) .markMoved }) ∧
    (∀ (r : RecordInProgress) (b f : Nat) (e : Entry), (s.tr t).chan.phase = .trail → (s.tr t).chan.record = some r → 60 ≤ r.low → (s.tr t).chan.activity = .listen → 82 ≤ r.length → r.dir = .forward → (s.tr t).chan.handOver ≠ .handing → (s.tr t).xfer.phase = .idle → (s.tr t).loc.target = none → r.stamp (s.reel t) = .decoded b f .data → (s.reel t).state = .active → findBlock (s.reel t).entries b = some e → e.kind ≠ .file → b < 16777215 → 1 ≤ f → f ≤ 65535 → (s.tr t).reck.anchor = .drifted → e.bound.getD 0 < (s.tr t).reck.bound.getD 0 → positionMin ≤ (s.tr t).reck.position + (e.position - r.start) → (s.tr t).reck.position + (e.position - r.start) ≤ positionMax →
      ∃ s', exec (.recordEndDetected t) s = .next s' ∧
        s.Becomes s' t { s.tr t with
          chan := { (s.tr t).chan with phase := .hunt, record := none, settings := (s.tr t).chan.pendingSettings.getD (s.tr t).chan.settings, pendingSettings := none },
          reck := { (s.tr t).reck with
            nextBlock := b + 1, nextKnown := true,
            fileNumber := f,
            position := (s.tr t).reck.position + (e.position - r.start),
            anchor := if e.bound.getD 0 = 0 then .anchored else .drifted, bound := some (e.bound.getD 0),
            eot := (s.tr t).reck.eot.map (· + (e.position - r.start)),
            lastBlock := some
              { block := some b, start := e.position, length := r.length, kind := .data, stamped := true,
                anchor := if e.bound.getD 0 = 0 then .anchored else .drifted, bound := e.bound.getD 0 } },
          port := (s.tr t).port.raisedIf (!((s.tr t).reck.nextKnown && (s.tr t).reck.nextBlock = b && (s.tr t).reck.fileNumber = f)) .sequenceAdopted }) ∧
    (∀ (r : RecordInProgress) (b f : Nat), (s.tr t).chan.phase = .trail → (s.tr t).chan.record = some r → 60 ≤ r.low → (s.tr t).chan.activity = .listen → 82 ≤ r.length → r.dir = .forward → (s.tr t).chan.handOver ≠ .handing → (s.tr t).xfer.phase = .idle → (s.tr t).loc.target = none → r.stamp (s.reel t) = .decoded b f .fileMark → (s.reel t).state = .active → (s.reel t).autoFile = true → findBlock (s.reel t).entries b = none → b < 16777215 → 1 ≤ f → (s.tr t).reck.anchor ≠ .lost → f ≤ 15535 → (b < (s.reel t).eod.getD 16777215) → 1 ≤ s.store.poolFree → (s.reel t).entries.length < 1024 → 0 ≤ r.start →
      ∃ s', exec (.recordEndDetected t) s = .next s' ∧
        s.OnlyAt s' t ∧
        s'.exchange = s.exchange ∧
        s'.arb = s.arb ∧
        (∃ n, s'.reel t = { s.reel t with
          entries :=
            (s.reel t).entries.filter (fun g => !(g.mark = 50000 + f && g.kind = .file) && g.block < b && g.position < r.start) ++
              { mark := 50000 + f, kind := .file, block := b, position := r.start, recordLength := 0,
                  bound := if (s.tr t).reck.anchor = .drifted then some ((s.tr t).reck.bound.getD 0) else none, tag := [], slot := n } ::
                (s.reel t).entries.filter (fun g => !(g.mark = 50000 + f && g.kind = .file) && b < g.block && r.start < g.position) }) ∧
        s'.store.poolFree + (s'.reel t).entries.length = s.store.poolFree + (s.reel t).entries.length ∧
        s'.tr t = Transport.refresh { s.tr t with
          chan := { (s.tr t).chan with phase := .hunt, record := none, settings := (s.tr t).chan.pendingSettings.getD (s.tr t).chan.settings, pendingSettings := none },
          reck := { (s.tr t).reck with
            nextBlock := b + 1, nextKnown := true,
            fileNumber := f + 1,
            lastBlock := some
              { block := some b, start := r.start, length := r.length, kind := .fileMark, stamped := true,
                anchor := (s.tr t).reck.anchor, bound := (s.tr t).reck.bound.getD 0 } },
          port := ((s.tr t).port.raisedIf (!((s.tr t).reck.nextKnown && (s.tr t).reck.nextBlock = b && (s.tr t).reck.fileNumber = f)) .sequenceAdopted).raisedIf
            (decide ((s'.reel t).entries.length ≠ (s.reel t).entries.length + 1)) .mapChanged }) ∧
    (∀ (r : RecordInProgress) (b f : Nat), (s.tr t).chan.phase = .trail → (s.tr t).chan.record = some r → 60 ≤ r.low → (s.tr t).chan.activity = .listen → 82 ≤ r.length → r.dir = .forward → (s.tr t).chan.handOver ≠ .handing → (s.tr t).xfer.phase = .idle → (s.tr t).loc.target = none → r.stamp (s.reel t) = .decoded b f .fileMark → (s.reel t).state = .active → (s.reel t).autoFile = true → findBlock (s.reel t).entries b = none → b < 16777215 → 1 ≤ f → f < 65535 → ((s.tr t).reck.anchor = .lost ∨ 15535 < f ∨ (s.reel t).eod.any (· ≤ b) = true) →
      ∃ s', exec (.recordEndDetected t) s = .next s' ∧
        s.Becomes s' t { s.tr t with
          chan := { (s.tr t).chan with phase := .hunt, record := none, settings := (s.tr t).chan.pendingSettings.getD (s.tr t).chan.settings, pendingSettings := none },
          reck := { (s.tr t).reck with
            nextBlock := b + 1, nextKnown := true,
            fileNumber := f + 1,
            lastBlock := some
              { block := some b, start := r.start, length := r.length, kind := .fileMark, stamped := true,
                anchor := (s.tr t).reck.anchor, bound := (s.tr t).reck.bound.getD 0 } },
          port := ((s.tr t).port.raisedIf (!((s.tr t).reck.nextKnown && (s.tr t).reck.nextBlock = b && (s.tr t).reck.fileNumber = f)) .sequenceAdopted).raiseInd .mapNotUpdated }) ∧
    (∀ (r : RecordInProgress) (nt : Bool) (j : Option Condition), (s.tr t).chan.phase = .trail → (s.tr t).chan.record = some r → 60 ≤ r.low → (s.tr t).chan.activity = .listen → 82 ≤ r.length → r.dir = .forward → (s.reel t).state ≠ .active → (s.tr t).loc.target = none → (s.tr t).chan.handOver = (if nt then .off else .handing) → (s.tr t).xfer.order = .read nt → (s.tr t).xfer.phase = .running → (s.tr t).xfer.skipFirst = false → (s.tr t).xfer.held = none → (s.tr t).xfer.quiet = false → 1 ≤ (s.tr t).drive.active.threshold → ((((r.passage (s.reel t)).decoded.map (·.2.2) = some .fileMark ∨
      ((r.passage (s.reel t)).decoded = none ∧ r.length < 84 ∧ (r.passage (s.reel t)).dataLength.getD 0 = 0)) ∧ j = some .fileMark) ∨
      (¬((r.passage (s.reel t)).decoded.map (·.2.2) = some .fileMark ∨
      ((r.passage (s.reel t)).decoded = none ∧ r.length < 84 ∧ (r.passage (s.reel t)).dataLength.getD 0 = 0)) ∧ r.check ≠ .good ∧ j = some .dataCheck) ∨ (¬((r.passage (s.reel t)).decoded.map (·.2.2) = some .fileMark ∨
      ((r.passage (s.reel t)).decoded = none ∧ r.length < 84 ∧ (r.passage (s.reel t)).dataLength.getD 0 = 0)) ∧ r.check = .good ∧ j = none)) → (s.tr t).drive.phase = .run → (s.tr t).drive.stopKind = .none → (s.tr t).drive.active.h ≠ 0 → (s.tr t).chan.blankWatch.all (·.1 = .transfer) = true → (j.isSome = true ∨ (s.tr t).xfer.recordsLeft ≤ 1 ∨ (nt = false ∧ (s.tr t).xfer.roomLeft = 0)) →
      ∃ s', exec (.recordEndDetected t) s = .next s' ∧
        s.OnlyAt s' t ∧
        s'.store = s.store ∧
        s'.exchange = s.exchange ∧
        s'.arb = (if nt = true ∨ (s.tr t).xfer.fifo = [] ∨ s.dataBusy t = true then s.arb
          else { s.arb with data := s.arb.data.set t (some .readBurst) }) ∧
        s'.tr t = Transport.refresh { s.tr t with
          chan := { (s.tr t).chan with phase := .hunt, record := none, settings := (s.tr t).chan.pendingSettings.getD (s.tr t).chan.settings, pendingSettings := none, blankWatch := none, handOver := .off },
          reck := ((s.tr t).reck.passage (r.passage (s.reel t))).1,
          drive := { (s.tr t).drive with holdOver := some (s.tr t).drive.active.h, stopTarget := none },
          xfer := { (s.tr t).xfer with
            phase := .draining, held := j,
            recordsLeft := if j = none then (s.tr t).xfer.recordsLeft - 1 else (s.tr t).xfer.recordsLeft,
            resultBytes := if nt then min 65535 ((s.tr t).xfer.resultBytes + (r.passage (s.reel t)).dataLength.getD 0) else (s.tr t).xfer.resultBytes,
            own := if j = none ∧ (r.passage (s.reel t)).stamp = .none .bad then (s.tr t).xfer.own ||| indicatorBit .unstamped else (s.tr t).xfer.own },
          port := ((s.tr t).port.raisedIf (decide ((r.passage (s.reel t)).stamp = .none .foreign)) .foreignStamp).raisedIf
            ((s.tr t).reck.passage (r.passage (s.reel t))).2 .sequenceAdopted }) ∧
    (∀ (r : RecordInProgress) (nt : Bool) (j : Option Condition), (s.tr t).chan.phase = .trail → (s.tr t).chan.record = some r → 60 ≤ r.low → (s.tr t).chan.activity = .listen → 82 ≤ r.length → r.dir = .forward → (s.reel t).state ≠ .active → (s.tr t).loc.target = none → (s.tr t).chan.handOver = (if nt then .off else .handing) → (s.tr t).xfer.order = .read nt → (s.tr t).xfer.phase = .running → (s.tr t).xfer.skipFirst = false → (s.tr t).xfer.held = none → (s.tr t).xfer.quiet = false → 1 ≤ (s.tr t).drive.active.threshold → ((((r.passage (s.reel t)).decoded.map (·.2.2) = some .fileMark ∨
      ((r.passage (s.reel t)).decoded = none ∧ r.length < 84 ∧ (r.passage (s.reel t)).dataLength.getD 0 = 0)) ∧ j = some .fileMark) ∨
      (¬((r.passage (s.reel t)).decoded.map (·.2.2) = some .fileMark ∨
      ((r.passage (s.reel t)).decoded = none ∧ r.length < 84 ∧ (r.passage (s.reel t)).dataLength.getD 0 = 0)) ∧ r.check ≠ .good ∧ j = some .dataCheck) ∨ (¬((r.passage (s.reel t)).decoded.map (·.2.2) = some .fileMark ∨
      ((r.passage (s.reel t)).decoded = none ∧ r.length < 84 ∧ (r.passage (s.reel t)).dataLength.getD 0 = 0)) ∧ r.check = .good ∧ j = none)) → j = none → 2 ≤ (s.tr t).xfer.recordsLeft → (nt = true ∨ (s.tr t).xfer.roomLeft ≠ 0) →
      ∃ s', exec (.recordEndDetected t) s = .next s' ∧
        s.OnlyAt s' t ∧
        s'.store = s.store ∧
        s'.exchange = s.exchange ∧
        s'.arb = (if nt = true ∨ (s.tr t).xfer.fifo = [] ∨ s.dataBusy t = true then s.arb
          else { s.arb with data := s.arb.data.set t (some .readBurst) }) ∧
        s'.tr t = Transport.refresh { s.tr t with
          chan := { (s.tr t).chan with phase := .hunt, record := none, settings := (s.tr t).chan.pendingSettings.getD (s.tr t).chan.settings, pendingSettings := none, handOver := if nt then .off else .asked },
          reck := ((s.tr t).reck.passage (r.passage (s.reel t))).1,
          xfer := { (s.tr t).xfer with
            recordsLeft := if j = none then (s.tr t).xfer.recordsLeft - 1 else (s.tr t).xfer.recordsLeft,
            resultBytes := if nt then min 65535 ((s.tr t).xfer.resultBytes + (r.passage (s.reel t)).dataLength.getD 0) else (s.tr t).xfer.resultBytes,
            own := if j = none ∧ (r.passage (s.reel t)).stamp = .none .bad then (s.tr t).xfer.own ||| indicatorBit .unstamped else (s.tr t).xfer.own },
          port := ((s.tr t).port.raisedIf (decide ((r.passage (s.reel t)).stamp = .none .foreign)) .foreignStamp).raisedIf
            ((s.tr t).reck.passage (r.passage (s.reel t))).2 .sequenceAdopted }) ∧
    (∀ (n : Nat), (s.tr t).chan.blankWatch = some (.transfer, n) → 60000 ≤ n → (s.tr t).xfer.phase = .running → (s.tr t).drive.phase = .run →
      ∃ s', exec (.blank t) s = .next s' ∧
        s.Becomes s' t { s.tr t with
          chan := { (s.tr t).chan with blankWatch := none }, xfer := { (s.tr t).xfer with phase := .ending, held := some .blankTape },
          drive := { (s.tr t).drive with phase := .decel, holdOver := none, stopTarget := none, endedBy := .none, requester := .transfer } })

/-- R41, R71, R72, R86, R88, R96, R97, R107, R113, R114, R165. That the step of FORMATION_START counts as the first preamble step is the model's choice (log 22), and so is that a record formed over a step without a write ring does not read back GOOD (log 37), that a sequence unknown at the report stays unknown (log 71), and that the report retires entries above the record (log 59). -/
def Obligations.WritingSteps : Prop :=
    ∀ (s : State) (t : Tr) (f : Formation), s.powered = true → s.Settled t → (s.tr t).chan.formation = some f → 
    ((s.tr t).chan.activity = .erasing → f.phase = .waiting → f.due = true →
      ∃ s', exec (.formationStart t) s = .next s' ∧
        s.Becomes s' t { s.tr t with
          chan := { (s.tr t).chan with
            activity := .forming, writeGate := true,
            formation := some { f with
              phase := .preamble, start := (s.tr t).reck.position, ambleSteps := 1, steps := 1, due := false,
              spoiled := !(s.tr t).sense.writeRing.level } } }) ∧
    (f.phase = .postamble → 40 ≤ f.ambleSteps →
      ∃ s', exec (.postambleComplete t) s = .next s' ∧
        s.Becomes s' t { s.tr t with
          chan := { (s.tr t).chan with
            activity := .erasing, writeGate := true, formation := some { f with phase := .after, ambleSteps := 0 } } }) ∧
    (∀ (n : Nat), f.phase = .after → 60 ≤ f.ambleSteps → f.fill = false → f.cut = false → (s.tr t).xfer.phase = .writing → (s.tr t).drive.phase = .run → (s.tr t).drive.stopKind = .none → 0 < (s.tr t).drive.active.h → (s.tr t).Working → (s.reel t).state = .active → f.kind = .data → f.file ≤ 65535 → (s.tr t).xfer.order = .write n → (s.tr t).xfer.resultBytes ≤ 65535 →
      ∃ s', exec (.writtenRecordReport t) s = .next s' ∧
        s.OnlyAt s' t ∧
        s'.exchange = s.exchange ∧
        s'.reel t = { s.reel t with
          entries := (s.reel t).entries.filter (·.block < f.block + 1), eod := some (f.block + 1) } ∧
        s'.store.poolFree + (s'.reel t).entries.length = s.store.poolFree + (s.reel t).entries.length ∧
        (s'.tr t).reck = { (s.tr t).reck with
          nextBlock := f.block + 1, fileNumber := f.file,
          lastBlock := some
            { block := some f.block, start := f.start, length := f.steps, kind := .data, stamped := true,
              anchor := (s.tr t).reck.anchor, bound := (s.tr t).reck.bound.getD 0 } } ∧
        (s'.tr t).drive.holdOver = some (s.tr t).drive.active.h ∧
        (s'.tr t).xfer = .idle ∧
        (s'.tr t).chan.formation = none ∧
        s.Terminates s' t (if f.readBack = .good then .normal else .writeCheck) (s.tr t).xfer.resultBytes
          (signedLong (if (s.tr t).reck.anchor = .lost then 0 else f.start)) ((if (s.reel t).entries.any (fun e => f.block + 1 ≤ e.block) then (s.tr t).port.indicators ||| 4#16 else (s.tr t).port.indicators) ||| (s.tr t).xfer.own)) ∧
    (f.phase = .after → 60 ≤ f.ambleSteps → f.fill = false → f.cut = false → (s.tr t).xfer.phase = .writing → (s.tr t).drive.phase = .run → (s.tr t).drive.stopKind = .none → 0 < (s.tr t).drive.active.h → (s.tr t).Working → (s.reel t).state = .active → f.kind = .fileMark → (s.tr t).xfer.order = .writeFileMark → (∀ g ∈ (s.reel t).entries, g.block < f.block) → (s.reel t).autoFile = true → f.file ≤ 15535 → f.block < 16777215 → f.readBack = .good → (s.tr t).reck.anchor ≠ .lost → 1 ≤ s.store.poolFree → (s.reel t).entries.length < 1024 → 0 ≤ f.start →
      ∃ s', exec (.writtenRecordReport t) s = .next s' ∧
        s.OnlyAt s' t ∧
        s'.exchange = s.exchange ∧
        (∃ n, s'.reel t = { s.reel t with
          entries :=
            (s.reel t).entries.filter (fun g => !(g.mark = 50000 + f.file && g.kind = .file) && g.position < f.start) ++
              [{ mark := 50000 + f.file, kind := .file, block := f.block, position := f.start, recordLength := 0,
                  bound := if (s.tr t).reck.anchor = .drifted then some ((s.tr t).reck.bound.getD 0) else none, tag := [], slot := n }],
          eod := some (f.block + 1) }) ∧
        s'.store.poolFree + (s'.reel t).entries.length = s.store.poolFree + (s.reel t).entries.length ∧
        (s'.tr t).reck = { (s.tr t).reck with
          nextBlock := f.block + 1, fileNumber := f.file + 1,
          lastBlock := some
            { block := some f.block, start := f.start, length := f.steps, kind := .fileMark, stamped := true,
              anchor := (s.tr t).reck.anchor, bound := (s.tr t).reck.bound.getD 0 } } ∧
        (s'.tr t).drive.holdOver = some (s.tr t).drive.active.h ∧
        (s'.tr t).xfer = .idle ∧
        (s'.tr t).chan.formation = none ∧
        s.Terminates s' t .normal 0
          (signedLong f.start) ((if (s'.reel t).entries.length ≠ (s.reel t).entries.length + 1 then (s.tr t).port.indicators ||| 4#16 else (s.tr t).port.indicators) ||| (s.tr t).xfer.own)) ∧
    (f.phase = .after → 60 ≤ f.ambleSteps → f.fill = false → f.cut = false → (s.tr t).xfer.phase = .writing → (s.tr t).drive.phase = .run → (s.tr t).drive.stopKind = .none → 0 < (s.tr t).drive.active.h → (s.tr t).Working → (s.reel t).state = .active → f.kind = .fileMark → (s.tr t).xfer.order = .writeFileMark → (∀ g ∈ (s.reel t).entries, g.block < f.block) → (s.reel t).autoFile = true → f.file < 65535 → (f.readBack ≠ .good ∨ (s.tr t).reck.anchor = .lost ∨ 15535 < f.file) →
      ∃ s', exec (.writtenRecordReport t) s = .next s' ∧
        s.OnlyAt s' t ∧
        s'.exchange = s.exchange ∧
        s'.reel t = { s.reel t with eod := some (f.block + 1) } ∧
        s'.store.poolFree = s.store.poolFree ∧
        (s'.tr t).reck = { (s.tr t).reck with
          nextBlock := f.block + 1, fileNumber := f.file + 1,
          lastBlock := some
            { block := some f.block, start := f.start, length := f.steps, kind := .fileMark, stamped := true,
              anchor := (s.tr t).reck.anchor, bound := (s.tr t).reck.bound.getD 0 } } ∧
        (s'.tr t).drive.holdOver = some (s.tr t).drive.active.h ∧
        (s'.tr t).xfer = .idle ∧
        (s'.tr t).chan.formation = none ∧
        s.Terminates s' t (if f.readBack = .good then .normal else .writeCheck) 0
          (signedLong (if (s.tr t).reck.anchor = .lost then 0 else f.start)) (((s.tr t).port.indicators ||| 8#16) ||| (s.tr t).xfer.own))

/-- R157 to R159, R167, R28, R40. -/
def Obligations.ReadAndSpaceStart : Prop :=
    ∀ (s : State) (t : Tr) (c : OrderCopy), (s.tr t).ReadyStanding → (s.tr t).Unused → 0 < (s.tr t).drive.active.threshold → 
    (s.Awaits t 6 c → (c.opC ≠ 0 ∨ c.modifier 8 = true) →
      ∃ s', exec (.read t) s = .next s' ∧
        s.Becomes s' t { (s.tr t).withTaken.started .transfer .forward (s.tr t).drive.active.vRw none with
          chan := { (s.tr t).chan with
            mode := .decode, blankWatch := some (.transfer, 0), handOver := if c.modifier 8 then .off else .asked },
          xfer := { Transfer.idle with
            order := .read (c.modifier 8), phase := .running, recordsLeft := max 1 c.opA, roomLeft := c.opC,
            hostAddress := c.address, mark := (c.opC, 0, c.address) } }) ∧
    (s.Awaits t 10 c → c.opA ≠ 0 →
      ∃ s', exec (.spaceForward t) s = .next s' ∧
        s.Becomes s' t { (s.tr t).withTaken.started .transfer .forward (if c.modifier 8 then (s.tr t).drive.active.vFs else (s.tr t).drive.active.vRw) none with
          chan := { (s.tr t).chan with mode := if c.modifier 8 then .spacing else .decode, blankWatch := some (.transfer, 0) },
          xfer := { Transfer.idle with
            order := .space .forward (c.modifier 8), phase := .running, recordsLeft := c.opA } }) ∧
    (s.Awaits t 11 c → c.opA ≠ 0 → (s.tr t).reck.atLoadPoint = false →
      ∃ s', exec (.spaceBackward t) s = .next s' ∧
        s.Becomes s' t { (s.tr t).withTaken.started .transfer .backward (if c.modifier 8 then (s.tr t).drive.active.vFs else (s.tr t).drive.active.vRw) none with
          chan := { (s.tr t).chan with mode := if c.modifier 8 then .spacing else .decode },
          xfer := { Transfer.idle with
            order := .space .backward (c.modifier 8), phase := .running, dir := .backward, recordsLeft := c.opA } })

/-- R85, R86, R93, R105, R106, R156 to R158, R162 and R166. -/
def Obligations.WritesStart : Prop :=
    ∀ (s : State) (t : Tr) (c : OrderCopy), (s.tr t).ReadyStanding → (s.tr t).Unused → (s.tr t).sense.writeRing.level = true → s.dataBusy t = false → 
    (s.Awaits t 7 c → 1 ≤ c.opC → (s.reel t).state = .active → (s.tr t).reck.nextKnown = true → (s.tr t).reck.nextBlock ≠ 16777215 →
      ∃ s', exec (.write t) s = .next s' ∧
        s.OnlyAt s' t ∧
        s'.exchange = s.exchange ∧
        s'.reel t = { s.reel t with
          entries := (s.reel t).entries.filter (·.block < (s.tr t).reck.nextBlock), eod := some (s.tr t).reck.nextBlock } ∧
        s'.store.poolFree + (s'.reel t).entries.length = s.store.poolFree + (s.reel t).entries.length ∧
        s'.arb = { s.arb with data := s.arb.data.set t (some .writeBurst) } ∧
        s'.tr t = Transport.refresh { (s.tr t).withTaken.started .transfer .forward (s.tr t).drive.active.vRw none with
          chan := { (s.tr t).chan with
            mode := .decode, activity := .erasing, writeGate := true, formation := some
              { block := (s.tr t).reck.nextBlock, file := (s.tr t).reck.fileNumber, kind := .data, volumeCheck := (s.reel t).volumeCheck,
                declared := c.opC, phase := .waiting, ambleSteps := 0, partBytes := 0, written := 0, sum := 0, bytes := [],
                start := 0, steps := 0, fill := false, cut := false, hostBytes := 0, readBacks := 0,
                readBackGood := false, due := false, spoiled := false } },
          xfer := { Transfer.idle with
            order := .write c.opC, phase := .writing, roomLeft := c.opC, hostAddress := c.address,
            mark := (c.opC, 0, c.address) },
          port := { (s.tr t).port with
            stage := .taken,
            indicators := if (s.reel t).entries.any fun e => (s.tr t).reck.nextBlock ≤ e.block then (s.tr t).port.indicators ||| 4#16 else (s.tr t).port.indicators } }) ∧
    (s.Awaits t 8 c → (s.reel t).state = .active → (s.tr t).reck.nextKnown = true → (s.tr t).reck.nextBlock ≠ 16777215 →
      ∃ s', exec (.writeFileMark t) s = .next s' ∧
        s.OnlyAt s' t ∧
        s'.exchange = s.exchange ∧
        s'.reel t = { s.reel t with
          entries := (s.reel t).entries.filter (·.block < (s.tr t).reck.nextBlock), eod := some (s.tr t).reck.nextBlock } ∧
        s'.store.poolFree + (s'.reel t).entries.length = s.store.poolFree + (s.reel t).entries.length ∧
        s'.arb = s.arb ∧
        s'.tr t = Transport.refresh { (s.tr t).withTaken.started .transfer .forward (s.tr t).drive.active.vRw none with
          chan := { (s.tr t).chan with
            mode := .decode, activity := .erasing, writeGate := true, formation := some
              { block := (s.tr t).reck.nextBlock, file := (s.tr t).reck.fileNumber, kind := .fileMark, volumeCheck := (s.reel t).volumeCheck,
                declared := 0, phase := .waiting, ambleSteps := 0, partBytes := 0, written := 0, sum := 0, bytes := [],
                start := 0, steps := 0, fill := false, cut := false, hostBytes := 0, readBacks := 0,
                readBackGood := false, due := false, spoiled := false } },
          xfer := { Transfer.idle with order := .writeFileMark, phase := .writing },
          port := { (s.tr t).port with
            stage := .taken,
            indicators := if (s.reel t).entries.any fun e => (s.tr t).reck.nextBlock ≤ e.block then (s.tr t).port.indicators ||| 4#16 else (s.tr t).port.indicators } }) ∧
    (s.Awaits t 9 c → (s.reel t).state = .active → (s.tr t).reck.nextKnown = true → (s.tr t).reck.nextBlock ≠ 16777215 → 1 ≤ c.opB → c.opB ≤ 200000 →
      ∃ s', exec (.erase t) s = .next s' ∧
        s.OnlyAt s' t ∧
        s'.exchange = s.exchange ∧
        s'.reel t = { s.reel t with
          entries := (s.reel t).entries.filter (·.block < (s.tr t).reck.nextBlock), eod := some (s.tr t).reck.nextBlock } ∧
        s'.store.poolFree + (s'.reel t).entries.length = s.store.poolFree + (s.reel t).entries.length ∧
        s'.arb = s.arb ∧
        s'.tr t = Transport.refresh { (s.tr t).withTaken.started .transfer .forward (s.tr t).drive.active.vRw none with
          chan := { (s.tr t).chan with
            mode := .decode, activity := .erasing, writeGate := true, formation := none },
          xfer := { Transfer.idle with order := .erase c.opB, phase := .running },
          port := { (s.tr t).port with
            stage := .taken,
            indicators := if (s.reel t).entries.any fun e => (s.tr t).reck.nextBlock ≤ e.block then (s.tr t).port.indicators ||| 4#16 else (s.tr t).port.indicators } }) ∧
    (s.Awaits t 9 c → (s.reel t).state = .active → (s.tr t).reck.nextKnown = false → 1 ≤ c.opB → c.opB ≤ 200000 →
      ∃ s', exec (.erase t) s = .next s' ∧
        s.OnlyAt s' t ∧
        s'.exchange = s.exchange ∧
        s'.reel t = { s.reel t with entries := [], eod := none } ∧
        s'.store.poolFree + (s'.reel t).entries.length = s.store.poolFree + (s.reel t).entries.length ∧
        s'.arb = s.arb ∧
        s'.tr t = Transport.refresh { (s.tr t).withTaken.started .transfer .forward (s.tr t).drive.active.vRw none with
          chan := { (s.tr t).chan with
            mode := .decode, activity := .erasing, writeGate := true, formation := none },
          xfer := { Transfer.idle with order := .erase c.opB, phase := .running },
          port := { (s.tr t).port with
            stage := .taken,
            indicators := if (s.reel t).entries ≠ [] then (s.tr t).port.indicators ||| 4#16 else (s.tr t).port.indicators } }) ∧
    (s.Awaits t 7 c → 1 ≤ c.opC → (s.reel t).state ≠ .active → (s.tr t).reck.nextKnown = true → (s.tr t).reck.nextBlock ≠ 16777215 →
      ∃ s', exec (.write t) s = .next s' ∧
        s.OnlyAt s' t ∧
        s'.exchange = s.exchange ∧
        s'.reel t = (if (s.reel t).state = .held then .none else s.reel t) ∧
        s'.store.poolFree + (s'.reel t).entries.length = s.store.poolFree + (s.reel t).entries.length ∧
        s'.arb = { s.arb with data := s.arb.data.set t (some .writeBurst) } ∧
        s'.tr t = Transport.refresh { (s.tr t).withTaken.started .transfer .forward (s.tr t).drive.active.vRw none with
          chan := { (s.tr t).chan with
            mode := .decode, activity := .erasing, writeGate := true, formation := some
              { block := (s.tr t).reck.nextBlock, file := (s.tr t).reck.fileNumber, kind := .data, volumeCheck := 0,
                declared := c.opC, phase := .waiting, ambleSteps := 0, partBytes := 0, written := 0, sum := 0, bytes := [],
                start := 0, steps := 0, fill := false, cut := false, hostBytes := 0, readBacks := 0,
                readBackGood := false, due := false, spoiled := false } },
          xfer := { Transfer.idle with
            order := .write c.opC, phase := .writing, roomLeft := c.opC, hostAddress := c.address,
            mark := (c.opC, 0, c.address) },
          port := { (s.tr t).port with
            stage := .taken,
            indicators := if (s.reel t).state = .held ∧ (s.reel t).entries ≠ [] then (s.tr t).port.indicators ||| 4#16 else (s.tr t).port.indicators } }) ∧
    (s.Awaits t 8 c → (s.reel t).state ≠ .active → (s.tr t).reck.nextKnown = true → (s.tr t).reck.nextBlock ≠ 16777215 →
      ∃ s', exec (.writeFileMark t) s = .next s' ∧
        s.OnlyAt s' t ∧
        s'.exchange = s.exchange ∧
        s'.reel t = (if (s.reel t).state = .held then .none else s.reel t) ∧
        s'.store.poolFree + (s'.reel t).entries.length = s.store.poolFree + (s.reel t).entries.length ∧
        s'.arb = s.arb ∧
        s'.tr t = Transport.refresh { (s.tr t).withTaken.started .transfer .forward (s.tr t).drive.active.vRw none with
          chan := { (s.tr t).chan with
            mode := .decode, activity := .erasing, writeGate := true, formation := some
              { block := (s.tr t).reck.nextBlock, file := (s.tr t).reck.fileNumber, kind := .fileMark, volumeCheck := 0,
                declared := 0, phase := .waiting, ambleSteps := 0, partBytes := 0, written := 0, sum := 0, bytes := [],
                start := 0, steps := 0, fill := false, cut := false, hostBytes := 0, readBacks := 0,
                readBackGood := false, due := false, spoiled := false } },
          xfer := { Transfer.idle with order := .writeFileMark, phase := .writing },
          port := { (s.tr t).port with
            stage := .taken,
            indicators := if (s.reel t).state = .held ∧ (s.reel t).entries ≠ [] then (s.tr t).port.indicators ||| 4#16 else (s.tr t).port.indicators } }) ∧
    (s.Awaits t 9 c → (s.reel t).state ≠ .active → 1 ≤ c.opB → c.opB ≤ 200000 →
      ∃ s', exec (.erase t) s = .next s' ∧
        s.OnlyAt s' t ∧
        s'.exchange = s.exchange ∧
        s'.reel t = (if (s.reel t).state = .held then .none else s.reel t) ∧
        s'.store.poolFree + (s'.reel t).entries.length = s.store.poolFree + (s.reel t).entries.length ∧
        s'.arb = s.arb ∧
        s'.tr t = Transport.refresh { (s.tr t).withTaken.started .transfer .forward (s.tr t).drive.active.vRw none with
          chan := { (s.tr t).chan with
            mode := .decode, activity := .erasing, writeGate := true, formation := none },
          xfer := { Transfer.idle with order := .erase c.opB, phase := .running },
          port := { (s.tr t).port with
            stage := .taken,
            indicators := if (s.reel t).state = .held ∧ (s.reel t).entries ≠ [] then (s.tr t).port.indicators ||| 4#16 else (s.tr t).port.indicators } })

/-- R155, R156. That the counts a record gives back go on with the words of earlier records is the model's choice (log 26). -/
def Obligations.DataBursts : Prop :=
    ∀ (s : State) (t : Tr) (x : BusTransfer), (s.tr t).xfer.quiet = false → 
    (s.Writes t x .readBurst → (s.tr t).xfer.order = .read false → (s.tr t).xfer.fifo = [] → 0 < (s.tr t).drive.active.threshold →
      ∃ s', exec (.readBurstComplete) s = .next s' ∧
        s.OnlyAtEach s' t ∧
        s'.store = s.store ∧
        s'.exchange = s.exchange ∧
        s'.arb = { s.arb with current := none } ∧
        s'.hostMemory = memWriteWords s.hostMemory x.address x.words ∧
        s'.tr t = Transport.refresh { s.tr t with
          xfer := { (s.tr t).xfer with
            resultBytes := (s.tr t).xfer.resultBytes + x.sizes.sum,
            hostAddress := ((s.tr t).xfer.hostAddress + 2 * x.sizes.length) % 16777216,
            mark := ((s.tr t).xfer.mark.1, (s.tr t).xfer.mark.2.1 + ((s.tr t).xfer.olderWords x.sizes).sum,
              ((s.tr t).xfer.mark.2.2 + 2 * ((s.tr t).xfer.olderWords x.sizes).length) % 16777216) } }) ∧
    (∀ (n : Nat) (ws : List Word), s.Reads t x .writeBurst ws → (s.tr t).xfer.order = .write n → (s.tr t).xfer.spilling = false → (s.tr t).xfer.roomLeft ≤ 2 * ws.length →
      ∃ s', exec (.writeBurstComplete ws) s = .next s' ∧
        s.OnlyAtEach s' t ∧
        s'.store = s.store ∧
        s'.exchange = s.exchange ∧
        s'.arb = { s.arb with current := none } ∧
        s'.hostMemory = s.hostMemory ∧
        s'.tr t = Transport.refresh { s.tr t with
          xfer := { (s.tr t).xfer with
            fifo := (s.tr t).xfer.fifo ++ (bytesOfWords ws).take (s.tr t).xfer.roomLeft, roomLeft := 0,
            hostAddress := ((s.tr t).xfer.hostAddress + 2 * ws.length) % 16777216 } })

/-- R41, R154, R160, R163, R166 and 9.9. -/
def Obligations.TransferEnds : Prop :=
    ∀ (s : State) (t : Tr), s.powered = true → s.Settled t → (s.tr t).Working → 
    (∀ (b : Bool), (s.tr t).xfer.order = .read b → (s.tr t).xfer.phase = .draining → (s.tr t).xfer.fifo = [] → s.dataBusy t = false → (s.tr t).xfer.resultBytes ≤ 65535 →
      ∃ s', exec (.readDrainComplete t) s = .next s' ∧
        s.OnlyAt s' t ∧
        s'.store = s.store ∧
        s'.exchange = s.exchange ∧
        (s'.tr t).xfer = .idle ∧
        (s'.tr t).reck = (s.tr t).reck ∧
        s'.arb.data = s.arb.data.set t none ∧
        s.Terminates s' t ((s.tr t).xfer.held.getD .normal) (s.tr t).xfer.resultBytes (signedLong (lastBlockStart (s.tr t).reck)) ((s.tr t).port.indicators ||| (s.tr t).xfer.own)) ∧
    (∀ (n : Nat) (f : Formation), (s.tr t).xfer.order = .write n → (s.tr t).xfer.phase = .writing → 3000 ≤ (s.tr t).xfer.gapExtension → (s.tr t).chan.formation = some f → f.phase = .waiting → f.due = false → (s.tr t).drive.phase = .run → (s.tr t).drive.stopKind = .none → 0 < (s.tr t).drive.active.h → (s.tr t).xfer.resultBytes ≤ 65535 →
      ∃ s', exec (.writeStartTimeout t) s = .next s' ∧
        s.OnlyAt s' t ∧
        s'.store = s.store ∧
        s'.exchange = s.exchange ∧
        (s'.tr t).xfer = .idle ∧
        (s'.tr t).reck = (s.tr t).reck ∧
        s'.arb.data = s.arb.data.set t none ∧
        (s'.tr t).chan.formation = none ∧
        (s'.tr t).drive.holdOver = some (s.tr t).drive.active.h ∧
        s.Terminates s' t .dataLate (s.tr t).xfer.resultBytes (signedLong (lastBlockStart (s.tr t).reck)) ((s.tr t).port.indicators ||| (s.tr t).xfer.own)) ∧
    (∀ (n : Nat), (s.tr t).xfer.order = .erase n → (s.tr t).xfer.phase = .running → n ≤ (s.tr t).xfer.erased → (s.tr t).xfer.erased ≤ 65535 → (s.tr t).chan.activity = .erasing → (s.tr t).drive.phase = .run → (s.tr t).drive.stopKind = .none → 0 < (s.tr t).drive.active.h →
      ∃ s', exec (.eraseLengthReached t) s = .next s' ∧
        s.OnlyAt s' t ∧
        s'.store = s.store ∧
        s'.exchange = s.exchange ∧
        (s'.tr t).xfer = .idle ∧
        (s'.tr t).reck = (s.tr t).reck ∧
        s'.arb.data = s.arb.data.set t none ∧
        (s'.tr t).chan.activity = .listen ∧
        (s'.tr t).chan.writeGate = false ∧
        (s'.tr t).drive.holdOver = some (s.tr t).drive.active.h ∧
        s.Terminates s' t .normal (s.tr t).xfer.erased (signedLong (lastBlockStart (s.tr t).reck)) ((s.tr t).port.indicators ||| (s.tr t).xfer.own))

/-- R117 to R120, R123, R128, R130, R133. LOCATE BLOCK from next block 0 at the load point has two starting points of one block number, and which is taken is the model's choice (log 16). That a count space taken as first step has the blank watch on and no scan budget yet is the model's choice (log 62), and so is that STOP makes the stop target absent (log 70). -/
def Obligations.LocateStarts : Prop :=
    ∀ (s : State) (t : Tr) (c : OrderCopy), 
    (∀ (e : Entry), s.Awaits t 16 c → (s.tr t).ReadyStanding → (s.tr t).Unused → c.opA ≠ 0 → c.opA ≠ 50000 → (s.reel t).state = .active → (s.tr t).reck.anchor ≠ .lost → findMark (s.reel t).entries c.opA = some e → (s.tr t).reck.position ≤ e.position - 160 → e.position - 160 - (4000 + ((s.tr t).reck.bound.getD 0 + e.bound.getD 0) : Nat) ≤ (s.tr t).reck.position →
      ∃ s', exec (.locateMark t) s = .next s' ∧
        s.Becomes s' t { (s.tr t).withTaken.started .locate .forward (s.tr t).drive.active.vRw none with
          chan := { (s.tr t).chan with mode := .decode, blankWatch := some (.locate, 0) },
          loc := { Locate.idle with
            order := .locateMark, phase := .decode, step := .moving, target := some e.block, mark := some e.mark,
            aim := some (e.position, e.bound.getD 0), standOff := e.position - 160, beta := ((s.tr t).reck.bound.getD 0 + e.bound.getD 0),
            budget := some (40000 + 4 * ((s.tr t).reck.bound.getD 0 + e.bound.getD 0)) } }) ∧
    (s.Awaits t 16 c → (s.tr t).ReadyStanding → (s.tr t).Unused → c.opA ≠ 0 → c.opA ≠ 50000 → (s.reel t).state = .active → (s.tr t).reck.anchor ≠ .lost → findMark (s.reel t).entries c.opA = none →
      ∃ s', exec (.locateMark t) s = .next s' ∧
        s.OnlyAt s' t ∧
        s'.store = s.store ∧
        s'.exchange = s.exchange ∧
        s.OnlyControl s' t ∧
        s.Terminates s' t .noSuchMark 0 0 (s.tr t).port.indicators) ∧
    (s.Awaits t 17 c → (s.tr t).ReadyStanding → (s.tr t).Unused → c.opB ≤ 16777214 → (s.reel t).state ≠ .active → (s.tr t).reck.anchor ≠ .lost → (s.tr t).reck.nextKnown = true → (s.tr t).reck.nextBlock ≤ c.opB →
      ∃ s', exec (.locateBlock t) s = .next s' ∧
        s.Becomes s' t
          (if c.opB - (s.tr t).reck.nextBlock ≤ 64 then
            { (s.tr t).withTaken.started .locate .forward (s.tr t).drive.active.vRw none with
              chan := { (s.tr t).chan with mode := .decode, blankWatch := some (.locate, 0) },
              loc := { Locate.idle with
                order := .locateBlock, phase := .decode, step := .moving, target := some c.opB,
                beta := (s.tr t).reck.bound.getD 0, budget := some (40000 + 4 * (s.tr t).reck.bound.getD 0) } }
          else
            { (s.tr t).withTaken.started .locate .forward (s.tr t).drive.active.vFs none with
              chan := { (s.tr t).chan with mode := .spacing, blankWatch := some (.locate, 0) },
              loc := { Locate.idle with
                order := .locateBlock, phase := .countSpace, step := .moving, target := some c.opB,
                beta := (s.tr t).reck.bound.getD 0 } })) ∧
    (s.Awaits t 18 c → (s.tr t).ReadyStanding → (s.tr t).Unused → (s.tr t).reck.atLoadPoint = true →
      ∃ s', exec (.rewind t) s = .next s' ∧
        s.OnlyAt s' t ∧
        s'.store = s.store ∧
        s'.exchange = s.exchange ∧
        s.OnlyControl s' t ∧
        (s'.tr t).loc = .idle ∧
        (s'.tr t).reck = { (s.tr t).reck with lastBlock := none } ∧
        (s'.tr t).ctl = (s.tr t).ctl ∧
        s.Terminates s' t .normal 0 (signedLong (s.tr t).reck.position) (s.tr t).port.indicators) ∧
    (s.Awaits t 18 c → (s.tr t).ReadyStanding → (s.tr t).Unused → (s.tr t).reck.anchor ≠ .lost → 100 < (s.tr t).reck.position → (s.tr t).reck.position ≤ 200000 →
      ∃ s', exec (.rewind t) s = .next s' ∧
        s.Becomes s' t { Transport.started { (s.tr t).withTaken with reck := { (s.tr t).reck with lastBlock := none } } .locate .backward
            (s.tr t).drive.active.vFs (some ((s.tr t).reck.position + (s.tr t).reck.bound.getD 0 + 2000)) with
          chan := { (s.tr t).chan with mode := .spacing },
          loc := { Locate.idle with order := .rewind, phase := .rewinding, leg := .back, step := .moving } }) ∧
    (∀ (b : Nat), s.powered = true → (s.tr t).loc.phase = .decode → (s.tr t).loc.budget = some b → b < (s.tr t).loc.travel → (s.tr t).loc.failing = none → (s.tr t).ctl.permission = .full → (s.tr t).ctl.stopUnderWay = false → (s.tr t).drive.phase = .run →
      ∃ s', exec (.scanBudgetExceeded t) s = .next s' ∧
        s.Becomes s' t { s.tr t with
          loc := { (s.tr t).loc with failing := some .notFound }, drive := { (s.tr t).drive with phase := .decel, holdOver := none, stopTarget := none, endedBy := .none, requester := .locate } })

/-- R95, R97 to R100. The slot taken (log 9), and words 8 and 9 carrying the position rather than the block (log 11), are the model's choices. -/
def Obligations.EnterMark : Prop :=
    ∀ (s : State) (t : Tr) (c : OrderCopy) (k : EntryKind), s.Awaits t 12 c → s.Settled t → (s.reel t).state = .active → 1 ≤ c.opA → c.opA ≤ 49999 → kindOfField c.kindField = some k → c.opB ≤ 65535 → 
    (∀ (l : LastBlock) (b : Nat), c.opC = 0 → (s.tr t).reck.anchor ≠ .lost → (s.tr t).reck.lastBlock = some l → l.block = some b → b ≠ 16777215 → (s.reel t).eod.all (b < ·) = true → lengthFits l c.opB = true → findMark (s.reel t).entries c.opA = none → (∀ e ∈ (s.reel t).entries, e.block ≠ b) → 1 ≤ s.store.poolFree → (s.reel t).entries.length < 1024 →
      ∃ s', exec (.enterMark t) s = .next s' ∧
        s.OnlyAt s' t ∧
        s'.exchange = s.exchange ∧
        s.OnlyControl s' t ∧
        (s'.tr t).reck = (s.tr t).reck ∧
        (s'.tr t).ctl = (s.tr t).ctl ∧
        (s'.tr t).chan = (s.tr t).chan ∧
        s'.reel t = { s.reel t with
          entries :=
            (s.reel t).entries.filter (fun e => e.block < b ∧ e.position < max 0 l.start) ++
              { mark := c.opA, kind := k, block := b, position := max 0 l.start, recordLength := c.opB,
                bound :=
                  if l.start < 0 then
                    some (min 20000 ((if l.anchor = .drifted then l.bound else 0) + l.start.natAbs))
                  else if l.anchor = .drifted then some l.bound
                  else none,
                tag := [], slot := s.store.freeSlot } ::
                (s.reel t).entries.filter (fun e => b < e.block ∧ max 0 l.start < e.position) } ∧
        s'.store.poolFree + (s'.reel t).entries.length = s.store.poolFree + (s.reel t).entries.length ∧
        s.Terminates s' t .normal ((s.reel t).entries.length + 1 - (s'.reel t).entries.length) (signedLong (max 0 l.start))
          (if (s'.reel t).entries.length ≤ (s.reel t).entries.length then (s.tr t).port.indicators ||| 4#16 else (s.tr t).port.indicators)) ∧
    (c.opC = 0 → (s.tr t).reck.anchor = .lost →
      ∃ s', exec (.enterMark t) s = .next s' ∧
        s.OnlyAt s' t ∧
        s'.store = s.store ∧
        s'.exchange = s.exchange ∧
        s.OnlyControl s' t ∧
        (s'.tr t).reck = (s.tr t).reck ∧
        (s'.tr t).ctl = (s.tr t).ctl ∧
        (s'.tr t).chan = (s.tr t).chan ∧
        s.Terminates s' t .positionLost 0 0 (s.tr t).port.indicators) ∧
    (c.opC = 0 → (s.tr t).reck.anchor ≠ .lost → (s.tr t).reck.lastBlock = none →
      ∃ s', exec (.enterMark t) s = .next s' ∧
        s.OnlyAt s' t ∧
        s'.store = s.store ∧
        s'.exchange = s.exchange ∧
        s.OnlyControl s' t ∧
        (s'.tr t).reck = (s.tr t).reck ∧
        (s'.tr t).ctl = (s.tr t).ctl ∧
        (s'.tr t).chan = (s.tr t).chan ∧
        s.Terminates s' t .noBlock 0 0 (s.tr t).port.indicators) ∧
    (∀ (l : LastBlock) (b : Nat), c.opC = 0 → (s.tr t).reck.anchor ≠ .lost → (s.tr t).reck.lastBlock = some l → l.block = some b → b ≠ 16777215 → (s.reel t).eod.all (b < ·) = true → lengthFits l c.opB = true → c.modifier 8 = false → (findMark (s.reel t).entries c.opA).isSome = true →
      ∃ s', exec (.enterMark t) s = .next s' ∧
        s.OnlyAt s' t ∧
        s'.store = s.store ∧
        s'.exchange = s.exchange ∧
        s.OnlyControl s' t ∧
        (s'.tr t).reck = (s.tr t).reck ∧
        (s'.tr t).ctl = (s.tr t).ctl ∧
        (s'.tr t).chan = (s.tr t).chan ∧
        s.Terminates s' t .duplicate 0 0 (s.tr t).port.indicators) ∧
    (1 ≤ c.opC → c.opC ≤ 4 →
      ∃ s', exec (.enterMark t) s = .next s' ∧
        s.OnlyAt s' t ∧
        s'.store = s.store ∧
        s'.exchange = s.exchange ∧
        s.OnlyControl s' t ∧
        s'.tr t = Transport.refresh { (s.tr t).withTaken with mapOrder := .tagWords } ∧
        s'.arb.control.get t = some
          { kind := .tagWords, address := c.address % 16777216, length := c.opC, words := [], sizes := [], orphan := false })

/-- R98, R101 and R102. Words 8 and 9 carrying the position of the entry rather than its block is the model's choice (log 11). -/
def Obligations.AmendAndRetire : Prop :=
    ∀ (s : State) (t : Tr) (c : OrderCopy) (e : Entry), (s.reel t).state ≠ .none → c.opA ≠ 0 → c.opA ≠ 50000 → findMark (s.reel t).entries c.opA = some e → 
    (s.Awaits t 13 c → s.Settled t → c.kindField ≠ 3 → (e.kind ≠ .file ∨ c.kindField = 0) → (c.modifier 11 = false ∨ c.opC = 0) →
      ∃ s', exec (.amendMark t) s = .next s' ∧
        s.OnlyAt s' t ∧
        s'.exchange = s.exchange ∧
        s.OnlyControl s' t ∧
        (s'.tr t).reck = (s.tr t).reck ∧
        (s'.tr t).ctl = (s.tr t).ctl ∧
        (s'.tr t).chan = (s.tr t).chan ∧
        s'.store.poolFree = s.store.poolFree ∧
        s'.reel t = { s.reel t with
          entries := (s.reel t).entries.map (fun f => if f.mark = c.opA then
              { f with kind := (kindOfField c.kindField).getD f.kind, tag := if c.modifier 11 then [] else f.tag } else f) } ∧
        s.Terminates s' t .normal 0 (signedLong e.position) (s.tr t).port.indicators) ∧
    (s.Awaits t 13 c → s.Settled t → c.kindField ≠ 3 → c.modifier 11 = true → 1 ≤ c.opC → c.opC ≤ 4 →
      ∃ s', exec (.amendMark t) s = .next s' ∧
        s.OnlyAt s' t ∧
        s'.store = s.store ∧
        s'.exchange = s.exchange ∧
        s.OnlyControl s' t ∧
        s'.tr t = Transport.refresh { (s.tr t).withTaken with mapOrder := .tagWords } ∧
        s'.arb.control.get t = some
          { kind := .tagWords, address := c.address % 16777216, length := c.opC, words := [], sizes := [], orphan := false }) ∧
    (∀ (x : BusTransfer) (ws : List Word), s.Reads t x .tagWords ws → ws.length ≤ 4 → (s.tr t).Working → (s.tr t).port.copy = some c → c.code = 13 → ws.length = c.opC → c.modifier 11 = true → c.kindField ≠ 3 → (e.kind ≠ .file ∨ c.kindField = 0) →
      ∃ s', exec (.tagWordsRead ws) s = .next s' ∧
        s.OnlyAtEach s' t ∧
        s'.exchange = s.exchange ∧
        s'.arb.current = none ∧
        (s'.tr t).reck = (s.tr t).reck ∧
        (s'.tr t).ctl = (s.tr t).ctl ∧
        (s'.tr t).chan = (s.tr t).chan ∧
        s'.hostMemory = s.hostMemory ∧
        s'.store.poolFree = s.store.poolFree ∧
        s'.reel t = { s.reel t with
          entries := (s.reel t).entries.map (fun f => if f.mark = c.opA then
              { f with kind := (kindOfField c.kindField).getD f.kind, tag := ws } else f) } ∧
        s.Terminates s' t .normal 0 (signedLong e.position) (s.tr t).port.indicators) ∧
    (s.Awaits t 14 c → s.Settled t → (s.reel t).entries.length ≤ 1024 →
      ∃ s', exec (.retireMark t) s = .next s' ∧
        s.OnlyAt s' t ∧
        s'.exchange = s.exchange ∧
        s.OnlyControl s' t ∧
        (s'.tr t).reck = (s.tr t).reck ∧
        (s'.tr t).ctl = (s.tr t).ctl ∧
        (s'.tr t).chan = (s.tr t).chan ∧
        s'.store.poolFree + (s'.reel t).entries.length = s.store.poolFree + (s.reel t).entries.length ∧
        s'.reel t = { s.reel t with
          entries := (s.reel t).entries.filter fun f => if c.modifier 8 then f.block < e.block else f.block ≠ e.block } ∧
        s.Terminates s' t .normal ((s.reel t).entries.length - (s'.reel t).entries.length) (signedLong e.position) (s.tr t).port.indicators)

/-- R98, R103, R147. Words 8 and 9 of LOOK UP MARK carrying the position rather than the block is the model's choice (log 11), and so
is the 0 in the bits of the written record that 8.8 gives to no field (log 100). -/
def Obligations.RecordWrites : Prop :=
    ∀ (s : State) (t : Tr), 
    (∀ (c : OrderCopy) (e : Entry), s.Awaits t 15 c → s.Settled t → (s.reel t).state ≠ .none → (if c.modifier 8 then nearestBelow (s.reel t).entries c.opB = some e ∧ c.opB ≤ 16777215 else findMark (s.reel t).entries c.opA = some e ∧ c.opA ≠ 0 ∧ c.opA ≠ 50000) →
      ∃ s', exec (.lookUpMark t) s = .next s' ∧
        s.OnlyAt s' t ∧
        s'.store = s.store ∧
        s'.exchange = s.exchange ∧
        s.OnlyControl s' t ∧
        s'.tr t = Transport.refresh { (s.tr t).withTaken with mapOrder := .entryWrite } ∧
        s'.arb.control.get t = some
          { kind := .entryRecord, address := c.address % 16777216, length := 8 + e.tag.length, words := entryWords e,
            sizes := [], orphan := false }) ∧
    (∀ (c : OrderCopy), s.Awaits t 15 c → s.Settled t → (s.reel t).state ≠ .none → (if c.modifier 8 then nearestBelow (s.reel t).entries c.opB = none ∧ c.opB ≤ 16777215 else findMark (s.reel t).entries c.opA = none ∧ c.opA ≠ 0 ∧ c.opA ≠ 50000) →
      ∃ s', exec (.lookUpMark t) s = .next s' ∧
        s.OnlyAt s' t ∧
        s'.store = s.store ∧
        s'.exchange = s.exchange ∧
        s.OnlyControl s' t ∧
        (s'.tr t).reck = (s.tr t).reck ∧
        (s'.tr t).ctl = (s.tr t).ctl ∧
        (s'.tr t).chan = (s.tr t).chan ∧
        s.Terminates s' t .noSuchMark 0 0 (s.tr t).port.indicators) ∧
    (∀ (x : BusTransfer), s.Writes t x .entryRecord → (s.tr t).Working →
      ∃ s', exec (.mapEntryRecordWritten) s = .next s' ∧
        s.OnlyAtEach s' t ∧
        s'.exchange = s.exchange ∧
        s'.arb.current = none ∧
        (s'.tr t).reck = (s.tr t).reck ∧
        (s'.tr t).ctl = (s.tr t).ctl ∧
        (s'.tr t).chan = (s.tr t).chan ∧
        s'.store = s.store ∧
        s'.hostMemory = memWriteWords s.hostMemory x.address x.words ∧
        s.Terminates s' t .normal 1 (x.words.getD 4 0 ++ x.words.getD 5 0) (s.tr t).port.indicators) ∧
    (∀ (x : BusTransfer), s.Writes t x .senseRecord → (s.tr t).Working →
      ∃ s', exec (.senseRecordWritten) s = .next s' ∧
        s.OnlyAtEach s' t ∧
        s'.exchange = s.exchange ∧
        s'.arb.current = none ∧
        (s'.tr t).reck = (s.tr t).reck ∧
        (s'.tr t).ctl = (s.tr t).ctl ∧
        (s'.tr t).chan = (s.tr t).chan ∧
        s'.store = s.store ∧
        s'.hostMemory = memWriteWords s.hostMemory x.address x.words ∧
        (s'.tr t).port.attention = (s.tr t).port.attention ∧
        (s'.tr t).port.senseTaken = 0 ∧
        s.Terminates s' t .normal 16 0 (s.tr t).port.indicators)

/-- R170 to R172. A newcomer that finds the area free but others waiting waits behind them: the model's choice (log 48) beside R170's "If the area is free, the order takes it at once". The 0 in the bits of the dumped table that 8.8 gives to no field is the model's choice too (log 100). -/
def Obligations.ExchangeTaken : Prop :=
    ∀ (s : State) (t : Tr), 
    (∀ (c : OrderCopy), s.Awaits t 19 c → s.Settled t → (s.reel t).state ≠ .none → s.exchange.holder = none → s.exchange.anyWaiting = false → tableLength (s.reel t).entries ≤ c.opC →
      ∃ s', exec (.dumpMap t) s = .next s' ∧
        s.OnlyAt s' t ∧
        s'.store = s.store ∧
        s'.arb = { s.arb with data := s.arb.data.set t (some .dumpBurst) } ∧
        s'.tr t = Transport.refresh { (s.tr t).withTaken with mapOrder := .exchange } ∧
        s'.exchange = { s.exchange with holder := some t, last := t, table := tableWords (s.reel t), written := 0 }) ∧
    (∀ (c : OrderCopy), s.Awaits t 19 c → s.Settled t → (s.reel t).state ≠ .none → s.exchange.holder = none → s.exchange.anyWaiting = false → c.opC < tableLength (s.reel t).entries → tableLength (s.reel t).entries ≤ 65535 →
      ∃ s', exec (.dumpMap t) s = .next s' ∧
        s.OnlyAt s' t ∧
        s'.store = s.store ∧
        (s'.tr t).reck = (s.tr t).reck ∧
        (s'.tr t).ctl = (s.tr t).ctl ∧
        (s'.tr t).chan = (s.tr t).chan ∧
        s'.exchange = { s.exchange with last := t, table := [], written := 0 } ∧
        s.Terminates s' t .parameter (tableLength (s.reel t).entries) 0 (s.tr t).port.indicators) ∧
    (∀ (c : OrderCopy), s.Awaits t 19 c → s.Settled t → (s.reel t).state ≠ .none → (s.exchange.holder ≠ none ∨ s.exchange.anyWaiting = true) →
      ∃ s', exec (.dumpMap t) s = .next s' ∧
        s.OnlyAt s' t ∧
        s'.store = s.store ∧
        s'.arb = s.arb ∧
        s'.tr t = Transport.refresh { (s.tr t).withTaken with mapOrder := .exchange } ∧
        s'.exchange = { s.exchange with waiting := s.exchange.waiting.set t true }) ∧
    (∀ (c : OrderCopy), s.Awaits t 20 c → s.Settled t → 8 ≤ c.opC → c.opC ≤ 12296 → s.exchange.holder = none → s.exchange.anyWaiting = false →
      ∃ s', exec (.loadMap t) s = .next s' ∧
        s.OnlyAt s' t ∧
        s'.store = s.store ∧
        s'.arb = { s.arb with data := s.arb.data.set t (some .loadBurst) } ∧
        s'.tr t = Transport.refresh { (s.tr t).withTaken with mapOrder := .exchange } ∧
        s'.exchange = { s.exchange with holder := some t, last := t, table := [], written := 0 }) ∧
    (∀ (c : OrderCopy), s.Awaits t 20 c → s.Settled t → 8 ≤ c.opC → c.opC ≤ 12296 → (s.exchange.holder ≠ none ∨ s.exchange.anyWaiting = true) →
      ∃ s', exec (.loadMap t) s = .next s' ∧
        s.OnlyAt s' t ∧
        s'.store = s.store ∧
        s'.arb = s.arb ∧
        s'.tr t = Transport.refresh { (s.tr t).withTaken with mapOrder := .exchange } ∧
        s'.exchange = { s.exchange with waiting := s.exchange.waiting.set t true }) ∧
    (∀ (c : OrderCopy), s.powered = true → s.AllSettled → s.exchange.holder = none → firstAfter (fun u => s.exchange.waiting.get u) s.exchange.last = some t → (s.tr t).port.copy = some c → ((c.code = 19 ∧ (s.reel t).state ≠ .none ∧ tableLength (s.reel t).entries ≤ c.opC) ∨ c.code = 20) →
      ∃ s', exec (.exchangeAreaGrant) s = .next s' ∧
        s.OnlyAtEach s' t ∧
        s'.tr t = (s.tr t).refresh ∧
        s'.store = s.store ∧
        s'.hostMemory = s.hostMemory ∧
        s'.arb = { s.arb with data := s.arb.data.set t (some (if c.code = 19 then .dumpBurst else .loadBurst)) } ∧
        s'.exchange =
          { holder := some t, waiting := s.exchange.waiting.set t false, last := t,
            table := if c.code = 19 then tableWords (s.reel t) else [], written := 0 })

/-- R170 to R175. -/
def Obligations.ExchangeBursts : Prop :=
    ∀ (s : State) (t : Tr) (x : BusTransfer), s.exchange.holder = some t → 
    (s.Writes t x .dumpBurst → s.exchange.written + x.length < s.exchange.table.length →
      ∃ s', exec (.dumpMapBurstComplete) s = .next s' ∧
        s.OnlyAtEach s' t ∧
        s'.tr t = (s.tr t).refresh ∧
        s'.store = s.store ∧
        s'.hostMemory = memWriteWords s.hostMemory x.address x.words ∧
        s'.exchange = { s.exchange with written := s.exchange.written + x.length } ∧
        s'.arb = { s.arb with current := none, data := s.arb.data.set t (some .dumpBurst) }) ∧
    (s.Writes t x .dumpBurst → s.exchange.table.length ≤ s.exchange.written + x.length → s.exchange.table.length ≤ 65535 → (s.tr t).Working →
      ∃ s', exec (.dumpMapBurstComplete) s = .next s' ∧
        s.OnlyAtEach s' t ∧
        s'.store = s.store ∧
        s'.hostMemory = memWriteWords s.hostMemory x.address x.words ∧
        (s'.tr t).reck = (s.tr t).reck ∧
        (s'.tr t).ctl = (s.tr t).ctl ∧
        (s'.tr t).chan = (s.tr t).chan ∧
        s'.exchange = { s.exchange with holder := none, waiting := s.exchange.waiting.set t false, table := [], written := 0 } ∧
        s'.arb.current = none ∧
        s'.arb.data = s.arb.data.set t none ∧
        s.Terminates s' t .normal s.exchange.table.length ((s.exchange.table.getD 6 0).setWidth 32) (s.tr t).port.indicators) ∧
    (∀ (ws : List Word) (n v : Nat), s.Reads t x .loadBurst ws → importStatus (s.exchange.table ++ ws) (s.orderC t) = .more n v →
      ∃ s', exec (.loadMapBurstComplete ws) s = .next s' ∧
        s.OnlyAtEach s' t ∧
        s'.tr t = (s.tr t).refresh ∧
        s'.store = s.store ∧
        s'.hostMemory = s.hostMemory ∧
        s'.exchange = { s.exchange with table := (s.exchange.table ++ ws) } ∧
        s'.arb = { s.arb with current := none, data := s.arb.data.set t (some .loadBurst) }) ∧
    (∀ (ws : List Word) (v o : Nat), s.Reads t x .loadBurst ws → (s.tr t).Working → importStatus (s.exchange.table ++ ws) (s.orderC t) = .invalid v o → v ≤ 65535 →
      ∃ s', exec (.loadMapBurstComplete ws) s = .next s' ∧
        s.OnlyAtEach s' t ∧
        s'.store = s.store ∧
        s'.hostMemory = s.hostMemory ∧
        (s'.tr t).reck = (s.tr t).reck ∧
        (s'.tr t).ctl = (s.tr t).ctl ∧
        (s'.tr t).chan = (s.tr t).chan ∧
        s'.exchange = { s.exchange with holder := none, waiting := s.exchange.waiting.set t false, table := [], written := 0 } ∧
        s.Terminates s' t .tableInvalid v (BitVec.ofNat 32 o) (s.tr t).port.indicators) ∧
    (∀ (ws : List Word) (es : List Entry), s.Reads t x .loadBurst ws → (s.tr t).Working → importStatus (s.exchange.table ++ ws) (s.orderC t) = .whole es → ((s.reel t).state = .none ∨ tableTag (s.exchange.table ++ ws) = none ∨ (s.reel t).tag = none ∨ tableTag (s.exchange.table ++ ws) = (s.reel t).tag) → es.length ≤ s.store.poolFree + (s.reel t).entries.length → es.length ≤ 65535 →
      ∃ s', exec (.loadMapBurstComplete ws) s = .next s' ∧
        s.OnlyAtEach s' t ∧
        s'.hostMemory = s.hostMemory ∧
        (s'.tr t).reck = (s.tr t).reck ∧
        (s'.tr t).ctl = (s.tr t).ctl ∧
        (s'.tr t).chan = (s.tr t).chan ∧
        s'.exchange = { s.exchange with holder := none, waiting := s.exchange.waiting.set t false, table := [], written := 0 } ∧
        s'.store.poolFree + (s'.reel t).entries.length = s.store.poolFree + (s.reel t).entries.length ∧
        (s'.reel t).entries.map (fun e => { e with slot := 0 }) = es.map (fun e => { e with slot := 0 }) ∧
        { s'.reel t with entries := [] } =
          { state := if (s.reel t).state = .none then .held else (s.reel t).state,
            tag := if (s.reel t).state = .none then tableTag (s.exchange.table ++ ws) else (s.reel t).tag,
            volumeCheck :=
              if (s.reel t).state = .none then volumeCheckOf (tableTag (s.exchange.table ++ ws)) else (s.reel t).volumeCheck,
            eod := tableEod (s.exchange.table ++ ws), autoFile := (s.exchange.table ++ ws).getD 7 0 = 1, entries := [] } ∧
        s.Terminates s' t .normal es.length (BitVec.ofNat 32 (s.reel t).entries.length)
          (if es = [] ∧ (s.reel t).entries = [] then (s.tr t).port.indicators else (s.tr t).port.indicators ||| 4#16))

end
end

