-- ==== Sys2Proof/Laws/State.lean ====
section
/-! SUPPORT. What each named update of State leaves unchanged, field by field, and what it reads back as. -/
namespace Sys2Proof.Machine

/-! ### One value per transport -/

@[simp] theorem Four.get_set_same {α : Type} (f : Four α) (t : Tr) (x : α) : (f.set t x).get t = x := by
  cases t <;> rfl

theorem Four.get_set_other {α : Type} (f : Four α) {t u : Tr} (x : α) (h : u ≠ t) :
    (f.set t x).get u = f.get u := by
  cases t <;> cases u <;> first | rfl | exact absurd rfl h

@[simp] theorem Four.set_set {α : Type} (f : Four α) (t : Tr) (x y : α) : (f.set t x).set t y = f.set t y := by
  cases t <;> rfl

@[simp] theorem Four.set_get {α : Type} (f : Four α) (t : Tr) : f.set t (f.get t) = f := by
  cases t <;> rfl

@[simp] theorem Four.get_all {α : Type} (x : α) (t : Tr) : (Four.all x).get t = x := by
  cases t <;> rfl

/-- Two values per transport that agree at every transport are equal. -/
theorem Four.ext_get {α : Type} {f g : Four α} (h : ∀ t, f.get t = g.get t) : f = g := by
  have h0 := h .t0
  have h1 := h .t1
  have h2 := h .t2
  have h3 := h .t3
  cases f
  cases g
  simp_all [Four.get]

/-! ### The record of a transport -/

@[simp] theorem State.tr_setTr_same (s : State) (t : Tr) (x : Transport) : (s.setTr t x).tr t = x :=
  Four.get_set_same _ _ _

theorem State.tr_setTr_other (s : State) {t u : Tr} (x : Transport) (h : u ≠ t) : (s.setTr t x).tr u = s.tr u :=
  Four.get_set_other _ _ h

@[simp] theorem State.setTr_setTr (s : State) (t : Tr) (x y : Transport) : (s.setTr t x).setTr t y = s.setTr t y := by
  simp [State.setTr]

@[simp] theorem State.setTr_tr (s : State) (t : Tr) : s.setTr t (s.tr t) = s := by
  simp [State.setTr, State.tr]

@[simp] theorem State.setTr_store (s : State) (t : Tr) (x : Transport) : (s.setTr t x).store = s.store := rfl
@[simp] theorem State.setTr_exchange (s : State) (t : Tr) (x : Transport) : (s.setTr t x).exchange = s.exchange := rfl
@[simp] theorem State.setTr_arb (s : State) (t : Tr) (x : Transport) : (s.setTr t x).arb = s.arb := rfl
@[simp] theorem State.setTr_power (s : State) (t : Tr) (x : Transport) : (s.setTr t x).power = s.power := rfl
@[simp] theorem State.setTr_intr (s : State) (t : Tr) (x : Transport) : (s.setTr t x).intr = s.intr := rfl
@[simp] theorem State.setTr_summary (s : State) (t : Tr) (x : Transport) : (s.setTr t x).summary = s.summary := rfl
@[simp] theorem State.setTr_hostMemory (s : State) (t : Tr) (x : Transport) : (s.setTr t x).hostMemory = s.hostMemory := rfl
@[simp] theorem State.setTr_powered (s : State) (t : Tr) (x : Transport) : (s.setTr t x).powered = s.powered := rfl
@[simp] theorem State.setTr_freeIndex (s : State) (t : Tr) (x : Transport) : (s.setTr t x).freeIndex = s.freeIndex := rfl
@[simp] theorem State.setTr_pending (s : State) (t : Tr) (x : Transport) : (s.setTr t x).pending = s.pending := rfl

@[simp] theorem State.tr_modTr_same (s : State) (t : Tr) (f : Transport → Transport) :
    (s.modTr t f).tr t = f (s.tr t) :=
  State.tr_setTr_same _ _ _

theorem State.tr_modTr_other (s : State) {t u : Tr} (f : Transport → Transport) (h : u ≠ t) :
    (s.modTr t f).tr u = s.tr u :=
  State.tr_setTr_other _ _ h

@[simp] theorem State.modTr_modTr (s : State) (t : Tr) (f g : Transport → Transport) :
    (s.modTr t f).modTr t g = s.modTr t fun x => g (f x) := by
  simp [State.modTr]

@[simp] theorem State.modTr_store (s : State) (t : Tr) (f : Transport → Transport) : (s.modTr t f).store = s.store := rfl
@[simp] theorem State.modTr_exchange (s : State) (t : Tr) (f : Transport → Transport) : (s.modTr t f).exchange = s.exchange := rfl
@[simp] theorem State.modTr_arb (s : State) (t : Tr) (f : Transport → Transport) : (s.modTr t f).arb = s.arb := rfl
@[simp] theorem State.modTr_power (s : State) (t : Tr) (f : Transport → Transport) : (s.modTr t f).power = s.power := rfl
@[simp] theorem State.modTr_intr (s : State) (t : Tr) (f : Transport → Transport) : (s.modTr t f).intr = s.intr := rfl
@[simp] theorem State.modTr_summary (s : State) (t : Tr) (f : Transport → Transport) : (s.modTr t f).summary = s.summary := rfl
@[simp] theorem State.modTr_hostMemory (s : State) (t : Tr) (f : Transport → Transport) : (s.modTr t f).hostMemory = s.hostMemory := rfl
@[simp] theorem State.modTr_powered (s : State) (t : Tr) (f : Transport → Transport) : (s.modTr t f).powered = s.powered := rfl
@[simp] theorem State.modTr_freeIndex (s : State) (t : Tr) (f : Transport → Transport) : (s.modTr t f).freeIndex = s.freeIndex := rfl
@[simp] theorem State.modTr_pending (s : State) (t : Tr) (f : Transport → Transport) : (s.modTr t f).pending = s.pending := rfl

/-- `modPort` as a change of the transport's record. -/
theorem State.modPort_eq (s : State) (t : Tr) (f : Port → Port) :
    s.modPort t f = s.modTr t fun x => { x with port := f x.port } := rfl

@[simp] theorem State.tr_modPort_same (s : State) (t : Tr) (f : Port → Port) :
    (s.modPort t f).tr t = { s.tr t with port := f (s.tr t).port } :=
  State.tr_modTr_same _ _ _

theorem State.tr_modPort_other (s : State) {t u : Tr} (f : Port → Port) (h : u ≠ t) :
    (s.modPort t f).tr u = s.tr u :=
  State.tr_modTr_other _ _ h

@[simp] theorem State.modPort_store (s : State) (t : Tr) (f : Port → Port) : (s.modPort t f).store = s.store := rfl
@[simp] theorem State.modPort_exchange (s : State) (t : Tr) (f : Port → Port) : (s.modPort t f).exchange = s.exchange := rfl
@[simp] theorem State.modPort_arb (s : State) (t : Tr) (f : Port → Port) : (s.modPort t f).arb = s.arb := rfl
@[simp] theorem State.modPort_power (s : State) (t : Tr) (f : Port → Port) : (s.modPort t f).power = s.power := rfl
@[simp] theorem State.modPort_intr (s : State) (t : Tr) (f : Port → Port) : (s.modPort t f).intr = s.intr := rfl
@[simp] theorem State.modPort_summary (s : State) (t : Tr) (f : Port → Port) : (s.modPort t f).summary = s.summary := rfl
@[simp] theorem State.modPort_hostMemory (s : State) (t : Tr) (f : Port → Port) : (s.modPort t f).hostMemory = s.hostMemory := rfl
@[simp] theorem State.modPort_powered (s : State) (t : Tr) (f : Port → Port) : (s.modPort t f).powered = s.powered := rfl
@[simp] theorem State.modPort_freeIndex (s : State) (t : Tr) (f : Port → Port) : (s.modPort t f).freeIndex = s.freeIndex := rfl
@[simp] theorem State.modPort_pending (s : State) (t : Tr) (f : Port → Port) : (s.modPort t f).pending = s.pending := rfl

/-- `modCtl` as a change of the transport's record. -/
theorem State.modCtl_eq (s : State) (t : Tr) (f : Control → Control) :
    s.modCtl t f = s.modTr t fun x => { x with ctl := f x.ctl } := rfl

@[simp] theorem State.tr_modCtl_same (s : State) (t : Tr) (f : Control → Control) :
    (s.modCtl t f).tr t = { s.tr t with ctl := f (s.tr t).ctl } :=
  State.tr_modTr_same _ _ _

theorem State.tr_modCtl_other (s : State) {t u : Tr} (f : Control → Control) (h : u ≠ t) :
    (s.modCtl t f).tr u = s.tr u :=
  State.tr_modTr_other _ _ h

@[simp] theorem State.modCtl_store (s : State) (t : Tr) (f : Control → Control) : (s.modCtl t f).store = s.store := rfl
@[simp] theorem State.modCtl_exchange (s : State) (t : Tr) (f : Control → Control) : (s.modCtl t f).exchange = s.exchange := rfl
@[simp] theorem State.modCtl_arb (s : State) (t : Tr) (f : Control → Control) : (s.modCtl t f).arb = s.arb := rfl
@[simp] theorem State.modCtl_power (s : State) (t : Tr) (f : Control → Control) : (s.modCtl t f).power = s.power := rfl
@[simp] theorem State.modCtl_intr (s : State) (t : Tr) (f : Control → Control) : (s.modCtl t f).intr = s.intr := rfl
@[simp] theorem State.modCtl_summary (s : State) (t : Tr) (f : Control → Control) : (s.modCtl t f).summary = s.summary := rfl
@[simp] theorem State.modCtl_hostMemory (s : State) (t : Tr) (f : Control → Control) : (s.modCtl t f).hostMemory = s.hostMemory := rfl
@[simp] theorem State.modCtl_powered (s : State) (t : Tr) (f : Control → Control) : (s.modCtl t f).powered = s.powered := rfl
@[simp] theorem State.modCtl_freeIndex (s : State) (t : Tr) (f : Control → Control) : (s.modCtl t f).freeIndex = s.freeIndex := rfl
@[simp] theorem State.modCtl_pending (s : State) (t : Tr) (f : Control → Control) : (s.modCtl t f).pending = s.pending := rfl

/-- `modDrive` as a change of the transport's record. -/
theorem State.modDrive_eq (s : State) (t : Tr) (f : Drive → Drive) :
    s.modDrive t f = s.modTr t fun x => { x with drive := f x.drive } := rfl

@[simp] theorem State.tr_modDrive_same (s : State) (t : Tr) (f : Drive → Drive) :
    (s.modDrive t f).tr t = { s.tr t with drive := f (s.tr t).drive } :=
  State.tr_modTr_same _ _ _

theorem State.tr_modDrive_other (s : State) {t u : Tr} (f : Drive → Drive) (h : u ≠ t) :
    (s.modDrive t f).tr u = s.tr u :=
  State.tr_modTr_other _ _ h

@[simp] theorem State.modDrive_store (s : State) (t : Tr) (f : Drive → Drive) : (s.modDrive t f).store = s.store := rfl
@[simp] theorem State.modDrive_exchange (s : State) (t : Tr) (f : Drive → Drive) : (s.modDrive t f).exchange = s.exchange := rfl
@[simp] theorem State.modDrive_arb (s : State) (t : Tr) (f : Drive → Drive) : (s.modDrive t f).arb = s.arb := rfl
@[simp] theorem State.modDrive_power (s : State) (t : Tr) (f : Drive → Drive) : (s.modDrive t f).power = s.power := rfl
@[simp] theorem State.modDrive_intr (s : State) (t : Tr) (f : Drive → Drive) : (s.modDrive t f).intr = s.intr := rfl
@[simp] theorem State.modDrive_summary (s : State) (t : Tr) (f : Drive → Drive) : (s.modDrive t f).summary = s.summary := rfl
@[simp] theorem State.modDrive_hostMemory (s : State) (t : Tr) (f : Drive → Drive) : (s.modDrive t f).hostMemory = s.hostMemory := rfl
@[simp] theorem State.modDrive_powered (s : State) (t : Tr) (f : Drive → Drive) : (s.modDrive t f).powered = s.powered := rfl
@[simp] theorem State.modDrive_freeIndex (s : State) (t : Tr) (f : Drive → Drive) : (s.modDrive t f).freeIndex = s.freeIndex := rfl
@[simp] theorem State.modDrive_pending (s : State) (t : Tr) (f : Drive → Drive) : (s.modDrive t f).pending = s.pending := rfl

/-- `modChan` as a change of the transport's record. -/
theorem State.modChan_eq (s : State) (t : Tr) (f : Channel → Channel) :
    s.modChan t f = s.modTr t fun x => { x with chan := f x.chan } := rfl

@[simp] theorem State.tr_modChan_same (s : State) (t : Tr) (f : Channel → Channel) :
    (s.modChan t f).tr t = { s.tr t with chan := f (s.tr t).chan } :=
  State.tr_modTr_same _ _ _

theorem State.tr_modChan_other (s : State) {t u : Tr} (f : Channel → Channel) (h : u ≠ t) :
    (s.modChan t f).tr u = s.tr u :=
  State.tr_modTr_other _ _ h

@[simp] theorem State.modChan_store (s : State) (t : Tr) (f : Channel → Channel) : (s.modChan t f).store = s.store := rfl
@[simp] theorem State.modChan_exchange (s : State) (t : Tr) (f : Channel → Channel) : (s.modChan t f).exchange = s.exchange := rfl
@[simp] theorem State.modChan_arb (s : State) (t : Tr) (f : Channel → Channel) : (s.modChan t f).arb = s.arb := rfl
@[simp] theorem State.modChan_power (s : State) (t : Tr) (f : Channel → Channel) : (s.modChan t f).power = s.power := rfl
@[simp] theorem State.modChan_intr (s : State) (t : Tr) (f : Channel → Channel) : (s.modChan t f).intr = s.intr := rfl
@[simp] theorem State.modChan_summary (s : State) (t : Tr) (f : Channel → Channel) : (s.modChan t f).summary = s.summary := rfl
@[simp] theorem State.modChan_hostMemory (s : State) (t : Tr) (f : Channel → Channel) : (s.modChan t f).hostMemory = s.hostMemory := rfl
@[simp] theorem State.modChan_powered (s : State) (t : Tr) (f : Channel → Channel) : (s.modChan t f).powered = s.powered := rfl
@[simp] theorem State.modChan_freeIndex (s : State) (t : Tr) (f : Channel → Channel) : (s.modChan t f).freeIndex = s.freeIndex := rfl
@[simp] theorem State.modChan_pending (s : State) (t : Tr) (f : Channel → Channel) : (s.modChan t f).pending = s.pending := rfl

/-- `modXfer` as a change of the transport's record. -/
theorem State.modXfer_eq (s : State) (t : Tr) (f : Transfer → Transfer) :
    s.modXfer t f = s.modTr t fun x => { x with xfer := f x.xfer } := rfl

@[simp] theorem State.tr_modXfer_same (s : State) (t : Tr) (f : Transfer → Transfer) :
    (s.modXfer t f).tr t = { s.tr t with xfer := f (s.tr t).xfer } :=
  State.tr_modTr_same _ _ _

theorem State.tr_modXfer_other (s : State) {t u : Tr} (f : Transfer → Transfer) (h : u ≠ t) :
    (s.modXfer t f).tr u = s.tr u :=
  State.tr_modTr_other _ _ h

@[simp] theorem State.modXfer_store (s : State) (t : Tr) (f : Transfer → Transfer) : (s.modXfer t f).store = s.store := rfl
@[simp] theorem State.modXfer_exchange (s : State) (t : Tr) (f : Transfer → Transfer) : (s.modXfer t f).exchange = s.exchange := rfl
@[simp] theorem State.modXfer_arb (s : State) (t : Tr) (f : Transfer → Transfer) : (s.modXfer t f).arb = s.arb := rfl
@[simp] theorem State.modXfer_power (s : State) (t : Tr) (f : Transfer → Transfer) : (s.modXfer t f).power = s.power := rfl
@[simp] theorem State.modXfer_intr (s : State) (t : Tr) (f : Transfer → Transfer) : (s.modXfer t f).intr = s.intr := rfl
@[simp] theorem State.modXfer_summary (s : State) (t : Tr) (f : Transfer → Transfer) : (s.modXfer t f).summary = s.summary := rfl
@[simp] theorem State.modXfer_hostMemory (s : State) (t : Tr) (f : Transfer → Transfer) : (s.modXfer t f).hostMemory = s.hostMemory := rfl
@[simp] theorem State.modXfer_powered (s : State) (t : Tr) (f : Transfer → Transfer) : (s.modXfer t f).powered = s.powered := rfl
@[simp] theorem State.modXfer_freeIndex (s : State) (t : Tr) (f : Transfer → Transfer) : (s.modXfer t f).freeIndex = s.freeIndex := rfl
@[simp] theorem State.modXfer_pending (s : State) (t : Tr) (f : Transfer → Transfer) : (s.modXfer t f).pending = s.pending := rfl

/-- `modLoc` as a change of the transport's record. -/
theorem State.modLoc_eq (s : State) (t : Tr) (f : Locate → Locate) :
    s.modLoc t f = s.modTr t fun x => { x with loc := f x.loc } := rfl

@[simp] theorem State.tr_modLoc_same (s : State) (t : Tr) (f : Locate → Locate) :
    (s.modLoc t f).tr t = { s.tr t with loc := f (s.tr t).loc } :=
  State.tr_modTr_same _ _ _

theorem State.tr_modLoc_other (s : State) {t u : Tr} (f : Locate → Locate) (h : u ≠ t) :
    (s.modLoc t f).tr u = s.tr u :=
  State.tr_modTr_other _ _ h

@[simp] theorem State.modLoc_store (s : State) (t : Tr) (f : Locate → Locate) : (s.modLoc t f).store = s.store := rfl
@[simp] theorem State.modLoc_exchange (s : State) (t : Tr) (f : Locate → Locate) : (s.modLoc t f).exchange = s.exchange := rfl
@[simp] theorem State.modLoc_arb (s : State) (t : Tr) (f : Locate → Locate) : (s.modLoc t f).arb = s.arb := rfl
@[simp] theorem State.modLoc_power (s : State) (t : Tr) (f : Locate → Locate) : (s.modLoc t f).power = s.power := rfl
@[simp] theorem State.modLoc_intr (s : State) (t : Tr) (f : Locate → Locate) : (s.modLoc t f).intr = s.intr := rfl
@[simp] theorem State.modLoc_summary (s : State) (t : Tr) (f : Locate → Locate) : (s.modLoc t f).summary = s.summary := rfl
@[simp] theorem State.modLoc_hostMemory (s : State) (t : Tr) (f : Locate → Locate) : (s.modLoc t f).hostMemory = s.hostMemory := rfl
@[simp] theorem State.modLoc_powered (s : State) (t : Tr) (f : Locate → Locate) : (s.modLoc t f).powered = s.powered := rfl
@[simp] theorem State.modLoc_freeIndex (s : State) (t : Tr) (f : Locate → Locate) : (s.modLoc t f).freeIndex = s.freeIndex := rfl
@[simp] theorem State.modLoc_pending (s : State) (t : Tr) (f : Locate → Locate) : (s.modLoc t f).pending = s.pending := rfl

/-- `modSense` as a change of the transport's record. -/
theorem State.modSense_eq (s : State) (t : Tr) (f : Sensing → Sensing) :
    s.modSense t f = s.modTr t fun x => { x with sense := f x.sense } := rfl

@[simp] theorem State.tr_modSense_same (s : State) (t : Tr) (f : Sensing → Sensing) :
    (s.modSense t f).tr t = { s.tr t with sense := f (s.tr t).sense } :=
  State.tr_modTr_same _ _ _

theorem State.tr_modSense_other (s : State) {t u : Tr} (f : Sensing → Sensing) (h : u ≠ t) :
    (s.modSense t f).tr u = s.tr u :=
  State.tr_modTr_other _ _ h

@[simp] theorem State.modSense_store (s : State) (t : Tr) (f : Sensing → Sensing) : (s.modSense t f).store = s.store := rfl
@[simp] theorem State.modSense_exchange (s : State) (t : Tr) (f : Sensing → Sensing) : (s.modSense t f).exchange = s.exchange := rfl
@[simp] theorem State.modSense_arb (s : State) (t : Tr) (f : Sensing → Sensing) : (s.modSense t f).arb = s.arb := rfl
@[simp] theorem State.modSense_power (s : State) (t : Tr) (f : Sensing → Sensing) : (s.modSense t f).power = s.power := rfl
@[simp] theorem State.modSense_intr (s : State) (t : Tr) (f : Sensing → Sensing) : (s.modSense t f).intr = s.intr := rfl
@[simp] theorem State.modSense_summary (s : State) (t : Tr) (f : Sensing → Sensing) : (s.modSense t f).summary = s.summary := rfl
@[simp] theorem State.modSense_hostMemory (s : State) (t : Tr) (f : Sensing → Sensing) : (s.modSense t f).hostMemory = s.hostMemory := rfl
@[simp] theorem State.modSense_powered (s : State) (t : Tr) (f : Sensing → Sensing) : (s.modSense t f).powered = s.powered := rfl
@[simp] theorem State.modSense_freeIndex (s : State) (t : Tr) (f : Sensing → Sensing) : (s.modSense t f).freeIndex = s.freeIndex := rfl
@[simp] theorem State.modSense_pending (s : State) (t : Tr) (f : Sensing → Sensing) : (s.modSense t f).pending = s.pending := rfl

/-! ### Parts of a transport's record -/

@[simp] theorem Drive.activate_active (d : Drive) (p : Profile) : (d.activate p).active = p := rfl
@[simp] theorem Drive.activate_staged (d : Drive) (p : Profile) : (d.activate p).staged = none := rfl
@[simp] theorem Drive.activate_phase (d : Drive) (p : Profile) : (d.activate p).phase = d.phase := rfl
@[simp] theorem Drive.activate_command (d : Drive) (p : Profile) : (d.activate p).command = d.command := rfl
@[simp] theorem Drive.activate_mode (d : Drive) (p : Profile) : (d.activate p).mode = d.mode := rfl
@[simp] theorem Drive.activate_stopKind (d : Drive) (p : Profile) : (d.activate p).stopKind = d.stopKind := rfl
@[simp] theorem Drive.activate_pending (d : Drive) (p : Profile) : (d.activate p).pending = d.pending := rfl
@[simp] theorem Formation.put_bytes (f : Formation) (b : Byte) : (f.put b).bytes = f.bytes ++ [b] := rfl
@[simp] theorem Formation.put_phase (f : Formation) (b : Byte) : (f.put b).phase = f.phase := rfl
@[simp] theorem Formation.put_steps (f : Formation) (b : Byte) : (f.put b).steps = f.steps := rfl
@[simp] theorem Transfer.giveUp_fifo (x : Transfer) (k : Nat) : (x.giveUp k).fifo = x.fifo.drop k := rfl
@[simp] theorem Transfer.giveUp_resultBytes (x : Transfer) (k : Nat) : (x.giveUp k).resultBytes = x.resultBytes := rfl
@[simp] theorem Transfer.delivered_fifo (x : Transfer) (ns : List Nat) : (x.delivered ns).fifo = x.fifo := rfl
@[simp] theorem Transfer.delivered_roomLeft (x : Transfer) (ns : List Nat) : (x.delivered ns).roomLeft = x.roomLeft := rfl
@[simp] theorem Transfer.delivered_order (x : Transfer) (ns : List Nat) : (x.delivered ns).order = x.order := rfl
@[simp] theorem Transfer.delivered_phase (x : Transfer) (ns : List Nat) : (x.delivered ns).phase = x.phase := rfl
@[simp] theorem Transfer.delivered_resultBytes (x : Transfer) (ns : List Nat) :
    (x.delivered ns).resultBytes = x.resultBytes + ns.sum := rfl
@[simp] theorem Transfer.delivered_hostAddress (x : Transfer) (ns : List Nat) :
    (x.delivered ns).hostAddress = (x.hostAddress + 2 * ns.length) % 16777216 := rfl
@[simp] theorem Transfer.keepDelivered_mark (x : Transfer) :
    x.keepDelivered.mark = (x.mark.1, x.resultBytes, x.hostAddress) := rfl
@[simp] theorem Transfer.keepDelivered_joined (x : Transfer) :
    x.keepDelivered.joined = min x.joined (x.fifo.length - x.ends.sum) := rfl
@[simp] theorem Transfer.keepDelivered_fifo (x : Transfer) : x.keepDelivered.fifo = x.fifo := rfl
@[simp] theorem Transfer.keepDelivered_order (x : Transfer) : x.keepDelivered.order = x.order := rfl
@[simp] theorem Transfer.keepDelivered_phase (x : Transfer) : x.keepDelivered.phase = x.phase := rfl
@[simp] theorem Transfer.keepDelivered_resultBytes (x : Transfer) : x.keepDelivered.resultBytes = x.resultBytes := rfl
/-- A record that gives its bytes back after that leaves the result bytes as they were (R168, R169). -/
@[simp] theorem Transfer.giveBack_keepDelivered (x : Transfer) :
    x.keepDelivered.giveBack.resultBytes = x.resultBytes := rfl
@[simp] theorem Transfer.giveBack_order (x : Transfer) : x.giveBack.order = x.order := rfl
@[simp] theorem Transfer.giveBack_ends (x : Transfer) : x.giveBack.ends = x.ends := rfl
@[simp] theorem Transfer.giveBack_resultBytes (x : Transfer) : x.giveBack.resultBytes = x.mark.2.1 := rfl
@[simp] theorem BusTransfer.giveBack_words (b : BusTransfer) (x : Transfer) : (b.giveBack x).words = b.words := rfl
@[simp] theorem BusTransfer.giveBack_length (b : BusTransfer) (x : Transfer) : (b.giveBack x).length = b.length := rfl
@[simp] theorem BusTransfer.giveBack_orphan (b : BusTransfer) (x : Transfer) : (b.giveBack x).orphan = b.orphan := rfl
@[simp] theorem Arbiter.giveBack_control (a : Arbiter) (t : Tr) (x : Transfer) : (a.giveBack t x).control = a.control := rfl
@[simp] theorem Arbiter.giveBack_dataLast (a : Arbiter) (t : Tr) (x : Transfer) : (a.giveBack t x).dataLast = a.dataLast := rfl
@[simp] theorem Arbiter.giveBack_controlLast (a : Arbiter) (t : Tr) (x : Transfer) :
    (a.giveBack t x).controlLast = a.controlLast := rfl

/-- The words of a burst that carry bytes of earlier records are its first ones (R155). -/
theorem Transfer.olderWords_prefix (x : Transfer) (ns : List Nat) : ∃ k, ns = x.olderWords ns ++ ns.drop k :=
  ⟨_, (List.take_append_drop _ _).symm⟩

/-- While no byte of a record being handed has joined the FIFO, every word of a burst is an earlier record's (R155). -/
theorem Transfer.olderWords_of_joined {x : Transfer} {ns : List Nat} (h : x.joined = 0) : x.olderWords ns = ns := by
  simp [Transfer.olderWords, Transfer.ownWords, ceilDiv, h]

/-- What a delivery does to the counts that a record would give back (R155, R159; log 26). -/
theorem Transfer.delivered_giveBack {x : Transfer} {ns : List Nat} (h : x.joined = 0) :
    (x.delivered ns).giveBack.resultBytes = x.giveBack.resultBytes + ns.sum := by
  simp [Transfer.delivered, Transfer.giveBack, Transfer.olderWords_of_joined h]

@[simp] theorem Transport.skipOver_chan (x : Transport) : x.skipOver.chan = x.chan := by
  unfold Transport.skipOver; split <;> rfl
@[simp] theorem Transport.skipOver_reck (x : Transport) : x.skipOver.reck = x.reck := by
  unfold Transport.skipOver; split <;> rfl
@[simp] theorem Transport.skipOver_port (x : Transport) : x.skipOver.port = x.port := by
  unfold Transport.skipOver; split <;> rfl

/-- The words of a stream hold its bytes in their order (R155). -/
@[simp] theorem wordBytes_flatten (bs : List Byte) : (wordBytes bs).flatten = bs := by
  induction bs using wordBytes.induct with
  | case1 => rfl
  | case2 b => rfl
  | case3 b c rest ih => simp [wordBytes, ih]

/-- The words that leave the FIFO hold its oldest bytes in their order (R155). -/
theorem fifoWords_prefix (handing : Bool) (ends : List Nat) (bs : List Byte) :
    (fifoWords handing ends bs).flatten <+: bs := by
  induction ends generalizing bs with
  | nil => cases handing <;> simp [fifoWords, List.take_prefix]
  | cons n rest ih =>
    simp only [fifoWords, List.flatten_append, wordBytes_flatten]
    obtain ⟨tail, h⟩ := ih (bs.drop n)
    exact ⟨tail, by rw [List.append_assoc, h, List.take_append_drop]⟩

/-- A stamp has eight bytes (5.4). -/
theorem stampBytes_length (block file : Nat) (kind : RecordKind) (volumeCheck : Byte) :
    (stampBytes block file kind volumeCheck).length = 8 := rfl

/-! ### Host memory, the Map Store, the Arbiter, the queue -/

@[simp] theorem State.hostWrite_trs (s : State) (a : Nat) (ws : List Word) : (s.hostWrite a ws).trs = s.trs := rfl
@[simp] theorem State.hostWrite_store (s : State) (a : Nat) (ws : List Word) : (s.hostWrite a ws).store = s.store := rfl
@[simp] theorem State.hostWrite_exchange (s : State) (a : Nat) (ws : List Word) : (s.hostWrite a ws).exchange = s.exchange := rfl
@[simp] theorem State.hostWrite_arb (s : State) (a : Nat) (ws : List Word) : (s.hostWrite a ws).arb = s.arb := rfl
@[simp] theorem State.hostWrite_power (s : State) (a : Nat) (ws : List Word) : (s.hostWrite a ws).power = s.power := rfl
@[simp] theorem State.hostWrite_intr (s : State) (a : Nat) (ws : List Word) : (s.hostWrite a ws).intr = s.intr := rfl
@[simp] theorem State.hostWrite_summary (s : State) (a : Nat) (ws : List Word) : (s.hostWrite a ws).summary = s.summary := rfl
@[simp] theorem State.hostWrite_powered (s : State) (a : Nat) (ws : List Word) : (s.hostWrite a ws).powered = s.powered := rfl
@[simp] theorem State.hostWrite_freeIndex (s : State) (a : Nat) (ws : List Word) : (s.hostWrite a ws).freeIndex = s.freeIndex := rfl
@[simp] theorem State.hostWrite_pending (s : State) (a : Nat) (ws : List Word) : (s.hostWrite a ws).pending = s.pending := rfl
@[simp] theorem State.setReel_trs (s : State) (t : Tr) (r : ReelRecord) : (s.setReel t r).trs = s.trs := rfl
@[simp] theorem State.setReel_exchange (s : State) (t : Tr) (r : ReelRecord) : (s.setReel t r).exchange = s.exchange := rfl
@[simp] theorem State.setReel_arb (s : State) (t : Tr) (r : ReelRecord) : (s.setReel t r).arb = s.arb := rfl
@[simp] theorem State.setReel_power (s : State) (t : Tr) (r : ReelRecord) : (s.setReel t r).power = s.power := rfl
@[simp] theorem State.setReel_intr (s : State) (t : Tr) (r : ReelRecord) : (s.setReel t r).intr = s.intr := rfl
@[simp] theorem State.setReel_summary (s : State) (t : Tr) (r : ReelRecord) : (s.setReel t r).summary = s.summary := rfl
@[simp] theorem State.setReel_hostMemory (s : State) (t : Tr) (r : ReelRecord) : (s.setReel t r).hostMemory = s.hostMemory := rfl
@[simp] theorem State.setReel_powered (s : State) (t : Tr) (r : ReelRecord) : (s.setReel t r).powered = s.powered := rfl
@[simp] theorem State.setReel_freeIndex (s : State) (t : Tr) (r : ReelRecord) : (s.setReel t r).freeIndex = s.freeIndex := rfl
@[simp] theorem State.setReel_pending (s : State) (t : Tr) (r : ReelRecord) : (s.setReel t r).pending = s.pending := rfl
@[simp] theorem State.reel_setReel_same (s : State) (t : Tr) (r : ReelRecord) : (s.setReel t r).reel t = r :=
  Four.get_set_same _ _ _

theorem State.reel_setReel_other (s : State) {t u : Tr} (r : ReelRecord) (h : u ≠ t) :
    (s.setReel t r).reel u = s.reel u :=
  Four.get_set_other _ _ h

@[simp] theorem State.setEntries_trs (s : State) (t : Tr) (es : List Entry) : (s.setEntries t es).trs = s.trs := rfl
@[simp] theorem State.setEntries_exchange (s : State) (t : Tr) (es : List Entry) : (s.setEntries t es).exchange = s.exchange := rfl
@[simp] theorem State.setEntries_arb (s : State) (t : Tr) (es : List Entry) : (s.setEntries t es).arb = s.arb := rfl
@[simp] theorem State.setEntries_power (s : State) (t : Tr) (es : List Entry) : (s.setEntries t es).power = s.power := rfl
@[simp] theorem State.setEntries_intr (s : State) (t : Tr) (es : List Entry) : (s.setEntries t es).intr = s.intr := rfl
@[simp] theorem State.setEntries_summary (s : State) (t : Tr) (es : List Entry) : (s.setEntries t es).summary = s.summary := rfl
@[simp] theorem State.setEntries_hostMemory (s : State) (t : Tr) (es : List Entry) : (s.setEntries t es).hostMemory = s.hostMemory := rfl
@[simp] theorem State.setEntries_powered (s : State) (t : Tr) (es : List Entry) : (s.setEntries t es).powered = s.powered := rfl
@[simp] theorem State.setEntries_freeIndex (s : State) (t : Tr) (es : List Entry) : (s.setEntries t es).freeIndex = s.freeIndex := rfl
@[simp] theorem State.setEntries_pending (s : State) (t : Tr) (es : List Entry) : (s.setEntries t es).pending = s.pending := rfl
@[simp] theorem State.requestControl_trs (s : State) (t : Tr) (x : BusTransfer) : (s.requestControl t x).trs = s.trs := rfl
@[simp] theorem State.requestControl_store (s : State) (t : Tr) (x : BusTransfer) : (s.requestControl t x).store = s.store := rfl
@[simp] theorem State.requestControl_exchange (s : State) (t : Tr) (x : BusTransfer) : (s.requestControl t x).exchange = s.exchange := rfl
@[simp] theorem State.requestControl_power (s : State) (t : Tr) (x : BusTransfer) : (s.requestControl t x).power = s.power := rfl
@[simp] theorem State.requestControl_intr (s : State) (t : Tr) (x : BusTransfer) : (s.requestControl t x).intr = s.intr := rfl
@[simp] theorem State.requestControl_summary (s : State) (t : Tr) (x : BusTransfer) : (s.requestControl t x).summary = s.summary := rfl
@[simp] theorem State.requestControl_hostMemory (s : State) (t : Tr) (x : BusTransfer) : (s.requestControl t x).hostMemory = s.hostMemory := rfl
@[simp] theorem State.requestControl_powered (s : State) (t : Tr) (x : BusTransfer) : (s.requestControl t x).powered = s.powered := rfl
@[simp] theorem State.requestControl_freeIndex (s : State) (t : Tr) (x : BusTransfer) : (s.requestControl t x).freeIndex = s.freeIndex := rfl
@[simp] theorem State.requestControl_pending (s : State) (t : Tr) (x : BusTransfer) : (s.requestControl t x).pending = s.pending := rfl
@[simp] theorem State.requestData_trs (s : State) (t : Tr) (k : TransferKind) : (s.requestData t k).trs = s.trs := rfl
@[simp] theorem State.requestData_store (s : State) (t : Tr) (k : TransferKind) : (s.requestData t k).store = s.store := rfl
@[simp] theorem State.requestData_exchange (s : State) (t : Tr) (k : TransferKind) : (s.requestData t k).exchange = s.exchange := rfl
@[simp] theorem State.requestData_power (s : State) (t : Tr) (k : TransferKind) : (s.requestData t k).power = s.power := rfl
@[simp] theorem State.requestData_intr (s : State) (t : Tr) (k : TransferKind) : (s.requestData t k).intr = s.intr := rfl
@[simp] theorem State.requestData_summary (s : State) (t : Tr) (k : TransferKind) : (s.requestData t k).summary = s.summary := rfl
@[simp] theorem State.requestData_hostMemory (s : State) (t : Tr) (k : TransferKind) : (s.requestData t k).hostMemory = s.hostMemory := rfl
@[simp] theorem State.requestData_powered (s : State) (t : Tr) (k : TransferKind) : (s.requestData t k).powered = s.powered := rfl
@[simp] theorem State.requestData_freeIndex (s : State) (t : Tr) (k : TransferKind) : (s.requestData t k).freeIndex = s.freeIndex := rfl
@[simp] theorem State.requestData_pending (s : State) (t : Tr) (k : TransferKind) : (s.requestData t k).pending = s.pending := rfl
@[simp] theorem State.withdrawControl_trs (s : State) (t : Tr) : (s.withdrawControl t).trs = s.trs := rfl
@[simp] theorem State.withdrawControl_store (s : State) (t : Tr) : (s.withdrawControl t).store = s.store := rfl
@[simp] theorem State.withdrawControl_exchange (s : State) (t : Tr) : (s.withdrawControl t).exchange = s.exchange := rfl
@[simp] theorem State.withdrawControl_power (s : State) (t : Tr) : (s.withdrawControl t).power = s.power := rfl
@[simp] theorem State.withdrawControl_intr (s : State) (t : Tr) : (s.withdrawControl t).intr = s.intr := rfl
@[simp] theorem State.withdrawControl_summary (s : State) (t : Tr) : (s.withdrawControl t).summary = s.summary := rfl
@[simp] theorem State.withdrawControl_hostMemory (s : State) (t : Tr) : (s.withdrawControl t).hostMemory = s.hostMemory := rfl
@[simp] theorem State.withdrawControl_powered (s : State) (t : Tr) : (s.withdrawControl t).powered = s.powered := rfl
@[simp] theorem State.withdrawControl_freeIndex (s : State) (t : Tr) : (s.withdrawControl t).freeIndex = s.freeIndex := rfl
@[simp] theorem State.withdrawControl_pending (s : State) (t : Tr) : (s.withdrawControl t).pending = s.pending := rfl
@[simp] theorem State.withdrawData_trs (s : State) (t : Tr) : (s.withdrawData t).trs = s.trs := rfl
@[simp] theorem State.withdrawData_store (s : State) (t : Tr) : (s.withdrawData t).store = s.store := rfl
@[simp] theorem State.withdrawData_exchange (s : State) (t : Tr) : (s.withdrawData t).exchange = s.exchange := rfl
@[simp] theorem State.withdrawData_power (s : State) (t : Tr) : (s.withdrawData t).power = s.power := rfl
@[simp] theorem State.withdrawData_intr (s : State) (t : Tr) : (s.withdrawData t).intr = s.intr := rfl
@[simp] theorem State.withdrawData_summary (s : State) (t : Tr) : (s.withdrawData t).summary = s.summary := rfl
@[simp] theorem State.withdrawData_hostMemory (s : State) (t : Tr) : (s.withdrawData t).hostMemory = s.hostMemory := rfl
@[simp] theorem State.withdrawData_powered (s : State) (t : Tr) : (s.withdrawData t).powered = s.powered := rfl
@[simp] theorem State.withdrawData_freeIndex (s : State) (t : Tr) : (s.withdrawData t).freeIndex = s.freeIndex := rfl
@[simp] theorem State.withdrawData_pending (s : State) (t : Tr) : (s.withdrawData t).pending = s.pending := rfl
@[simp] theorem State.withPending_trs (s : State) (q : List Instr) : (s.withPending q).trs = s.trs := rfl
@[simp] theorem State.withPending_store (s : State) (q : List Instr) : (s.withPending q).store = s.store := rfl
@[simp] theorem State.withPending_exchange (s : State) (q : List Instr) : (s.withPending q).exchange = s.exchange := rfl
@[simp] theorem State.withPending_arb (s : State) (q : List Instr) : (s.withPending q).arb = s.arb := rfl
@[simp] theorem State.withPending_power (s : State) (q : List Instr) : (s.withPending q).power = s.power := rfl
@[simp] theorem State.withPending_intr (s : State) (q : List Instr) : (s.withPending q).intr = s.intr := rfl
@[simp] theorem State.withPending_summary (s : State) (q : List Instr) : (s.withPending q).summary = s.summary := rfl
@[simp] theorem State.withPending_hostMemory (s : State) (q : List Instr) : (s.withPending q).hostMemory = s.hostMemory := rfl
@[simp] theorem State.withPending_powered (s : State) (q : List Instr) : (s.withPending q).powered = s.powered := rfl
@[simp] theorem State.withPending_freeIndex (s : State) (q : List Instr) : (s.withPending q).freeIndex = s.freeIndex := rfl
@[simp] theorem State.finish_trs (s : State) : (s.finish).trs = s.trs := by unfold State.finish; rfl
@[simp] theorem State.finish_store (s : State) : (s.finish).store = s.store := by unfold State.finish; rfl
@[simp] theorem State.finish_exchange (s : State) : (s.finish).exchange = s.exchange := by unfold State.finish; rfl
@[simp] theorem State.finish_arb (s : State) : (s.finish).arb = s.arb := by unfold State.finish; rfl
@[simp] theorem State.finish_hostMemory (s : State) : (s.finish).hostMemory = s.hostMemory := by unfold State.finish; rfl
@[simp] theorem State.finish_powered (s : State) : (s.finish).powered = s.powered := by unfold State.finish; rfl
@[simp] theorem State.finish_freeIndex (s : State) : (s.finish).freeIndex = s.freeIndex := by unfold State.finish; rfl
@[simp] theorem State.finish_pending (s : State) : (s.finish).pending = s.pending := by unfold State.finish; rfl
@[simp] theorem State.refresh_store (s : State) (t : Tr) : (s.refresh t).store = s.store := rfl
@[simp] theorem State.refresh_exchange (s : State) (t : Tr) : (s.refresh t).exchange = s.exchange := rfl
@[simp] theorem State.refresh_arb (s : State) (t : Tr) : (s.refresh t).arb = s.arb := rfl
@[simp] theorem State.refresh_power (s : State) (t : Tr) : (s.refresh t).power = s.power := rfl
@[simp] theorem State.refresh_intr (s : State) (t : Tr) : (s.refresh t).intr = s.intr := rfl
@[simp] theorem State.refresh_summary (s : State) (t : Tr) : (s.refresh t).summary = s.summary := rfl
@[simp] theorem State.refresh_hostMemory (s : State) (t : Tr) : (s.refresh t).hostMemory = s.hostMemory := rfl
@[simp] theorem State.refresh_powered (s : State) (t : Tr) : (s.refresh t).powered = s.powered := rfl
@[simp] theorem State.refresh_freeIndex (s : State) (t : Tr) : (s.refresh t).freeIndex = s.freeIndex := rfl
@[simp] theorem State.refresh_pending (s : State) (t : Tr) : (s.refresh t).pending = s.pending := rfl

/-! ### The records of the transports and of the reels after the other updates -/

@[simp] theorem State.tr_hostWrite (s : State) (a : Nat) (ws : List Word) (u : Tr) : (s.hostWrite a ws).tr u = s.tr u := rfl
@[simp] theorem State.reel_hostWrite (s : State) (a : Nat) (ws : List Word) (u : Tr) : (s.hostWrite a ws).reel u = s.reel u := rfl
@[simp] theorem State.tr_setReel (s : State) (t : Tr) (r : ReelRecord) (u : Tr) : (s.setReel t r).tr u = s.tr u := rfl
@[simp] theorem State.tr_setEntries (s : State) (t : Tr) (es : List Entry) (u : Tr) : (s.setEntries t es).tr u = s.tr u := rfl
@[simp] theorem State.tr_requestControl (s : State) (t : Tr) (x : BusTransfer) (u : Tr) : (s.requestControl t x).tr u = s.tr u := rfl
@[simp] theorem State.reel_requestControl (s : State) (t : Tr) (x : BusTransfer) (u : Tr) : (s.requestControl t x).reel u = s.reel u := rfl
@[simp] theorem State.tr_requestData (s : State) (t : Tr) (k : TransferKind) (u : Tr) : (s.requestData t k).tr u = s.tr u := rfl
@[simp] theorem State.reel_requestData (s : State) (t : Tr) (k : TransferKind) (u : Tr) : (s.requestData t k).reel u = s.reel u := rfl
@[simp] theorem State.tr_withdrawControl (s : State) (t : Tr) (u : Tr) : (s.withdrawControl t).tr u = s.tr u := rfl
@[simp] theorem State.reel_withdrawControl (s : State) (t : Tr) (u : Tr) : (s.withdrawControl t).reel u = s.reel u := rfl
@[simp] theorem State.tr_withdrawData (s : State) (t : Tr) (u : Tr) : (s.withdrawData t).tr u = s.tr u := rfl
@[simp] theorem State.reel_withdrawData (s : State) (t : Tr) (u : Tr) : (s.withdrawData t).reel u = s.reel u := rfl
@[simp] theorem State.tr_withPending (s : State) (q : List Instr) (u : Tr) : (s.withPending q).tr u = s.tr u := rfl
@[simp] theorem State.reel_withPending (s : State) (q : List Instr) (u : Tr) : (s.withPending q).reel u = s.reel u := rfl
@[simp] theorem State.reel_setTr (s : State) (t : Tr) (x : Transport) (u : Tr) : (s.setTr t x).reel u = s.reel u := rfl
@[simp] theorem State.reel_modTr (s : State) (t : Tr) (f : Transport → Transport) (u : Tr) : (s.modTr t f).reel u = s.reel u := rfl
@[simp] theorem State.reel_modPort (s : State) (t : Tr) (f : Port → Port) (u : Tr) : (s.modPort t f).reel u = s.reel u := rfl
@[simp] theorem State.reel_modCtl (s : State) (t : Tr) (f : Control → Control) (u : Tr) : (s.modCtl t f).reel u = s.reel u := rfl
@[simp] theorem State.reel_modDrive (s : State) (t : Tr) (f : Drive → Drive) (u : Tr) : (s.modDrive t f).reel u = s.reel u := rfl
@[simp] theorem State.reel_modChan (s : State) (t : Tr) (f : Channel → Channel) (u : Tr) : (s.modChan t f).reel u = s.reel u := rfl
@[simp] theorem State.reel_modXfer (s : State) (t : Tr) (f : Transfer → Transfer) (u : Tr) : (s.modXfer t f).reel u = s.reel u := rfl
@[simp] theorem State.reel_modLoc (s : State) (t : Tr) (f : Locate → Locate) (u : Tr) : (s.modLoc t f).reel u = s.reel u := rfl
@[simp] theorem State.reel_modSense (s : State) (t : Tr) (f : Sensing → Sensing) (u : Tr) : (s.modSense t f).reel u = s.reel u := rfl
@[simp] theorem State.requestControl_arb (s : State) (t : Tr) (x : BusTransfer) :
    (s.requestControl t x).arb = { s.arb with control := s.arb.control.set t (some x) } := rfl
@[simp] theorem State.requestData_arb (s : State) (t : Tr) (k : TransferKind) :
    (s.requestData t k).arb = { s.arb with data := s.arb.data.set t (some k) } := rfl
@[simp] theorem State.setEntries_reel_same (s : State) (t : Tr) (es : List Entry) :
    (s.setEntries t es).reel t = { s.reel t with entries := es } := State.reel_setReel_same _ _ _
@[simp] theorem State.raiseIndIf_store (s : State) (t : Tr) (b : Bool) (i : Indicator) :
    (s.raiseIndIf t b i).store = s.store := by
  unfold State.raiseIndIf; split <;> rfl
@[simp] theorem State.raiseIndIf_reel (s : State) (t : Tr) (b : Bool) (i : Indicator) (u : Tr) :
    (s.raiseIndIf t b i).reel u = s.reel u := by
  simp only [State.reel, State.raiseIndIf_store]

/-- Setting EOD leaves the entries below it and nothing else of the record changed (R96, R105). -/
@[simp] theorem State.setEod_reel_same (s : State) (t : Tr) (n : Nat) :
    (s.setEod t n).reel t =
      { s.reel t with entries := (s.reel t).entries.filter (·.block < n), eod := some n } :=
  (State.raiseIndIf_reel _ _ _ _ _).trans (State.reel_setReel_same _ _ _)

/-- After EOD is set every entry of the record stands below it (R96). -/
theorem State.setEod_below (s : State) (t : Tr) (n : Nat) :
    ∀ e ∈ ((s.setEod t n).reel t).entries, e.block < n := by
  simp

@[simp] theorem State.withPending_pending (s : State) (q : List Instr) : (s.withPending q).pending = q := rfl
@[simp] theorem State.finish_tr (s : State) (t : Tr) : s.finish.tr t = s.tr t := by simp only [State.tr, State.finish]
@[simp] theorem State.finish_intr (s : State) : s.finish.intr = intrOf s.trs := by unfold State.finish; rfl
@[simp] theorem State.finish_summary (s : State) : s.finish.summary = summaryOf s.trs s.power := by unfold State.finish; rfl
@[simp] theorem State.finish_power (s : State) :
    s.finish.power = { s.power with checkWord := retainedSum s.store } := by
  unfold State.finish; rfl
@[simp] theorem State.finish_reel (s : State) (t : Tr) : s.finish.reel t = s.reel t := by simp only [State.reel, State.finish]
@[simp] theorem State.tr_refresh_same (s : State) (t : Tr) : (s.refresh t).tr t = (s.tr t).refresh :=
  State.tr_modTr_same _ _ _
theorem State.tr_refresh_other (s : State) {t u : Tr} (h : u ≠ t) : (s.refresh t).tr u = s.tr u :=
  State.tr_modTr_other _ _ h
@[simp] theorem State.refresh_reel (s : State) (t u : Tr) : (s.refresh t).reel u = s.reel u := rfl

/-! ### The retained store (R180) -/

theorem wordSum_append (xs ys : List Word) : wordSum (xs ++ ys) = wordSum xs + wordSum ys := by
  induction xs with
  | nil => simp [wordSum]
  | cons x xs ih => simp [wordSum, ih, BitVec.add_assoc]

/-- The numbers 0 to n − 1 sum to n (n − 1) / 2. -/
theorem wordSum_range (n : Nat) : wordSum ((List.range n).map (BitVec.ofNat 16)) = BitVec.ofNat 16 (n * (n - 1) / 2) := by
  induction n with
  | zero => rfl
  | succ n ih =>
    rw [List.range_succ, List.map_append, wordSum_append, ih]
    have h : (n + 1) * (n + 1 - 1) / 2 = n * (n - 1) / 2 + n := by
      cases n with
      | zero => rfl
      | succ k =>
        have : (k + 1 + 1) * (k + 1 + 1 - 1) = (k + 1) * (k + 1 - 1) + (k + 1) * 2 := by simp; ring
        rw [this, Nat.add_mul_div_right _ _ (by decide)]
    rw [h, BitVec.ofNat_add]; simp [wordSum]

/-- The sum of the slot numbers is that of all 2048 pool slots, the free ones among them (R180). -/
theorem slotNumberSum_eq : slotNumberSum = wordSum ((List.range 2048).map (BitVec.ofNat 16)) := by
  rw [wordSum_range]; rfl

end Sys2Proof.Machine
end

