-- ==== Sys2Proof/Laws/Runs.lean ====
section
/-! SUPPORT. What the shared ways of running a command can do: settling, runs of one transport and of all, ends of
transfers, and the ending of an order. -/
namespace Sys2Proof.Machine

/-! ### Settling -/

theorem State.settle_rest {s : State} {t : Tr} (n : Nat) (h : s.settleOnce t = none) : State.settle n s t = s := by
  cases n <;> simp [State.settle, h]

theorem State.settle_step {s s' : State} {t : Tr} (n : Nat) (h : s.settleOnce t = some s') :
    State.settle (n + 1) s t = State.settle n s' t := by
  simp [State.settle, h]

theorem State.settled_rest {s : State} {t : Tr} (h : s.settleOnce t = none) : s.settled t = s :=
  State.settle_rest 400 h

/-- Two things come about by themselves, and then nothing more. -/
theorem State.settled_step {s s' : State} {t : Tr} (h : s.settleOnce t = some s') (h' : s'.settleOnce t = none) :
    s.settled t = s' := by
  simp only [State.settled, State.settle_step 399 h, State.settle_rest 399 h']

/-- A transport that moves has nothing that comes about by itself. -/
theorem State.settleOnce_moving {s : State} {t : Tr} (h : (s.tr t).drive.atRest = false) : s.settleOnce t = none := by
  simp [State.settleOnce, h]

/-- At rest with no stop kind, no stopped unloading and no pending request, nothing comes about. -/
theorem State.settleOnce_rest {s : State} {t : Tr} (hk : (s.tr t).drive.stopKind = .none)
    (hu : (s.tr t).ctl.unloadEnding = false) (hp : (s.tr t).drive.pending = none) : s.settleOnce t = none := by
  simp [State.settleOnce, hk, hu, hp]

/-! ### Runs -/

theorem runOn_powered {t : Tr} {s : State} {f : State → State} (h : s.powered = true) :
    runOn t s f = .next ((f s).refresh t).finish := by
  simp [runOn, h]

theorem runOn_unpowered {t : Tr} {s : State} {f : State → State} (h : s.powered = false) : runOn t s f = .next s := by
  simp [runOn, h]

theorem runTr_powered {t : Tr} {s : State} {f : State → State} (h : s.powered = true) :
    runTr t s f = .next ((((f s).settled t).refresh t).finish) := by
  simp [runTr, runOn, h]

theorem runTr_unpowered {t : Tr} {s : State} {f : State → State} (h : s.powered = false) : runTr t s f = .next s := by
  simp [runTr, runOn, h]

theorem runEach_powered {s : State} {f : State → State} (h : s.powered = true) :
    runEach s f = .next ((f s).settleAll.refreshAll.finish) := by
  simp [runEach, runAll, h]

theorem runEach_unpowered {s : State} {f : State → State} (h : s.powered = false) : runEach s f = .next s := by
  simp [runEach, runAll, h]

theorem State.settleAll_rest {s : State} (h0 : s.settleOnce .t0 = none) (h1 : s.settleOnce .t1 = none)
    (h2 : s.settleOnce .t2 = none) (h3 : s.settleOnce .t3 = none) : s.settleAll = s := by
  simp [State.settleAll, State.settled_rest, h0, h1, h2, h3]

/-- A run that answers has left the state as it was, or has finished what it did. -/
theorem runOn_next {t : Tr} {s s' : State} {f : State → State} (h : runOn t s f = .next s') :
    (s.powered = false ∧ s' = s) ∨ (s.powered = true ∧ s' = ((f s).refresh t).finish) := by
  cases hp : s.powered <;> simp_all [runOn]

/-- See `runOn_next`. -/
theorem runAll_next {s s' : State} {f : State → State} (h : runAll s f = .next s') :
    (s.powered = false ∧ s' = s) ∨ (s.powered = true ∧ s' = (f s).refreshAll.finish) := by
  cases hp : s.powered <;> simp_all [runAll]

/-! ### Ends of transfers (R149, R150) -/

/-- What the end of a read transfer can do. -/
theorem endRead_next {k : TransferKind} {ws : List Word} {s s' : State} {f : Tr → State → State}
    (h : endRead k ws s f = .next s') :
    s' = s ∨ ∃ t x, s.arb.current = some (t, x) ∧ x.kind = k ∧ ws.length = x.length ∧
      runEach s (fun s => if x.orphan then s.freePort x x.length else f t (s.freePort x x.length)) = .next s' := by
  unfold endRead at h
  split at h
  · split at h
    · split at h
      · exact .inr ⟨_, _, ‹_›, ‹_›, ‹_›, h⟩
      · cases h
    · injection h with h; exact .inl h.symm
  · injection h with h; exact .inl h.symm

/-- What the end of a write transfer can do. -/
theorem endWrite_next {k : TransferKind} {s s' : State} {f : Tr → BusTransfer → State → State}
    (h : endWrite k s f = .next s') :
    s' = s ∨ ∃ t x, s.arb.current = some (t, x) ∧ x.kind = k ∧
      runEach s (fun s => if x.orphan then s.freePort x x.length else f t x (s.freePort x x.length)) = .next s' := by
  unfold endWrite at h
  split at h
  · split at h
    · exact .inr ⟨_, _, ‹_›, ‹_›, h⟩
    · injection h with h; exact .inl h.symm
  · injection h with h; exact .inl h.symm

end Sys2Proof.Machine
end

