-- ==== Sys2Proof/Laws/Beyond.lean ====
section
/-! SUPPORT. Each shared operation of one transport keeps all that lies beyond that transport: the queue, main power,
host memory, the Power Monitor, and the records and reel records of the others. -/
namespace Sys2Proof.Machine

/-- What lies beyond transport `t`: its own record and reel record, the pool count, the exchange area, the Arbiter,
the outputs, the check word and the releases delivered are blanked out. -/
def State.beyond (s : State) (t : Tr) : State :=
  { s with
    trs := s.trs.set t (.powerOn bareSamples), store := { reels := s.store.reels.set t .none, poolFree := 0 },
    exchange := .powerOn, arb := .powerOn, intr := false, summary := 0, freeIndex := 0,
    power := { s.power with released := .all false, checkWord := 0 } }

@[simp] theorem State.setTr_beyond (s : State) (t : Tr) (x : Transport) : (s.setTr t x).beyond t = s.beyond t := by
  simp [State.beyond, State.setTr]

@[simp] theorem State.modTr_beyond (s : State) (t : Tr) (f : Transport → Transport) :
    (s.modTr t f).beyond t = s.beyond t := by
  simp [State.modTr]

@[simp] theorem State.store_beyond (s : State) (t : Tr) (r : ReelRecord) (n : Nat) :
    State.beyond { s with store := { reels := s.store.reels.set t r, poolFree := n } } t = s.beyond t := by
  simp [State.beyond]

@[simp] theorem State.exchange_beyond (s : State) (t : Tr) (e : Exchange) :
    State.beyond { s with exchange := e } t = s.beyond t := rfl

@[simp] theorem State.arb_beyond (s : State) (t : Tr) (a : Arbiter) : State.beyond { s with arb := a } t = s.beyond t := rfl

@[simp] theorem State.freeIndex_beyond (s : State) (t : Tr) (n : Nat) :
    State.beyond { s with freeIndex := n } t = s.beyond t := rfl

@[simp] theorem State.released_beyond (s : State) (t : Tr) (r : Four Bool) :
    State.beyond { s with power := { s.power with released := r } } t = s.beyond t := rfl

@[simp] theorem State.control_beyond (s : State) (t : Tr) (x : Transport) (a : Arbiter) (n : Nat) :
    State.beyond { s.setTr t x with arb := a, freeIndex := n } t = s.beyond t :=
  State.setTr_beyond s t x

@[simp] theorem State.refresh_beyond (s : State) (t : Tr) :
    (s.refresh t).beyond t = s.beyond t := by
  unfold State.refresh
  try dsimp only
  repeat' first | (simp; done) | split

@[simp] theorem State.modPort_beyond (s : State) (t : Tr) (f : Port → Port) :
    (s.modPort t f).beyond t = s.beyond t := by
  unfold State.modPort
  try dsimp only
  repeat' first | (simp; done) | split

@[simp] theorem State.modCtl_beyond (s : State) (t : Tr) (f : Control → Control) :
    (s.modCtl t f).beyond t = s.beyond t := by
  unfold State.modCtl
  try dsimp only
  repeat' first | (simp; done) | split

@[simp] theorem State.modDrive_beyond (s : State) (t : Tr) (f : Drive → Drive) :
    (s.modDrive t f).beyond t = s.beyond t := by
  unfold State.modDrive
  try dsimp only
  repeat' first | (simp; done) | split

@[simp] theorem State.modChan_beyond (s : State) (t : Tr) (f : Channel → Channel) :
    (s.modChan t f).beyond t = s.beyond t := by
  unfold State.modChan
  try dsimp only
  repeat' first | (simp; done) | split

@[simp] theorem State.modXfer_beyond (s : State) (t : Tr) (f : Transfer → Transfer) :
    (s.modXfer t f).beyond t = s.beyond t := by
  unfold State.modXfer
  try dsimp only
  repeat' first | (simp; done) | split

@[simp] theorem State.modLoc_beyond (s : State) (t : Tr) (f : Locate → Locate) :
    (s.modLoc t f).beyond t = s.beyond t := by
  unfold State.modLoc
  try dsimp only
  repeat' first | (simp; done) | split

@[simp] theorem State.modSense_beyond (s : State) (t : Tr) (f : Sensing → Sensing) :
    (s.modSense t f).beyond t = s.beyond t := by
  unfold State.modSense
  try dsimp only
  repeat' first | (simp; done) | split

@[simp] theorem State.raiseInd_beyond (s : State) (t : Tr) (i : Indicator) :
    (s.raiseInd t i).beyond t = s.beyond t := by
  unfold State.raiseInd
  try dsimp only
  repeat' first | (simp; done) | split

@[simp] theorem State.raiseIndIf_beyond (s : State) (t : Tr) (b : Bool) (i : Indicator) :
    (s.raiseIndIf t b i).beyond t = s.beyond t := by
  unfold State.raiseIndIf
  try dsimp only
  repeat' first | (simp; done) | split

@[simp] theorem State.raiseAtt_beyond (s : State) (t : Tr) (a : Attention) :
    (s.raiseAtt t a).beyond t = s.beyond t := by
  unfold State.raiseAtt
  try dsimp only
  repeat' first | (simp; done) | split

@[simp] theorem State.raiseCause_beyond (s : State) (t : Tr) (a : Attention) :
    (s.raiseCause t a).beyond t = s.beyond t := by
  unfold State.raiseCause
  try dsimp only
  repeat' first | (simp; done) | split

@[simp] theorem State.requestControl_beyond (s : State) (t : Tr) (x : BusTransfer) :
    (s.requestControl t x).beyond t = s.beyond t := by
  unfold State.requestControl
  try dsimp only
  repeat' first | (simp; done) | split

@[simp] theorem State.requestData_beyond (s : State) (t : Tr) (k : TransferKind) :
    (s.requestData t k).beyond t = s.beyond t := by
  unfold State.requestData
  try dsimp only
  repeat' first | (simp; done) | split

@[simp] theorem State.withdrawControl_beyond (s : State) (t : Tr) :
    (s.withdrawControl t).beyond t = s.beyond t := by
  unfold State.withdrawControl
  try dsimp only
  repeat' first | (simp; done) | split

@[simp] theorem State.withdrawData_beyond (s : State) (t : Tr) :
    (s.withdrawData t).beyond t = s.beyond t := by
  unfold State.withdrawData
  try dsimp only
  repeat' first | (simp; done) | split

@[simp] theorem State.formTermination_beyond (s : State) (t : Tr) (r : OrderResult) :
    (s.formTermination t r).beyond t = s.beyond t := by
  simp [State.formTermination, State.beyond, State.setTr, State.requestControl]

@[simp] theorem State.endOrder_beyond (s : State) (t : Tr) (r : OrderResult) :
    (s.endOrder t r).beyond t = s.beyond t := by
  unfold State.endOrder
  try dsimp only
  repeat' first | (simp; done) | split

@[simp] theorem State.endWith_beyond (s : State) (t : Tr) (c : Condition) :
    (s.endWith t c).beyond t = s.beyond t := by
  unfold State.endWith
  try dsimp only
  repeat' first | (simp; done) | split

@[simp] theorem State.releaseHeld_beyond (s : State) (t : Tr) :
    (s.releaseHeld t).beyond t = s.beyond t := by
  unfold State.releaseHeld
  try dsimp only
  repeat' first | (simp; done) | split

@[simp] theorem State.setReel_beyond (s : State) (t : Tr) (r : ReelRecord) :
    (s.setReel t r).beyond t = s.beyond t := by
  unfold State.setReel
  try dsimp only
  repeat' first | (simp; done) | split

@[simp] theorem State.setEntries_beyond (s : State) (t : Tr) (es : List Entry) :
    (s.setEntries t es).beyond t = s.beyond t := by
  unfold State.setEntries
  try dsimp only
  repeat' first | (simp; done) | split

@[simp] theorem State.attach_beyond (s : State) (t : Tr) (tag : Option Tag) (autoFile : Bool) :
    (s.attach t tag autoFile).beyond t = s.beyond t := by
  unfold State.attach
  try dsimp only
  repeat' first | (simp; done) | split

@[simp] theorem State.attachPanel_beyond (s : State) (t : Tr) :
    (s.attachPanel t).beyond t = s.beyond t := by
  unfold State.attachPanel
  try dsimp only
  repeat' first | (simp; done) | split

@[simp] theorem State.holdReel_beyond (s : State) (t : Tr) :
    (s.holdReel t).beyond t = s.beyond t := by
  unfold State.holdReel
  try dsimp only
  repeat' first | (simp; done) | split

@[simp] theorem State.retireReel_beyond (s : State) (t : Tr) :
    (s.retireReel t).beyond t = s.beyond t := by
  unfold State.retireReel
  try dsimp only
  repeat' first | (simp; done) | split

@[simp] theorem State.setEod_beyond (s : State) (t : Tr) (n : Nat) :
    (s.setEod t n).beyond t = s.beyond t := by
  unfold State.setEod
  try dsimp only
  repeat' first | (simp; done) | split

@[simp] theorem State.writeStart_beyond (s : State) (t : Tr) (n : Option Nat) :
    (s.writeStart t n).beyond t = s.beyond t := by
  unfold State.writeStart
  try dsimp only
  repeat' first | (simp; done) | split

@[simp] theorem State.fileStep_beyond (s : State) (t : Tr) (b f : Nat) (start : Int)
    (anchor : Anchor) (bound : Nat) (sound : Bool) :
    (s.fileStep t b f start anchor bound sound).beyond t = s.beyond t := by
  unfold State.fileStep
  try dsimp only
  repeat' first | (simp; done) | split

@[simp] theorem State.mapWritten_beyond (s : State) (t : Tr) (w : WrittenReport) (anchor : Anchor) (bound : Nat) :
    (s.mapWritten t w anchor bound).beyond t = s.beyond t := by
  unfold State.mapWritten
  try dsimp only
  repeat' first | (simp; done) | split

@[simp] theorem State.moveEntry_beyond (s : State) (t : Tr) (e : Entry) (m : Int) (bound : Option Nat) :
    (s.moveEntry t e m bound).beyond t = s.beyond t := by
  unfold State.moveEntry
  try dsimp only
  repeat' first | (simp; done) | split

@[simp] theorem State.reanchorRequest_beyond (s : State) (t : Tr) (b : Nat) (m q : Int) (bound : Nat) :
    (s.reanchorRequest t b m q bound).beyond t = s.beyond t := by
  unfold State.reanchorRequest
  try dsimp only
  repeat' first | (simp; done) | split

@[simp] theorem State.confirmEntry_beyond (s : State) (t : Tr) (e : Entry) (m : Int) (anchor : Anchor) (bound : Nat) :
    (s.confirmEntry t e m anchor bound).beyond t = s.beyond t := by
  unfold State.confirmEntry
  try dsimp only
  repeat' first | (simp; done) | split

@[simp] theorem State.stampReport_beyond (s : State) (t : Tr) (b f : Nat) (kind : RecordKind)
    (m : Int) (anchor : Anchor) (bound : Nat) :
    (s.stampReport t b f kind m anchor bound).beyond t = s.beyond t := by
  unfold State.stampReport
  try dsimp only
  repeat' first | (simp; done) | split

@[simp] theorem State.enterApply_beyond (s : State) (t : Tr) (o : EnterOperands) (l : LastBlock) (tag : List Word) :
    (s.enterApply t o l tag).beyond t = s.beyond t := by
  unfold State.enterApply
  try dsimp only
  repeat' first | (simp; done) | split

@[simp] theorem State.enterStage3_beyond (s : State) (t : Tr) (o : EnterOperands) (tag : List Word) :
    (s.enterStage3 t o tag).beyond t = s.beyond t := by
  unfold State.enterStage3
  try dsimp only
  repeat' first | (simp; done) | split

@[simp] theorem State.amendStage3_beyond (s : State) (t : Tr) (o : AmendOperands) (tag : List Word) :
    (s.amendStage3 t o tag).beyond t = s.beyond t := by
  unfold State.amendStage3
  try dsimp only
  repeat' first | (simp; done) | split

@[simp] theorem State.retireStage3_beyond (s : State) (t : Tr) (mark : Nat) (following : Bool) :
    (s.retireStage3 t mark following).beyond t = s.beyond t := by
  unfold State.retireStage3
  try dsimp only
  repeat' first | (simp; done) | split

@[simp] theorem State.modReck_beyond (s : State) (t : Tr) (f : Reckoning → Reckoning) :
    (s.modReck t f).beyond t = s.beyond t := by
  unfold State.modReck
  try dsimp only
  repeat' first | (simp; done) | split

@[simp] theorem State.loseAnchor_beyond (s : State) (t : Tr) :
    (s.loseAnchor t).beyond t = s.beyond t := by
  unfold State.loseAnchor
  try dsimp only
  repeat' first | (simp; done) | split

@[simp] theorem State.xferIdle_beyond (s : State) (t : Tr) :
    (s.xferIdle t).beyond t = s.beyond t := by
  unfold State.xferIdle
  try dsimp only
  repeat' first | (simp; done) | split

@[simp] theorem State.xferEnd_beyond (s : State) (t : Tr) (c : Condition) :
    (s.xferEnd t c).beyond t = s.beyond t := by
  unfold State.xferEnd
  try dsimp only
  repeat' first | (simp; done) | split

@[simp] theorem State.xferRefuse_beyond (s : State) (t : Tr) (c : Condition) :
    (s.xferRefuse t c).beyond t = s.beyond t := by
  unfold State.xferRefuse
  try dsimp only
  repeat' first | (simp; done) | split

@[simp] theorem State.xferTest_beyond (s : State) (t : Tr) :
    (s.xferTest t).beyond t = s.beyond t := by
  unfold State.xferTest
  try dsimp only
  repeat' first | (simp; done) | split

@[simp] theorem State.beginWrite_beyond (s : State) (t : Tr) (kind : RecordKind) (declared : Nat) :
    (s.beginWrite t kind declared).beyond t = s.beyond t := by
  unfold State.beginWrite
  try dsimp only
  repeat' first | (simp; done) | split

@[simp] theorem State.xferGo_beyond (s : State) (t : Tr) (joined : Bool) :
    (s.xferGo t joined).beyond t = s.beyond t := by
  unfold State.xferGo
  try dsimp only
  repeat' first | (simp; done) | split

@[simp] theorem State.xferStart_beyond (s : State) (t : Tr) :
    (s.xferStart t).beyond t = s.beyond t := by
  unfold State.xferStart
  try dsimp only
  repeat' first | (simp; done) | split

@[simp] theorem State.xferTake_beyond (s : State) (t : Tr) (x : Transfer) :
    (s.xferTake t x).beyond t = s.beyond t := by
  unfold State.xferTake
  try dsimp only
  repeat' first | (simp; done) | split

@[simp] theorem State.xferGiveBack_beyond (s : State) (t : Tr) :
    (s.xferGiveBack t).beyond t = s.beyond t := by
  unfold State.xferGiveBack
  try dsimp only
  repeat' first | (simp; done) | split

@[simp] theorem State.xferHandingLost_beyond (s : State) (t : Tr) :
    (s.xferHandingLost t).beyond t = s.beyond t := by
  unfold State.xferHandingLost
  try dsimp only
  repeat' first | (simp; done) | split

@[simp] theorem State.readEnd_beyond (s : State) (t : Tr) :
    (s.readEnd t).beyond t = s.beyond t := by
  unfold State.readEnd
  try dsimp only
  repeat' first | (simp; done) | split

@[simp] theorem State.passageRead_beyond (s : State) (t : Tr) (p : Passage) (noTransfer : Bool) :
    (s.passageRead t p noTransfer).beyond t = s.beyond t := by
  unfold State.passageRead
  try dsimp only
  repeat' first | (simp; done) | split

@[simp] theorem State.passageSpace_beyond (s : State) (t : Tr) :
    (s.passageSpace t).beyond t = s.beyond t := by
  unfold State.passageSpace
  try dsimp only
  repeat' first | (simp; done) | split

@[simp] theorem State.xferPassage_beyond (s : State) (t : Tr) (p : Passage) :
    (s.xferPassage t p).beyond t = s.beyond t := by
  unfold State.xferPassage
  try dsimp only
  repeat' first | (simp; done) | split

@[simp] theorem State.xferWritten_beyond (s : State) (t : Tr) (w : WrittenReport) :
    (s.xferWritten t w).beyond t = s.beyond t := by
  unfold State.xferWritten
  try dsimp only
  repeat' first | (simp; done) | split

@[simp] theorem State.xferStandstill_beyond (s : State) (t : Tr) (a : Arrival) :
    (s.xferStandstill t a).beyond t = s.beyond t := by
  unfold State.xferStandstill
  try dsimp only
  repeat' first | (simp; done) | split

@[simp] theorem State.xferPower_beyond (s : State) (t : Tr) :
    (s.xferPower t).beyond t = s.beyond t := by
  unfold State.xferPower
  try dsimp only
  repeat' first | (simp; done) | split

@[simp] theorem State.xferAbandon_beyond (s : State) (t : Tr) :
    (s.xferAbandon t).beyond t = s.beyond t := by
  unfold State.xferAbandon
  try dsimp only
  repeat' first | (simp; done) | split

@[simp] theorem State.xferBusTimeout_beyond (s : State) (t : Tr) (x : BusTransfer) (done : Nat) :
    (s.xferBusTimeout t x done).beyond t = s.beyond t := by
  unfold State.xferBusTimeout
  try dsimp only
  repeat' first | (simp; done) | split

@[simp] theorem State.locateEndWith_beyond (s : State) (t : Tr) (c : Condition)
    (value : BitVec 32) (markBlock : Option Nat) :
    (s.locateEndWith t c value markBlock).beyond t = s.beyond t := by
  unfold State.locateEndWith
  try dsimp only
  repeat' first | (simp; done) | split

@[simp] theorem State.locateFails_beyond (s : State) (t : Tr) (c : Condition) :
    (s.locateFails t c).beyond t = s.beyond t := by
  unfold State.locateFails
  try dsimp only
  repeat' first | (simp; done) | split

@[simp] theorem State.locateFailMoving_beyond (s : State) (t : Tr) (c : Condition) :
    (s.locateFailMoving t c).beyond t = s.beyond t := by
  unfold State.locateFailMoving
  try dsimp only
  repeat' first | (simp; done) | split

@[simp] theorem State.rewindComplete_beyond (s : State) (t : Tr) :
    (s.rewindComplete t).beyond t = s.beyond t := by
  unfold State.rewindComplete
  try dsimp only
  repeat' first | (simp; done) | split

@[simp] theorem State.planRewinding_beyond (s : State) (t : Tr) :
    (s.planRewinding t).beyond t = s.beyond t := by
  unfold State.planRewinding
  try dsimp only
  repeat' first | (simp; done) | split

@[simp] theorem State.locatePlan_beyond (s : State) (t : Tr) :
    (s.locatePlan t).beyond t = s.beyond t := by
  unfold State.locatePlan
  try dsimp only
  repeat' first | (simp; done) | split

@[simp] theorem State.locateBegin_beyond (s : State) (t : Tr) :
    (s.locateBegin t).beyond t = s.beyond t := by
  unfold State.locateBegin
  try dsimp only
  repeat' first | (simp; done) | split

@[simp] theorem State.beginRewind_beyond (s : State) (t : Tr) (o : LocateOrder) :
    (s.beginRewind t o).beyond t = s.beyond t := by
  unfold State.beginRewind
  try dsimp only
  repeat' first | (simp; done) | split

@[simp] theorem State.overshoot_beyond (s : State) (t : Tr) (b target : Nat) :
    (s.overshoot t b target).beyond t = s.beyond t := by
  unfold State.overshoot
  try dsimp only
  repeat' first | (simp; done) | split

@[simp] theorem State.passageDecode_beyond (s : State) (t : Tr) (p : Passage) (target : Nat) :
    (s.passageDecode t p target).beyond t = s.beyond t := by
  unfold State.passageDecode
  try dsimp only
  repeat' first | (simp; done) | split

@[simp] theorem State.standOffMissed_beyond (s : State) (t : Tr) :
    (s.standOffMissed t).beyond t = s.beyond t := by
  unfold State.standOffMissed
  try dsimp only
  repeat' first | (simp; done) | split

@[simp] theorem State.passageStandOff_beyond (s : State) (t : Tr) (p : Passage) (target : Nat) :
    (s.passageStandOff t p target).beyond t = s.beyond t := by
  unfold State.passageStandOff
  try dsimp only
  repeat' first | (simp; done) | split

@[simp] theorem State.locatePassage_beyond (s : State) (t : Tr) (p : Passage) :
    (s.locatePassage t p).beyond t = s.beyond t := by
  unfold State.locatePassage
  try dsimp only
  repeat' first | (simp; done) | split

@[simp] theorem State.locateBlank_beyond (s : State) (t : Tr) :
    (s.locateBlank t).beyond t = s.beyond t := by
  unfold State.locateBlank
  try dsimp only
  repeat' first | (simp; done) | split

@[simp] theorem State.standOffComplete_beyond (s : State) (t : Tr) :
    (s.standOffComplete t).beyond t = s.beyond t := by
  unfold State.standOffComplete
  try dsimp only
  repeat' first | (simp; done) | split

@[simp] theorem State.judgeRewind_beyond (s : State) (t : Tr) :
    (s.judgeRewind t).beyond t = s.beyond t := by
  unfold State.judgeRewind
  try dsimp only
  repeat' first | (simp; done) | split

@[simp] theorem State.rewindStandstill_beyond (s : State) (t : Tr) :
    (s.rewindStandstill t).beyond t = s.beyond t := by
  unfold State.rewindStandstill
  try dsimp only
  repeat' first | (simp; done) | split

@[simp] theorem State.standOffStandstill_beyond (s : State) (t : Tr) (a : Arrival) :
    (s.standOffStandstill t a).beyond t = s.beyond t := by
  unfold State.standOffStandstill
  try dsimp only
  repeat' first | (simp; done) | split

@[simp] theorem State.locateStandstill_beyond (s : State) (t : Tr) (a : Arrival) :
    (s.locateStandstill t a).beyond t = s.beyond t := by
  unfold State.locateStandstill
  try dsimp only
  repeat' first | (simp; done) | split

@[simp] theorem State.locatePower_beyond (s : State) (t : Tr) :
    (s.locatePower t).beyond t = s.beyond t := by
  unfold State.locatePower
  try dsimp only
  repeat' first | (simp; done) | split

@[simp] theorem State.stampToMap_beyond (s : State) (t : Tr) (p : Passage) :
    (s.stampToMap t p).beyond t = s.beyond t := by
  unfold State.stampToMap
  try dsimp only
  repeat' first | (simp; done) | split

@[simp] theorem State.deliverPassage_beyond (s : State) (t : Tr) (p : Passage) :
    (s.deliverPassage t p).beyond t = s.beyond t := by
  unfold State.deliverPassage
  try dsimp only
  repeat' first | (simp; done) | split

@[simp] theorem State.deliverWritten_beyond (s : State) (t : Tr) (w : WrittenReport) :
    (s.deliverWritten t w).beyond t = s.beyond t := by
  unfold State.deliverWritten
  try dsimp only
  repeat' first | (simp; done) | split

@[simp] theorem State.handingLostIf_beyond (s : State) (t : Tr) (b : Bool) :
    (s.handingLostIf t b).beyond t = s.beyond t := by
  unfold State.handingLostIf
  try dsimp only
  repeat' first | (simp; done) | split

@[simp] theorem State.closeRecord_beyond (s : State) (t : Tr) (r : RecordInProgress) :
    (s.closeRecord t r).beyond t = s.beyond t := by
  unfold State.closeRecord
  try dsimp only
  repeat' first | (simp; done) | split

@[simp] theorem State.discardRecord_beyond (s : State) (t : Tr) :
    (s.discardRecord t).beyond t = s.beyond t := by
  unfold State.discardRecord
  try dsimp only
  repeat' first | (simp; done) | split

@[simp] theorem State.deliverWrittenIf_beyond (s : State) (t : Tr) (w : Option WrittenReport) :
    (s.deliverWrittenIf t w).beyond t = s.beyond t := by
  cases w <;> simp [State.deliverWrittenIf]

@[simp] theorem State.chanStops_beyond (s : State) (t : Tr) :
    (s.chanStops t).beyond t = s.beyond t := by
  unfold State.chanStops
  try dsimp only
  repeat' first | (simp; done) | split

@[simp] theorem State.driveMode_beyond (s : State) (t : Tr) (m : DriveMode) :
    (s.driveMode t m).beyond t = s.beyond t := by
  unfold State.driveMode
  try dsimp only
  repeat' first | (simp; done) | split

@[simp] theorem State.chanClear_beyond (s : State) (t : Tr) :
    (s.chanClear t).beyond t = s.beyond t := by
  unfold State.chanClear
  try dsimp only
  repeat' first | (simp; done) | split

@[simp] theorem State.chanPower_beyond (s : State) (t : Tr) :
    (s.chanPower t).beyond t = s.beyond t := by
  unfold State.chanPower
  try dsimp only
  repeat' first | (simp; done) | split

@[simp] theorem State.detect_beyond (s : State) (t : Tr) (h : HeadSample) :
    (s.detect t h).beyond t = s.beyond t := by
  unfold State.detect
  try dsimp only
  repeat' first | (simp; done) | split

@[simp] theorem State.readyDrive_beyond (s : State) (t : Tr) :
    (s.readyDrive t).beyond t = s.beyond t := by
  unfold State.readyDrive
  try dsimp only
  repeat' first | (simp; done) | split

@[simp] theorem State.enter_beyond (s : State) (t : Tr) (st : TState) :
    (s.enter t st).beyond t = s.beyond t := by
  unfold State.enter
  try dsimp only
  repeat' first | (simp; done) | split

@[simp] theorem State.disengage_beyond (s : State) (t : Tr) :
    (s.disengage t).beyond t = s.beyond t := by
  unfold State.disengage
  try dsimp only
  repeat' first | (simp; done) | split

@[simp] theorem State.toUnloaded_beyond (s : State) (t : Tr) :
    (s.toUnloaded t).beyond t = s.beyond t := by
  unfold State.toUnloaded
  try dsimp only
  repeat' first | (simp; done) | split

@[simp] theorem State.dropTape_beyond (s : State) (t : Tr) :
    (s.dropTape t).beyond t = s.beyond t := by
  unfold State.dropTape
  try dsimp only
  repeat' first | (simp; done) | split

/-- An order taken keeps all beyond its transport when what it does with the order copy does. -/
theorem State.takeOrder_beyond {s : State} {t : Tr} {code : Nat} {f : State → OrderCopy → State}
    (h : ∀ s c, (f s c).beyond t = s.beyond t) : (s.takeOrder t code f).beyond t = s.beyond t := by
  unfold State.takeOrder
  dsimp only
  repeat' first | (simp [h]; done) | split

@[simp] theorem State.beginLoad_beyond (s : State) (t : Tr) (o : Operation) (tag : Option Tag) (autoFile : Bool) :
    (s.beginLoad t o tag autoFile).beyond t = s.beyond t := by
  unfold State.beginLoad
  try dsimp only
  repeat' first | (simp; done) | split

@[simp] theorem State.failLoad_beyond (s : State) (t : Tr) (c : Option Condition) :
    (s.failLoad t c).beyond t = s.beyond t := by
  unfold State.failLoad
  try dsimp only
  repeat' first | (simp; done) | split

@[simp] theorem State.forgetLoad_beyond (s : State) (t : Tr) :
    (s.forgetLoad t).beyond t = s.beyond t := by
  unfold State.forgetLoad
  try dsimp only
  repeat' first | (simp; done) | split

@[simp] theorem State.loadFailed_beyond (s : State) (t : Tr) :
    (s.loadFailed t).beyond t = s.beyond t := by
  unfold State.loadFailed
  try dsimp only
  repeat' first | (simp; done) | split

@[simp] theorem State.threaded_beyond (s : State) (t : Tr) :
    (s.threaded t).beyond t = s.beyond t := by
  unfold State.threaded
  try dsimp only
  repeat' first | (simp; done) | split

@[simp] theorem State.threadCheck_beyond (s : State) (t : Tr) :
    (s.threadCheck t).beyond t = s.beyond t := by
  unfold State.threadCheck
  try dsimp only
  repeat' first | (simp; done) | split

@[simp] theorem State.loadEnds_beyond (s : State) (t : Tr) :
    (s.loadEnds t).beyond t = s.beyond t := by
  unfold State.loadEnds
  try dsimp only
  repeat' first | (simp; done) | split

@[simp] theorem State.seekMarker_beyond (s : State) (t : Tr) (e : EdgeEvent) :
    (s.seekMarker t e).beyond t = s.beyond t := by
  unfold State.seekMarker
  try dsimp only
  repeat' first | (simp; done) | split

@[simp] theorem State.emergency_beyond (s : State) (t : Tr) (k : FaultKind) :
    (s.emergency t k).beyond t = s.beyond t := by
  unfold State.emergency
  try dsimp only
  repeat' first | (simp; done) | split

@[simp] theorem State.pathBroken_beyond (s : State) (t : Tr) :
    (s.pathBroken t).beyond t = s.beyond t := by
  unfold State.pathBroken
  try dsimp only
  repeat' first | (simp; done) | split

@[simp] theorem State.endUnload_beyond (s : State) (t : Tr) (c : Condition) :
    (s.endUnload t c).beyond t = s.beyond t := by
  unfold State.endUnload
  try dsimp only
  repeat' first | (simp; done) | split

@[simp] theorem State.emergencyComplete_beyond (s : State) (t : Tr) :
    (s.emergencyComplete t).beyond t = s.beyond t := by
  unfold State.emergencyComplete
  try dsimp only
  repeat' first | (simp; done) | split

@[simp] theorem State.clearTheFault_beyond (s : State) (t : Tr) :
    (s.clearTheFault t).beyond t = s.beyond t := by
  unfold State.clearTheFault
  try dsimp only
  repeat' first | (simp; done) | split

@[simp] theorem State.beginUnload_beyond (s : State) (t : Tr) (o : Operation) (keep : Bool) :
    (s.beginUnload t o keep).beyond t = s.beyond t := by
  unfold State.beginUnload
  try dsimp only
  repeat' first | (simp; done) | split

@[simp] theorem State.startUnloading_beyond (s : State) (t : Tr) :
    (s.startUnloading t).beyond t = s.beyond t := by
  unfold State.startUnloading
  try dsimp only
  repeat' first | (simp; done) | split

@[simp] theorem State.takeRewound_beyond (s : State) (t : Tr) :
    (s.takeRewound t).beyond t = s.beyond t := by
  unfold State.takeRewound
  try dsimp only
  repeat' first | (simp; done) | split

@[simp] theorem State.unloadEnds_beyond (s : State) (t : Tr) :
    (s.unloadEnds t).beyond t = s.beyond t := by
  unfold State.unloadEnds
  try dsimp only
  repeat' first | (simp; done) | split

@[simp] theorem State.stopUnloading_beyond (s : State) (t : Tr) :
    (s.stopUnloading t).beyond t = s.beyond t := by
  unfold State.stopUnloading
  try dsimp only
  repeat' first | (simp; done) | split

@[simp] theorem State.unloadStopped_beyond (s : State) (t : Tr) :
    (s.unloadStopped t).beyond t = s.beyond t := by
  unfold State.unloadStopped
  try dsimp only
  repeat' first | (simp; done) | split

@[simp] theorem State.controlStandstill_beyond (s : State) (t : Tr) (a : Arrival) :
    (s.controlStandstill t a).beyond t = s.beyond t := by
  unfold State.controlStandstill
  try dsimp only
  repeat' first | (simp; done) | split

@[simp] theorem State.controlClear_beyond (s : State) (t : Tr) :
    (s.controlClear t).beyond t = s.beyond t := by
  unfold State.controlClear
  try dsimp only
  repeat' first | (simp; done) | split

@[simp] theorem State.controlAbandon_beyond (s : State) (t : Tr) (code : Nat) :
    (s.controlAbandon t code).beyond t = s.beyond t := by
  unfold State.controlAbandon
  try dsimp only
  repeat' first | (simp; done) | split

@[simp] theorem State.controlPower_beyond (s : State) (t : Tr) :
    (s.controlPower t).beyond t = s.beyond t := by
  unfold State.controlPower
  try dsimp only
  repeat' first | (simp; done) | split

@[simp] theorem State.deliverRelease_beyond (s : State) (t : Tr) :
    (s.deliverRelease t).beyond t = s.beyond t := by
  unfold State.deliverRelease
  try dsimp only
  repeat' first | (simp; done) | split

@[simp] theorem State.lateRelease_beyond (s : State) (t : Tr) :
    (s.lateRelease t).beyond t = s.beyond t := by
  unfold State.lateRelease
  try dsimp only
  repeat' first | (simp; done) | split

@[simp] theorem State.requesterStandstill_beyond (s : State) (t : Tr) (a : Arrival) :
    (s.requesterStandstill t a).beyond t = s.beyond t := by
  unfold State.requesterStandstill
  try dsimp only
  repeat' first | (simp; done) | split

@[simp] theorem State.stopComplete_beyond (s : State) (t : Tr) (k : StopKind) :
    (s.stopComplete t k).beyond t = s.beyond t := by
  unfold State.stopComplete
  try dsimp only
  repeat' first | (simp; done) | split

@[simp] theorem State.restReported_beyond (s : State) (t : Tr) :
    (s.restReported t).beyond t = s.beyond t := by
  unfold State.restReported
  try dsimp only
  repeat' first | (simp; done) | split

@[simp] theorem State.arriveAt_beyond (s : State) (t : Tr) (off : Option Int) :
    (s.arriveAt t off).beyond t = s.beyond t := by
  unfold State.arriveAt
  try dsimp only
  repeat' first | (simp; done) | split

@[simp] theorem State.arrive_beyond (s : State) (t : Tr) :
    (s.arrive t).beyond t = s.beyond t := by
  unfold State.arrive
  try dsimp only
  repeat' first | (simp; done) | split

@[simp] theorem State.endShuttle_beyond (s : State) (t : Tr) :
    (s.endShuttle t).beyond t = s.beyond t := by
  unfold State.endShuttle
  try dsimp only
  repeat' first | (simp; done) | split

@[simp] theorem State.motionBegun_beyond (s : State) (t : Tr) :
    (s.motionBegun t).beyond t = s.beyond t := by
  unfold State.motionBegun
  try dsimp only
  repeat' first | (simp; done) | split

@[simp] theorem State.beginPending_beyond (s : State) (t : Tr) (r : MotionRequest) :
    (s.beginPending t r).beyond t = s.beyond t := by
  unfold State.beginPending
  try dsimp only
  repeat' first | (simp; done) | split

theorem State.settleOnce_beyond {s s' : State} {t : Tr} (h : s.settleOnce t = some s') : s'.beyond t = s.beyond t := by
  unfold State.settleOnce at h
  dsimp only at h
  repeat' split at h
  all_goals first | (cases h; done) | (injection h with h; subst h; simp)

@[simp] theorem State.settle_beyond (n : Nat) (s : State) (t : Tr) : (State.settle n s t).beyond t = s.beyond t := by
  induction n generalizing s with
  | zero => rfl
  | succ n ih =>
    unfold State.settle
    split
    · rw [ih, State.settleOnce_beyond ‹_›]
    · rfl

@[simp] theorem State.settled_beyond (s : State) (t : Tr) : (s.settled t).beyond t = s.beyond t := by
  simp [State.settled]

@[simp] theorem State.doQualified_beyond (s : State) (t : Tr) :
    (s.doQualified t).beyond t = s.beyond t := by
  unfold State.doQualified
  try dsimp only
  repeat' first | (simp; done) | split

@[simp] theorem State.doRecordEnd_beyond (s : State) (t : Tr) :
    (s.doRecordEnd t).beyond t = s.beyond t := by
  unfold State.doRecordEnd
  try dsimp only
  repeat' first | (simp; done) | split

@[simp] theorem State.doPostamble_beyond (s : State) (t : Tr) :
    (s.doPostamble t).beyond t = s.beyond t := by
  unfold State.doPostamble
  try dsimp only
  repeat' first | (simp; done) | split

@[simp] theorem State.doWrittenReport_beyond (s : State) (t : Tr) :
    (s.doWrittenReport t).beyond t = s.beyond t := by
  unfold State.doWrittenReport
  try dsimp only
  repeat' first | (simp; done) | split

@[simp] theorem State.doFormation_beyond (s : State) (t : Tr) :
    (s.doFormation t).beyond t = s.beyond t := by
  unfold State.doFormation
  try dsimp only
  repeat' first | (simp; done) | split

@[simp] theorem State.doStartTimeout_beyond (s : State) (t : Tr) :
    (s.doStartTimeout t).beyond t = s.beyond t := by
  unfold State.doStartTimeout
  try dsimp only
  repeat' first | (simp; done) | split

@[simp] theorem State.doEraseLength_beyond (s : State) (t : Tr) :
    (s.doEraseLength t).beyond t = s.beyond t := by
  unfold State.doEraseLength
  try dsimp only
  repeat' first | (simp; done) | split

@[simp] theorem State.doBlank_beyond (s : State) (t : Tr) :
    (s.doBlank t).beyond t = s.beyond t := by
  unfold State.doBlank
  try dsimp only
  repeat' first | (simp; done) | split

@[simp] theorem State.doBudget_beyond (s : State) (t : Tr) :
    (s.doBudget t).beyond t = s.beyond t := by
  unfold State.doBudget
  try dsimp only
  repeat' first | (simp; done) | split

@[simp] theorem State.doHoldOver_beyond (s : State) (t : Tr) :
    (s.doHoldOver t).beyond t = s.beyond t := by
  unfold State.doHoldOver
  try dsimp only
  repeat' first | (simp; done) | split

@[simp] theorem State.doStopPoint_beyond (s : State) (t : Tr) :
    (s.doStopPoint t).beyond t = s.beyond t := by
  unfold State.doStopPoint
  try dsimp only
  repeat' first | (simp; done) | split

@[simp] theorem State.doBrakePoint_beyond (s : State) (t : Tr) :
    (s.doBrakePoint t).beyond t = s.beyond t := by
  unfold State.doBrakePoint
  try dsimp only
  repeat' first | (simp; done) | split

@[simp] theorem State.doPitch_beyond (s : State) (t : Tr) (side : Side) :
    (s.doPitch t side).beyond t = s.beyond t := by
  unfold State.doPitch
  try dsimp only
  repeat' first | (simp; done) | split

@[simp] theorem State.catchUp_beyond (s : State) (t : Tr) :
    (s.catchUp t).beyond t = s.beyond t := by
  unfold State.catchUp
  try dsimp only
  repeat' first | (simp; done) | split

@[simp] theorem State.reelCount_beyond (s : State) (t : Tr) (tach : Tach) (side : Side) (positive : Bool) :
    (s.reelCount t tach side positive).beyond t = s.beyond t := by
  unfold State.reelCount
  try dsimp only
  repeat' first | (simp; done) | split

@[simp] theorem State.forwardStep_beyond (s : State) (t : Tr) :
    (s.forwardStep t).beyond t = s.beyond t := by
  unfold State.forwardStep
  try dsimp only
  repeat' first | (simp; done) | split

@[simp] theorem State.capstanCount_beyond (s : State) (t : Tr) (positive : Bool) (h : HeadSample) :
    (s.capstanCount t positive h).beyond t = s.beyond t := by
  unfold State.capstanCount
  try dsimp only
  repeat' first | (simp; done) | split

@[simp] theorem State.oneCount_beyond (s : State) (t : Tr) (tach : Tach) (positive : Bool) (h : HeadSample) :
    (s.oneCount t tach positive h).beyond t = s.beyond t := by
  unfold State.oneCount
  try dsimp only
  repeat' first | (simp; done) | split

@[simp] theorem State.counts_beyond (s : State) (t : Tr) (tach : Tach) (h1 h2 : HeadSample) (l : List Bool) :
    (s.counts t tach h1 h2 l).beyond t = s.beyond t := by
  unfold State.counts
  split <;> simp

@[simp] theorem State.tachometer_beyond (s : State) (t : Tr) (tach : Tach) (phases : Phases)
    (cycles : Nat) (h1 h2 : HeadSample) :
    (s.tachometer t tach phases cycles h1 h2).beyond t = s.beyond t := by
  unfold State.tachometer
  try dsimp only
  repeat' first | (simp; done) | split

@[simp] theorem State.beginWind_beyond (s : State) (t : Tr) :
    (s.beginWind t).beyond t = s.beyond t := by
  unfold State.beginWind
  try dsimp only
  repeat' first | (simp; done) | split

@[simp] theorem State.pathLostDrive_beyond (s : State) (t : Tr) :
    (s.pathLostDrive t).beyond t = s.beyond t := by
  unfold State.pathLostDrive
  try dsimp only
  repeat' first | (simp; done) | split

@[simp] theorem State.pathUpdate_beyond (s : State) (t : Tr) :
    (s.pathUpdate t).beyond t = s.beyond t := by
  unfold State.pathUpdate
  try dsimp only
  repeat' first | (simp; done) | split

@[simp] theorem State.brakeReels_beyond (s : State) (t : Tr) :
    (s.brakeReels t).beyond t = s.beyond t := by
  unfold State.brakeReels
  try dsimp only
  repeat' first | (simp; done) | split

@[simp] theorem State.columnCause_beyond (s : State) (t : Tr) (side : Side) (k : FaultKind) :
    (s.columnCause t side k).beyond t = s.beyond t := by
  unfold State.columnCause
  try dsimp only
  repeat' first | (simp; done) | split

@[simp] theorem State.zoneAtControl_beyond (s : State) (t : Tr) (side : Side) (z : Zone) :
    (s.zoneAtControl t side z).beyond t = s.beyond t := by
  unfold State.zoneAtControl
  try dsimp only
  repeat' first | (simp; done) | split

@[simp] theorem State.zoneEventAt_beyond (s : State) (t : Tr) (side : Side) (z : Zone) :
    (s.zoneEventAt t side z).beyond t = s.beyond t := by
  unfold State.zoneEventAt
  try dsimp only
  repeat' first | (simp; done) | split

@[simp] theorem State.sensorFaultAt_beyond (s : State) (t : Tr) (side : Side) :
    (s.sensorFaultAt t side).beyond t = s.beyond t := by
  unfold State.sensorFaultAt
  try dsimp only
  repeat' first | (simp; done) | split

@[simp] theorem State.columnSamples_beyond (s : State) (t : Tr) (side : Side) (p : Pattern) (n : Nat) :
    (s.columnSamples t side p n).beyond t = s.beyond t := by
  unfold State.columnSamples
  try dsimp only
  repeat' first | (simp; done) | split

@[simp] theorem State.vacuumAtControl_beyond (s : State) (t : Tr) (side : Side) (present : Bool) :
    (s.vacuumAtControl t side present).beyond t = s.beyond t := by
  unfold State.vacuumAtControl
  try dsimp only
  repeat' first | (simp; done) | split

@[simp] theorem State.vacuumSamples_beyond (s : State) (t : Tr) (side : Side) (present : Bool) (n : Nat) :
    (s.vacuumSamples t side present n).beyond t = s.beyond t := by
  unfold State.vacuumSamples
  try dsimp only
  repeat' first | (simp; done) | split

@[simp] theorem State.tapeAtControl_beyond (s : State) (t : Tr) (present : Bool) :
    (s.tapeAtControl t present).beyond t = s.beyond t := by
  unfold State.tapeAtControl
  try dsimp only
  repeat' first | (simp; done) | split

@[simp] theorem State.tapeSamples_beyond (s : State) (t : Tr) (present : Bool) (n : Nat) :
    (s.tapeSamples t present n).beyond t = s.beyond t := by
  unfold State.tapeSamples
  try dsimp only
  repeat' first | (simp; done) | split

@[simp] theorem State.markerEvent_beyond (s : State) (t : Tr) (e : EdgeEvent) :
    (s.markerEvent t e).beyond t = s.beyond t := by
  unfold State.markerEvent
  try dsimp only
  repeat' first | (simp; done) | split

@[simp] theorem State.markerSamples_beyond (s : State) (t : Tr) (m : Marker) (v : Bool) (n : Nat) :
    (s.markerSamples t m v n).beyond t = s.beyond t := by
  unfold State.markerSamples
  try dsimp only
  repeat' first | (simp; done) | split

@[simp] theorem State.onEvent_beyond (s : State) (t : Tr) :
    (s.onEvent t).beyond t = s.beyond t := by
  unfold State.onEvent
  try dsimp only
  repeat' first | (simp; done) | split

@[simp] theorem State.onlineSamples_beyond (s : State) (t : Tr) (on : Bool) (n : Nat) :
    (s.onlineSamples t on n).beyond t = s.beyond t := by
  unfold State.onlineSamples
  try dsimp only
  repeat' first | (simp; done) | split

@[simp] theorem State.loadButton_beyond (s : State) (t : Tr) :
    (s.loadButton t).beyond t = s.beyond t := by
  unfold State.loadButton
  try dsimp only
  repeat' first | (simp; done) | split

@[simp] theorem State.unloadButton_beyond (s : State) (t : Tr) :
    (s.unloadButton t).beyond t = s.beyond t := by
  unfold State.unloadButton
  try dsimp only
  repeat' first | (simp; done) | split

@[simp] theorem State.pressSamples_beyond (s : State) (t : Tr) (b : Button) (n : Nat) :
    (s.pressSamples t b n).beyond t = s.beyond t := by
  unfold State.pressSamples
  try dsimp only
  repeat' first | (simp; done) | split

@[simp] theorem State.pwarnAt_beyond (s : State) (t : Tr) :
    (s.pwarnAt t).beyond t = s.beyond t := by
  unfold State.pwarnAt
  try dsimp only
  repeat' first | (simp; done) | split

@[simp] theorem State.portClear_beyond (s : State) (t : Tr) :
    (s.portClear t).beyond t = s.beyond t := by
  unfold State.portClear
  try dsimp only
  repeat' first | (simp; done) | split

@[simp] theorem State.readyAtClear_beyond (s : State) (t : Tr) :
    (s.readyAtClear t).beyond t = s.beyond t := by
  unfold State.readyAtClear
  try dsimp only
  repeat' first | (simp; done) | split

@[simp] theorem State.clearAt_beyond (s : State) (t : Tr) :
    (s.clearAt t).beyond t = s.beyond t := by
  unfold State.clearAt
  try dsimp only
  repeat' first | (simp; done) | split

@[simp] theorem State.releaseExchange_beyond (s : State) (t : Tr) :
    (s.releaseExchange t).beyond t = s.beyond t := by
  unfold State.releaseExchange
  try dsimp only
  repeat' first | (simp; done) | split

@[simp] theorem State.leaveMap_beyond (s : State) (t : Tr) :
    (s.leaveMap t).beyond t = s.beyond t := by
  unfold State.leaveMap
  try dsimp only
  repeat' first | (simp; done) | split

@[simp] theorem State.tellOwners_beyond (s : State) (t : Tr) (code : Nat) :
    (s.tellOwners t code).beyond t = s.beyond t := by
  unfold State.tellOwners
  try dsimp only
  repeat' first | (simp; done) | split

@[simp] theorem State.abandon_beyond (s : State) (t : Tr) :
    (s.abandon t).beyond t = s.beyond t := by
  unfold State.abandon
  try dsimp only
  repeat' first | (simp; done) | split

@[simp] theorem State.startFetch_beyond (s : State) (t : Tr) (index : BitVec 13) :
    (s.startFetch t index).beyond t = s.beyond t := by
  unfold State.startFetch
  try dsimp only
  repeat' first | (simp; done) | split

@[simp] theorem State.pointerWrite_beyond (s : State) (t : Tr) (index : BitVec 13) :
    (s.pointerWrite t index).beyond t = s.beyond t := by
  unfold State.pointerWrite
  try dsimp only
  repeat' first | (simp; done) | split

@[simp] theorem State.takeBurst_beyond (s : State) (t : Tr) (k : TransferKind) :
    (s.takeBurst t k).beyond t = s.beyond t := by
  unfold State.takeBurst
  try dsimp only
  repeat' first | (simp; done) | split

@[simp] theorem State.grantControl_beyond (s : State) (t : Tr) :
    (s.grantControl t).beyond t = s.beyond t := by
  unfold State.grantControl
  try dsimp only
  repeat' first | (simp; done) | split

@[simp] theorem State.grantData_beyond (s : State) (t : Tr) :
    (s.grantData t).beyond t = s.beyond t := by
  unfold State.grantData
  try dsimp only
  repeat' first | (simp; done) | split

@[simp] theorem State.fetched_beyond (s : State) (t : Tr) (ws : List Word) :
    (s.fetched t ws).beyond t = s.beyond t := by
  unfold State.fetched
  try dsimp only
  repeat' first | (simp; done) | split

@[simp] theorem State.terminated_beyond (s : State) (t : Tr) (lost : Bool) :
    (s.terminated t lost).beyond t = s.beyond t := by
  unfold State.terminated
  try dsimp only
  repeat' first | (simp; done) | split

@[simp] theorem State.attachOrder_beyond (s : State) (t : Tr) (c : OrderCopy) :
    (s.attachOrder t c).beyond t = s.beyond t := by
  unfold State.attachOrder
  try dsimp only
  repeat' first | (simp; done) | split

@[simp] theorem State.takeLoad_beyond (s : State) (t : Tr) (c : OrderCopy) :
    (s.takeLoad t c).beyond t = s.beyond t := by
  unfold State.takeLoad
  try dsimp only
  repeat' first | (simp; done) | split

@[simp] theorem State.readRecord_beyond (s : State) (t : Tr) (k : TransferKind) (c : OrderCopy) (n : Nat) :
    (s.readRecord t k c n).beyond t = s.beyond t := by
  unfold State.readRecord
  try dsimp only
  repeat' first | (simp; done) | split

@[simp] theorem State.profileRead_beyond (s : State) (t : Tr) (ws : List Word) :
    (s.profileRead t ws).beyond t = s.beyond t := by
  unfold State.profileRead
  try dsimp only
  repeat' first | (simp; done) | split

@[simp] theorem State.detectorRead_beyond (s : State) (t : Tr) (ws : List Word) :
    (s.detectorRead t ws).beyond t = s.beyond t := by
  unfold State.detectorRead
  try dsimp only
  repeat' first | (simp; done) | split

@[simp] theorem State.takeSense_beyond (s : State) (t : Tr) (c : OrderCopy) :
    (s.takeSense t c).beyond t = s.beyond t := by
  unfold State.takeSense
  try dsimp only
  repeat' first | (simp; done) | split

@[simp] theorem State.takeMask_beyond (s : State) (t : Tr) (c : OrderCopy) :
    (s.takeMask t c).beyond t = s.beyond t := by
  unfold State.takeMask
  try dsimp only
  repeat' first | (simp; done) | split

@[simp] theorem State.readTag_beyond (s : State) (t : Tr) (c : OrderCopy) (n : Nat) :
    (s.readTag t c n).beyond t = s.beyond t := by
  unfold State.readTag
  try dsimp only
  repeat' first | (simp; done) | split

@[simp] theorem State.takeEnter_beyond (s : State) (t : Tr) (c : OrderCopy) :
    (s.takeEnter t c).beyond t = s.beyond t := by
  unfold State.takeEnter
  try dsimp only
  repeat' first | (simp; done) | split

@[simp] theorem State.takeAmend_beyond (s : State) (t : Tr) (c : OrderCopy) :
    (s.takeAmend t c).beyond t = s.beyond t := by
  unfold State.takeAmend
  try dsimp only
  repeat' first | (simp; done) | split

@[simp] theorem State.takeLookUp_beyond (s : State) (t : Tr) (c : OrderCopy) :
    (s.takeLookUp t c).beyond t = s.beyond t := by
  unfold State.takeLookUp
  try dsimp only
  repeat' first | (simp; done) | split

@[simp] theorem State.tagRead_beyond (s : State) (t : Tr) (ws : List Word) :
    (s.tagRead t ws).beyond t = s.beyond t := by
  unfold State.tagRead
  try dsimp only
  repeat' first | (simp; done) | split

@[simp] theorem State.endExchange_beyond (s : State) (t : Tr) (r : OrderResult) :
    (s.endExchange t r).beyond t = s.beyond t := by
  unfold State.endExchange
  try dsimp only
  repeat' first | (simp; done) | split

@[simp] theorem State.dumpStart_beyond (s : State) (t : Tr) :
    (s.dumpStart t).beyond t = s.beyond t := by
  unfold State.dumpStart
  try dsimp only
  repeat' first | (simp; done) | split

@[simp] theorem State.loadStart_beyond (s : State) (t : Tr) :
    (s.loadStart t).beyond t = s.beyond t := by
  unfold State.loadStart
  try dsimp only
  repeat' first | (simp; done) | split

@[simp] theorem State.giveArea_beyond (s : State) (t : Tr) :
    (s.giveArea t).beyond t = s.beyond t := by
  unfold State.giveArea
  try dsimp only
  repeat' first | (simp; done) | split

@[simp] theorem State.askArea_beyond (s : State) (t : Tr) : (s.askArea t).beyond t = s.beyond t := by
  unfold State.askArea
  dsimp only
  split
  · simp
  · exact (State.exchange_beyond _ t _).trans (State.modTr_beyond s t _)

@[simp] theorem State.dumped_beyond (s : State) (t : Tr) (n : Nat) :
    (s.dumped t n).beyond t = s.beyond t := by
  unfold State.dumped
  try dsimp only
  repeat' first | (simp; done) | split

theorem placeImports_others (t : Tr) (es : List Entry) (m : MapStore) :
    (placeImports m t es).reels.set t .none = m.reels.set t .none := by
  induction es generalizing m with
  | nil => rfl
  | cons e rest ih => simp [placeImports, ih]

@[simp] theorem State.imports_beyond (s : State) (t : Tr) (es : List Entry) :
    State.beyond { s with store := placeImports s.store t es } t = s.beyond t := by
  simp [State.beyond, placeImports_others]

@[simp] theorem State.importTable_beyond (s : State) (t : Tr) (es : List Entry) :
    (s.importTable t es).beyond t = s.beyond t := by
  unfold State.importTable
  dsimp only
  repeat' split
  · simp
  · simp
  · simp only [State.endExchange_beyond, State.raiseIndIf_beyond]
    exact (State.imports_beyond _ t es).trans (State.setReel_beyond s t _)

@[simp] theorem State.imported_beyond (s : State) (t : Tr) (ws : List Word) :
    (s.imported t ws).beyond t = s.beyond t := by
  unfold State.imported
  try dsimp only
  repeat' first | (simp; done) | split

@[simp] theorem State.takeSpaceForward_beyond (s : State) (t : Tr) (c : OrderCopy) :
    (s.takeSpaceForward t c).beyond t = s.beyond t := by
  unfold State.takeSpaceForward
  try dsimp only
  repeat' first | (simp; done) | split

@[simp] theorem State.takeSpaceBackward_beyond (s : State) (t : Tr) (c : OrderCopy) :
    (s.takeSpaceBackward t c).beyond t = s.beyond t := by
  unfold State.takeSpaceBackward
  try dsimp only
  repeat' first | (simp; done) | split

@[simp] theorem State.takeLocateMark_beyond (s : State) (t : Tr) (mark : Nat) :
    (s.takeLocateMark t mark).beyond t = s.beyond t := by
  unfold State.takeLocateMark
  try dsimp only
  repeat' first | (simp; done) | split

@[simp] theorem State.takeLocateBlock_beyond (s : State) (t : Tr) (n : Nat) :
    (s.takeLocateBlock t n).beyond t = s.beyond t := by
  unfold State.takeLocateBlock
  try dsimp only
  repeat' first | (simp; done) | split

@[simp] theorem State.dumpTimeout_beyond (s : State) (t : Tr) (done : Nat) :
    (s.dumpTimeout t done).beyond t = s.beyond t := by
  unfold State.dumpTimeout
  try dsimp only
  repeat' first | (simp; done) | split

@[simp] theorem State.loadTimeout_beyond (s : State) (t : Tr) (ws : List Word) :
    (s.loadTimeout t ws).beyond t = s.beyond t := by
  unfold State.loadTimeout
  try dsimp only
  repeat' first | (simp; done) | split

@[simp] theorem State.timedOut_beyond (s : State) (t : Tr) (x : BusTransfer) (done : Nat) (ws : List Word) :
    (s.timedOut t x done ws).beyond t = s.beyond t := by
  unfold State.timedOut
  try dsimp only
  repeat' first | (simp; done) | split

@[simp] theorem State.stallAtControl_beyond (s : State) (t : Tr) :
    (s.stallAtControl t).beyond t = s.beyond t := by
  unfold State.stallAtControl
  try dsimp only
  repeat' first | (simp; done) | split

@[simp] theorem State.windStopped_beyond (s : State) (t : Tr) :
    (s.windStopped t).beyond t = s.beyond t := by
  unfold State.windStopped
  try dsimp only
  repeat' first | (simp; done) | split

/-! ### Runs -/

@[simp] theorem State.finish_beyond (s : State) (t : Tr) : s.finish.beyond t = s.beyond t := by
  simp only [State.finish, State.beyond]

/-- A command of one transport keeps all beyond it when what it does keeps it. -/
theorem runTr_beyond {t : Tr} {s s' : State} {f : State → State} (hf : ∀ s, (f s).beyond t = s.beyond t)
    (h : runTr t s f = .next s') : s'.beyond t = s.beyond t := by
  rcases runOn_next h with ⟨-, rfl⟩ | ⟨-, rfl⟩
  · rfl
  · simp [hf]

/-- See `runTr_beyond`. -/
theorem runOn_beyond {t : Tr} {s s' : State} {f : State → State} (hf : ∀ s, (f s).beyond t = s.beyond t)
    (h : runOn t s f = .next s') : s'.beyond t = s.beyond t := by
  rcases runOn_next h with ⟨-, rfl⟩ | ⟨-, rfl⟩
  · rfl
  · simp [hf]

/-- What agrees beyond `t` agrees in every other transport and reel record, in host memory, the queue and main power,
and in the levels of the Power Monitor. -/
theorem State.beyond_eq {s s' : State} {t : Tr} (h : s'.beyond t = s.beyond t) :
    (∀ u, u ≠ t → s'.tr u = s.tr u ∧ s'.reel u = s.reel u) ∧ s'.hostMemory = s.hostMemory ∧
      s'.pending = s.pending ∧ s'.powered = s.powered ∧ s'.power.pwarn = s.power.pwarn ∧
      s'.power.clear = s.power.clear ∧ s'.power.clearArmed = s.power.clearArmed ∧
      s'.power.latch = s.power.latch ∧ s'.power.verdict = s.power.verdict := by
  simp only [State.beyond, State.mk.injEq, MapStore.mk.injEq, PowerMonitor.mk.injEq] at h
  obtain ⟨ht, ⟨hr, -⟩, -, -, ⟨hp, -, hc, ha, -, hl, hv⟩, -, -, hm, hw, -, hq⟩ := h
  refine ⟨fun u hu => ⟨?_, ?_⟩, hm, hq, hw, hp, hc, ha, hl, hv⟩
  · have := congrArg (fun f : Four Transport => f.get u) ht
    rwa [Four.get_set_other _ _ hu, Four.get_set_other _ _ hu] at this
  · have := congrArg (fun f : Four ReelRecord => f.get u) hr
    rwa [Four.get_set_other _ _ hu, Four.get_set_other _ _ hu] at this

end Sys2Proof.Machine
end

