-- ==== Sys2Proof/Laws/Memory.lean ====
section
/-! SUPPORT. Host memory (log 5): what reading and writing bytes and words can do, and that every write keeps the
canonical form. -/
namespace Sys2Proof.Machine

theorem memAbove_trans {m : List Host.Cell} {x y : Nat} (h : memAbove y m = true) (hx : x < y) :
    memAbove x m = true := by
  cases m with
  | nil => rfl
  | cons p rest => simp only [memAbove, decide_eq_true_eq] at *; omega

/-- A write keeps the canonical form, and stays above what lies below both the list and the address written. -/
theorem memWrite_keeps (m : List Host.Cell) (x : Nat) (v : Byte) (h : memWf m = true) :
    memWf (memWrite m x v) = true ∧
      ∀ y, memAbove y m = true → y < x → memAbove y (memWrite m x v) = true := by
  induction m with
  | nil =>
    by_cases hv : v = 0#8
    · simp [memWrite, memWf, memAbove, hv]
    · simp [memWrite, memWf, memAbove, hv]
  | cons p rest ih =>
    obtain ⟨a, b⟩ := p
    simp only [memWf, Bool.and_eq_true] at h
    obtain ⟨⟨hb, ha⟩, hr⟩ := h
    obtain ⟨ih1, ih2⟩ := ih hr
    by_cases hlt : x < a
    · by_cases hv : v = 0#8 <;> simp_all [memWrite, memWf, memAbove]
    · by_cases heq : x = a
      · subst heq
        by_cases hv : v = 0#8
        · have : memWrite ((x, b) :: rest) x v = rest := by simp [memWrite, hv]
          rw [this]
          exact ⟨hr, fun y _ hyx => memAbove_trans ha hyx⟩
        · simp_all [memWrite, memWf]
          intro y hy hyx
          simpa [memAbove] using hyx
      · have hax : a < x := by omega
        simp only [memWrite, hlt, heq, if_false]
        refine ⟨?_, fun y hy _ => by simpa [memAbove] using hy⟩
        simp [memWf, ih1, ih2 a ha hax]
        simpa using hb

theorem memWrite_wf {m : List Host.Cell} (x : Nat) (v : Byte) (h : memWf m = true) :
    memWf (memWrite m x v) = true :=
  (memWrite_keeps m x v h).1

theorem memWriteWords_wf {m : List Host.Cell} (a : Nat) (ws : List Word) (h : memWf m = true) :
    memWf (memWriteWords m a ws) = true := by
  induction ws generalizing m a with
  | nil => exact h
  | cons w rest ih => exact ih _ (memWrite_wf _ _ (memWrite_wf _ _ h))

theorem hostWrite_wf {s : State} (a : Nat) (ws : List Word) (h : memWf s.hostMemory = true) :
    memWf (s.hostWrite a ws).hostMemory = true :=
  memWriteWords_wf a ws h

theorem reset_memWf : memWf State.reset.hostMemory = true := rfl

/-- Below every listed address nothing is listed. -/
theorem memRead_above {m : List Host.Cell} {x : Nat} (h : memWf m = true) (hx : memAbove x m = true) :
    memRead m x = 0 := by
  induction m with
  | nil => rfl
  | cons p rest ih =>
    obtain ⟨a, b⟩ := p
    simp only [memWf, Bool.and_eq_true] at h
    simp only [memAbove, decide_eq_true_eq] at hx
    have : a ≠ x := by omega
    simp only [memRead, this, if_false]
    exact ih h.2 (memAbove_trans h.1.2 hx)

/-- A read after a write: the byte written at its address, the byte before at every other. -/
theorem memRead_memWrite {m : List Host.Cell} (x y : Nat) (v : Byte) (h : memWf m = true) :
    memRead (memWrite m x v) y = if y = x then v else memRead m y := by
  induction m with
  | nil =>
    by_cases hv : v = 0#8 <;> by_cases hy : y = x <;> simp_all [memWrite, memRead]
    intro hxy
    exact absurd hxy.symm hy
  | cons p rest ih =>
    obtain ⟨a, b⟩ := p
    have hw := h
    simp only [memWf, Bool.and_eq_true] at h
    obtain ⟨⟨_, ha⟩, hr⟩ := h
    by_cases hlt : x < a
    · have hx : memAbove x ((a, b) :: rest) = true := by simpa [memAbove] using hlt
      by_cases hv : v = 0#8
      · by_cases hy : y = x
        · subst hy; simp [memWrite, hlt, hv, memRead_above hw hx]
        · simp [memWrite, hlt, hv, hy]
      · by_cases hy : y = x
        · subst hy; simp [memWrite, hlt, hv, memRead]
        · have : x ≠ y := fun e => hy e.symm
          simp [memWrite, hlt, hv, hy, memRead, this]
    · by_cases heq : x = a
      · subst heq
        by_cases hv : v = 0#8
        · by_cases hy : y = x
          · subst hy; simp [memWrite, hv, memRead_above hr ha]
          · have : x ≠ y := fun e => hy e.symm
            simp [memWrite, hv, hy, memRead, this]
        · by_cases hy : y = x
          · subst hy; simp [memWrite, hv, memRead]
          · have : x ≠ y := fun e => hy e.symm
            simp [memWrite, hv, hy, memRead, this]
      · simp only [memWrite, hlt, heq, if_false, memRead]
        by_cases hya : a = y
        · have : ¬ y = x := by omega
          simp [hya, this]
        · simp only [hya, if_false]
          exact ih hr

end Sys2Proof.Machine
end

