-- ==== Sys2Proof/Laws/Orders.lean ====
section
/-! SUPPORT. What taking a dispatched order and ending an order do, each said once. -/
namespace Sys2Proof.Machine

/-! ### Settling again after a change -/

/-- Whether anything comes about by itself depends on the drive, on four fields of Transport Control and on PATH GOOD
only. -/
theorem State.settled_congr {s s' : State} {t : Tr} (hd : (s'.tr t).drive = (s.tr t).drive)
    (hs : (s'.tr t).ctl.state = (s.tr t).ctl.state) (hu : (s'.tr t).ctl.unloadEnding = (s.tr t).ctl.unloadEnding)
    (hw : (s'.tr t).ctl.stopUnderWay = (s.tr t).ctl.stopUnderWay)
    (hp : (s'.tr t).ctl.permission = (s.tr t).ctl.permission)
    (hg : (s'.tr t).sense.pathGood = (s.tr t).sense.pathGood) (h : s.Settled t) : s'.settleOnce t = none := by
  rw [State.Settled, Option.isNone_iff_eq_none] at h
  unfold State.settleOnce at h ⊢
  simp only [hd, hs, hu, hw, hp, hg] at h ⊢
  split at h
  · cases h
  · split at h
    · cases h
    · rename_i h1 h2
      simp only [h1, h2] at h ⊢
      split at h
      · rename_i h3
        simp only [h3, if_true] at h ⊢
        split at h
        · rfl
        · split at h
          · cases h
          · rename_i h4
            simp only [h4, if_false] at h ⊢
            split at h
            · cases h
            · rename_i h5
              simp [h5]
      · rename_i h3
        simp [h3]

/-- A transport at standstill with nothing pending is settled. -/
theorem State.settled_standing {s : State} {t : Tr} (h : (s.tr t).Standing) : s.settleOnce t = none :=
  State.settleOnce_rest h.2.2.2.1 h.2.2.2.2.2.2 h.2.2.2.2.1

/-! ### Taking a dispatched order -/

/-- The state in which an owner has taken the order in flight. -/
def State.withTaken (s : State) (t : Tr) : State := s.modPort t fun p => { p with stage := .taken }

/-- The owner takes an order that awaits it. -/
theorem State.takeOrder_awaits {s : State} {t : Tr} {code : Nat} {c : OrderCopy} {f : State → OrderCopy → State}
    (h : s.Awaits t code c) : s.takeOrder t code f = f (s.withTaken t) c := by
  obtain ⟨⟨-, ⟨h1, h2, -, -, -⟩, h6, h7, h8⟩, h9⟩ := h
  have hd : (s.tr t).dispatched code = true := by simp [Transport.dispatched, Port.inFlight, *]
  have ha : (s.withTaken t).admission t code = none := by
    simpa [State.admission, State.withTaken, State.pwarnFor, admitByState] using h9
  simp only [State.takeOrder, hd, h7, if_true]
  simp only [State.withTaken] at ha
  simp only [ha, State.withTaken]

/-- Nothing happens when no such order awaits its owner. -/
theorem State.takeOrder_absent {s : State} {t : Tr} {code : Nat} {f : State → OrderCopy → State}
    (h : (s.tr t).dispatched code = false) : s.takeOrder t code f = s := by
  simp [State.takeOrder, h]

/-! ### Ending an order -/

/-- The record of a transport whose order has just ended with a result. -/
def Transport.ended (x : Transport) (r : OrderResult) (k : Nat) : Transport :=
  { x with port := { x.port with pointer := .terminating, result := resultWords x r k, held := none } }

/-- The order in flight ends: the pointer is TERMINATING and the termination write is requested (R141, R142). -/
theorem State.endOrder_working {s : State} {t : Tr} {r : OrderResult} (h : (s.tr t).Working)
    (hc : r.count ≤ 65535) :
    s.endOrder t r =
      (s.setTr t ((s.tr t).ended r s.freeIndex)).requestControl t (terminationTransfer (s.tr t) r s.freeIndex) := by
  obtain ⟨h1, h2, h3, h4, h5⟩ := h
  have ho : (s.tr t).applyOffline = s.tr t := by simp [Transport.applyOffline, h4]
  simp only [State.endOrder, Port.inFlight, h1, h2, h3, State.formTermination, ho, faultStopCondition, hc,
    Transport.ended]
  simp
  cases r
  rfl

/-- What a command of one transport leaves when its last act was to end the order in flight. -/
theorem State.terminates_after {s x : State} {t : Tr} {r : OrderResult} (hw : (x.tr t).Working)
    (hi : (x.tr t).port.index = (s.tr t).port.index) (hc : r.count ≤ 65535) (hm : r.markBlock = none)
    (hs : x.Settled t) :
    s.Terminates ((((x.endOrder t r).settled t).refresh t).finish) t r.condition r.count r.value
      (x.tr t).port.indicators := by
  have he := State.endOrder_working hw hc
  have hq : (x.endOrder t r).settleOnce t = none := by
    apply State.settled_congr (s := x) <;> simp [he, Transport.ended]
    exact Option.isNone_iff_eq_none.mp hs
  rw [State.settled_rest hq, he]
  simp [State.Terminates, Transport.ended, resultWords, endWords, terminationTransfer, hm, hi, countWord, hc,
    Transport.refresh, terminationWord, Reckoning.atLoadPoint, pastEot]

end Sys2Proof.Machine
end

