-- ==== Sys2Proof/Tests/Slice0.lean ====
section
/-! SUPPORT. Small tests of one command each, and a state for the hypotheses of every statement. -/
namespace Sys2Proof.Tests
open Machine

/-! ### Small states -/

/-- A head sample with nothing on it. -/
def hs0 : HeadSample := { envelope := 0, pulses := 0, sync := false, bytes := [] }

/-- The state with main power out. -/
def dark : State := { State.reset with powered := false }

/-- Standstill in drive mode CAPSTAN, nothing pending. -/
def stand (x : Transport) : Transport :=
  { x with
    drive := { x.drive with
      phase := .stopped, shuttlePhase := .none, mode := .capstan, stopKind := .none, pending := none, creep := none,
      engaged := true, supplyReleased := true, takeupReleased := true },
    ctl := { x.ctl with unloadEnding := false, stopUnderWay := false },
    reck := { x.reck with mode := .capstan, moving := false } }

/-- Both loops in their columns under vacuum. -/
def goodPath (x : Transport) : Transport :=
  { x with
    sense := { x.sense with
      supplyColumn := { x.sense.supplyColumn with valid := true, zone := .z2, sampled := 3, identical := 4 },
      takeupColumn := { x.sense.takeupColumn with valid := true, zone := .z2, sampled := 3, identical := 4 },
      supplyVacuum := { x.sense.supplyVacuum with level := true },
      takeupVacuum := { x.sense.takeupVacuum with level := true }, pathGood := true } }

/-- READY at standstill, online. -/
def ready (x : Transport) : Transport :=
  let y := goodPath (stand x)
  { y with
    ctl := { y.ctl with
      state := .ready, permission := .full, online := true, offlinePending := false, operation := .none } }

/-- READY but for what the switches and filters hold. -/
def readyKeep (x : Transport) : Transport := ready x

/-- No order in the Transfer Unit or the Locate Unit, and the channel quiet. -/
def unused (x : Transport) : Transport :=
  { x with
    xfer := .idle, loc := .idle,
    chan := { x.chan with
      activity := .listen, writeGate := false, phase := .hunt, record := none, pendingSettings := none,
      formation := none, blankWatch := none, handOver := .off } }

/-- ANCHORED at position 5000 with a known sequence and empty windows. -/
def midTape (x : Transport) : Transport :=
  { x with
    reck := { x.reck with
      anchor := .anchored, bound := some 0, position := 5000, nextKnown := true, nextBlock := 7, fileNumber := 1,
      supplyWindow := .empty, takeupWindow := .empty } }

/-- A supply window of 256 counts with so many capstan steps. -/
def window (c : Int) (x : Transport) : Transport :=
  { x with reck := { x.reck with supplyWindow := { dir := some .forward, reelCounts := 256, capstanSteps := c } } }

/-- UNLOADED with nothing moving. -/
def unloadedT (x : Transport) : Transport :=
  let y := stand x
  { y with
    drive := { y.drive with mode := .halted, engaged := false, supplyReleased := false, takeupReleased := false },
    ctl := { y.ctl with state := .unloaded, permission := .none, pump := false },
    reck := { y.reck with mode := .halted, anchor := .lost },
    sense :=
      let z := { x.sense with
        supplyColumn := { x.sense.supplyColumn with valid := true, zone := .z0, sampled := 0 },
        supplyVacuum := { level := false, count := 0 } }
      { z with pathGood := pathGoodOf z } }

/-- The supply column FAULT. -/
def brokenColumn (x : Transport) : Transport :=
  { x with
    sense := { x.sense with
      supplyColumn := { x.sense.supplyColumn with valid := false, zone := .unknown }, pathGood := false } }

/-- FAULTED. -/
def faultedT (x : Transport) : Transport := { x with ctl := { x.ctl with state := .faulted, fault := .vacuum } }

/-- The fault kind STALL. -/
def stalled (x : Transport) : Transport := { x with ctl := { x.ctl with fault := .stall } }

/-- PATH GOOD false, the supply loop at its limit. -/
def pathBad (x : Transport) : Transport :=
  { x with
    sense := { x.sense with
      supplyColumn := { x.sense.supplyColumn with valid := true, zone := .z0, sampled := 0 }, pathGood := false } }

/-- Tape in the path, the transport offline. -/
def taped (x : Transport) : Transport :=
  { x with
    sense := { x.sense with tapePresent := { level := true, count := 0 } }, ctl := { x.ctl with online := false } }

/-- The two-valued switches at a level. -/
def sw (v : Bool) (x : Transport) : Transport :=
  { x with
    sense := { x.sense with
      tapePresent := { level := v, count := 0 }, writeRing := { level := v, count := 0 },
      online := { level := v, count := 0 }, loadButton := { level := v, count := 0 },
      unloadButton := { level := v, count := 0 } },
    ctl := { x.ctl with online := v } }

/-- BOT CLEAR, the last capstan count positive. -/
def botClear (x : Transport) : Transport :=
  { x with
    sense := { x.sense with
      bot := { x.sense.bot with level := false }, capstanTach := { x.sense.capstanTach with lastPositive := true } } }

/-- BOT CLEAR with two MARKER samples counted at a lag of 7 steps, and a held EOT position. -/
def botLagging (x : Transport) : Transport :=
  let y := botClear x
  { y with
    sense := { y.sense with bot := { level := false, count := 2, capstanLag := 7, takeupLag := 0 } },
    reck := { y.reck with eot := some 900000 } }

/-- BOT MARKER, the last capstan count negative. -/
def botHeld (x : Transport) : Transport :=
  { x with
    sense := { x.sense with
      bot := { x.sense.bot with level := true }, capstanTach := { x.sense.capstanTach with lastPositive := false } } }

/-- The capstan disengaged, and the sign of the last take-up count. -/
def offCapstan (v : Bool) (x : Transport) : Transport :=
  { x with sense := { x.sense with takeupTach := { x.sense.takeupTach with lastPositive := v } } }

/-- EOT CLEAR and the fraction 0. -/
def eotClear (x : Transport) : Transport :=
  { x with
    sense := { x.sense with eot := { x.sense.eot with level := false } }, reck := { x.reck with fraction := 0 } }

/-- An order in flight. -/
def flying (x : Transport) : Transport :=
  { x with
    port := { x.port with pointer := .inFlight, held := none, stopNotice := false },
    ctl := { x.ctl with offlinePending := false } }

/-- IN MOTION with the capstan at speed. -/
def running (x : Transport) : Transport :=
  { x with
    ctl := { x.ctl with state := .inMotion },
    drive := { x.drive with
      phase := .run, watched := some .capstan, stallReported := false,
      stallTimer := x.drive.active.stallWindow * cyclesPerMs } }

/-- The state with nothing about to begin by itself and no power warning, and transport 0 changed. -/
def base (calm : State → State) (f : Transport → Transport) (s : State) : State := (calm s).modTr .t0 f

/-- No motion pending on any transport, and PWARN released. -/
def calm (s : State) : State :=
  let quiet (x : Transport) : Transport :=
    { x with
      drive := { x.drive with stopKind := .none, pending := none }, ctl := { x.ctl with unloadEnding := false } }
  { ((((s.modTr .t0 quiet).modTr .t1 quiet).modTr .t2 quiet).modTr .t3 quiet) with
    power := { s.power with pwarn := { level := false, count := 0 }, released := .all true }, powered := true }

/-- Transport 0 and the others changed. -/
def each (f g : Transport → Transport) (s : State) : State :=
  (((s.modTr .t0 f).modTr .t1 g).modTr .t2 g).modTr .t3 g

/-- POWER HELD at rest. -/
def powerHeldT (x : Transport) : Transport :=
  let y := ready x
  { y with ctl := { y.ctl with state := .powerHeld, permission := .none } }

/-- PWARN asserted and its release awaited. -/
def warned (s : State) : State :=
  { s with power := { s.power with pwarn := { level := true, count := 0 }, released := .all false } }

/-- CLEAR released and armed, or asserted. -/
def clearing (armed : Bool) (s : State) : State :=
  { s with power := { s.power with clear := { level := !armed, count := 0 }, clearArmed := armed } }

/-- The order pointer in a state. -/
def pointer (p : PointerState) (x : Transport) : Transport :=
  { x with port := { x.port with pointer := p, faultAfter := false } }

/-- An emergency stop began while the pointer was TERMINATING. -/
def owesFault (x : Transport) : Transport := { x with port := { x.port with faultAfter := true } }

/-- The order block still being fetched. -/
def fetching (x : Transport) : Transport := { x with port := { x.port with stage := .fetching, senseTaken := 0 } }

/-- A read of an order block. -/
def fetchX : BusTransfer :=
  { kind := .fetch, address := 800, length := 12, words := [], sizes := [], orphan := false }

/-- A termination write. -/
def termX : BusTransfer :=
  { kind := .termination, address := 814, length := 5, words := [0, 0, 0, 0, 0x8001], sizes := [], orphan := false }

/-- A transfer under way for transport 0. -/
def busy (x : BusTransfer) (s : State) : State := { s with arb := { s.arb with current := some (.t0, x) } }

/-- A control request of transport 1 and a free port. -/
def arbC (s : State) : State :=
  { s with
    arb := { s.arb with
      control := (Four.all none).set .t1 (some fetchX), controlLast := .t3, current := none } }

/-- A data request of a kind of transport 0 and a free port. -/
def arbD (k : TransferKind) (s : State) : State :=
  { s with
    arb := { s.arb with
      control := .all none, data := (Four.all none).set .t0 (some k), dataLast := .t3, current := none } }

/-- No request and a free port. -/
def arbE (s : State) : State :=
  { s with arb := { s.arb with control := .all none, data := .all none, current := none } }

/-- A FIFO with bytes and the ends of records in it. -/
def fifoOf (ends : List Nat) (bs : List Byte) (x : Transport) : Transport :=
  { x with xfer := { x.xfer with fifo := bs, ends := ends } }

/-- The data of a record is being handed over. -/
def handingT (x : Transport) : Transport := { x with chan := { x.chan with handOver := .handing } }

/-- No data is being handed over. -/
def handOff (x : Transport) : Transport := { x with chan := { x.chan with handOver := .off } }

/-- The words of an order block with a code and the low word of its data address. -/
def blockW (code address : Nat) : List Word :=
  [BitVec.ofNat 16 code, 0, 0, 0, 0, BitVec.ofNat 16 address, 0, 0, 0, 0, 0, 0]

/-- No tape in the path. -/
def noTape (x : Transport) : Transport :=
  { x with sense := { x.sense with tapePresent := { level := false, count := 0 } } }

/-- An emergency stop under way. -/
def stopping (x : Transport) : Transport :=
  { x with
    ctl := { x.ctl with stopUnderWay := true, permission := .none },
    drive := { x.drive with phase := .decel, stopKind := .emergency } }

/-- No UNLOAD order has been taken. -/
def noUnload (x : Transport) : Transport :=
  { x with port := { x.port with copy := x.port.copy.map fun c => { c with w0 := 6 } } }

/-- An order copy with its word 0, everything else 0. -/
def copyC (w : Word) : OrderCopy := { w0 := w, w1 := 0, w2 := 0, w3 := 0, w4 := 0, w5 := 0, w6 := 0 }

/-- An order dispatched on transport 0, online and without a warning. -/
def orderC (c : OrderCopy) (f : Transport → Transport) (s : State) : State :=
  (base calm f s).modTr .t0 fun x =>
    { x with
      port := { x.port with
        pointer := .inFlight, held := none, stopNotice := false, stage := .dispatched, copy := some c },
      ctl := { x.ctl with offlinePending := false, online := true } }

/-- See `orderC`; an order with its word 0 only. -/
def order (w : Word) (f : Transport → Transport) (s : State) : State := orderC (copyC w) f s

/-- The reel record of transport 0. -/
def reelOf (r : ReelRecord) (s : State) : State := { s with store := { s.store with reels := s.store.reels.set .t0 r } }

/-- An entry. -/
def entryA : Entry :=
  { mark := 1, kind := .checkpoint, block := 3, position := 4000, recordLength := 80, bound := none, tag := [],
    slot := 0 }

/-- The entry of the file mark that closes file 1, at block 2. -/
def fileA : Entry := { entryA with mark := 50001, kind := .file, block := 2, recordLength := 0 }

/-- ANCHORED at position 50. -/
def atLoad (x : Transport) : Transport :=
  { x with reck := { x.reck with anchor := .anchored, bound := some 0, position := 50 } }

/-- THREADING at rest. -/
def threadingT (o : Operation) (x : Transport) : Transport :=
  let y := unloadedT x
  { y with
    ctl := { y.ctl with state := .threading, operation := o }, drive := { y.drive with mode := .thread },
    reck := { y.reck with mode := .thread } }

/-- UNLOADING with the creep under way. -/
def unloadingT (x : Transport) : Transport :=
  { x with ctl := { x.ctl with state := .unloading }, drive := { x.drive with creep := some true } }

/-- SEEKING LOAD POINT of a panel load. -/
def seekingT (x : Transport) : Transport :=
  { x with ctl := { x.ctl with state := .seekingLoadPoint, operation := .panelLoad, permission := .creep } }

/-- Both buttons accepted as released. -/
def buttonsUp (x : Transport) : Transport :=
  { x with
    sense := { x.sense with
      loadButton := { level := false, count := 0 }, unloadButton := { level := false, count := 0 } } }

/-- Offline with both buttons released and an idle pointer. -/
def offline (x : Transport) : Transport :=
  let y := buttonsUp x
  { y with ctl := { y.ctl with online := false }, port := { y.port with pointer := .idle } }

/-- No termination held. -/
def holdNone (x : Transport) : Transport := { x with port := { x.port with held := none } }

/-- ACCEL in a direction, with no stop target. -/
def accelT (d : Dir) (x : Transport) : Transport :=
  { x with drive := { x.drive with phase := .accel, dir := d, stopTarget := none } }

/-- A stop target. -/
def targetT (d : Int) (x : Transport) : Transport := { x with drive := { x.drive with stopTarget := some d } }

/-- The position at the end of its range. -/
def limitT (x : Transport) : Transport := { x with reck := { x.reck with position := 16000000 } }

/-- No hold-over distance left. -/
def holdT (x : Transport) : Transport := { x with drive := { x.drive with holdOver := some 0 } }

/-- The capstan in DECEL. -/
def decelT (x : Transport) : Transport := { x with drive := { x.drive with phase := .decel } }

/-- A backward shuttle in a phase, its target passed. -/
def shuttleT (p : ShuttlePhase) (x : Transport) : Transport :=
  { x with
    drive := { x.drive with
      phase := .stopped, shuttlePhase := p, mode := .shuttle, dir := .backward, shuttleTarget := some 5,
      engaged := false },
    reck := { x.reck with
      mode := .shuttle, position := 5, anchor := .drifted, bound := some 100 } }

/-- The unthreading wind being brought to 0. -/
def windT (x : Transport) : Transport :=
  { x with
    drive := { x.drive with mode := .unthread, windStopping := true, supplyReleased := true },
    reck := { x.reck with mode := .unthread } }

/-- The unthreading wind not being stopped. -/
def blowing (x : Transport) : Transport := { x with drive := { x.drive with windStopping := false } }

/-- A forward shuttle to a target, the position at the end of its range with no EOT position held. -/
def onward (p : Int) (x : Transport) : Transport :=
  { x with
    drive := { x.drive with dir := .forward, shuttleTarget := some p },
    reck := { x.reck with position := 16000000, eot := none } }

/-- A spaced forward record of 100 steps. -/
def recA : RecordInProgress :=
  { dir := .forward, mode := .spacing, start := 4800, fall := 4900, qualify := 20, low := 60, locked := false,
    bytes := [], sum := 0, trailBytes := [], trailLocked := false, trailClosed := false, closed := false,
    wanted := false, handed := 0 }

/-- A noise burst of 81 steps. -/
def recNoise : RecordInProgress := { recA with fall := 4881 }

/-- A detector phase with a record in progress, the channel listening. -/
def chanR (p : DetectorPhase) (r : RecordInProgress) (x : Transport) : Transport :=
  { x with chan := { x.chan with activity := .listen, phase := p, record := some r, handOver := .off } }

/-- A decoded record of 100 steps: block 3 of file 1, one data byte, its check GOOD. -/
def recD : RecordInProgress :=
  { recA with mode := .decode, locked := true, bytes := stampBytes 3 1 .data 0 ++ [5, 0, 5] }

/-- A decoded file mark: block 3 closing file 1. -/
def recF : RecordInProgress := { recD with bytes := stampBytes 3 1 .fileMark 0 ++ [0, 0] }

/-- A data record whose check fails. -/
def recBad : RecordInProgress := { recD with bytes := stampBytes 3 1 .data 0 ++ [5, 0, 6] }

/-- DRIFTED at position 5000 with bound 400. -/
def driftT (x : Transport) : Transport :=
  { x with reck := { x.reck with anchor := .drifted, bound := some 400, position := 5000, eot := some 900000 } }

/-- DRIFTED at position -900 with bound 400. -/
def beforeBot (x : Transport) : Transport := { driftT x with reck := { (driftT x).reck with position := -900 } }

/-- DRIFTED at position 9,000,000 with bound 400. -/
def farDrift (x : Transport) : Transport := { driftT x with reck := { (driftT x).reck with position := 9000000 } }

/-- The default profile. -/
def stdProfile (x : Transport) : Transport := { x with drive := { x.drive with active := defaultProfile } }

/-- A READ in RUNNING with records left and a byte in its FIFO, whose record in progress is about to close. -/
def readOn (nt : Bool) (r : RecordInProgress) (n : Nat) (x : Transport) : Transport :=
  { x with
    loc := { x.loc with target := none },
    xfer := { x.xfer with
      order := .read nt, phase := .running, recordsLeft := n, roomLeft := 9, fifo := if nt then [] else [5], joined := 1,
      skipFirst := false, held := none, quiet := false },
    chan := { x.chan with
      activity := .listen, phase := .trail, record := some r, blankWatch := some (.transfer, 5),
      handOver := if nt then .off else .handing },
    drive := { x.drive with active := { x.drive.active with h := 40, threshold := 128 } } }

/-- A SPACE FORWARD in RUNNING whose blank watch has run out. -/
def blankT (x : Transport) : Transport :=
  { x with
    chan := { x.chan with blankWatch := some (.transfer, 60000) },
    xfer := { x.xfer with order := .space .forward false, phase := .running } }

/-- A data record of 80 bytes written, its gap passed and read back GOOD. -/
def formA : Formation :=
  { block := 7, file := 1, kind := .data, volumeCheck := 0, declared := 80, phase := .after, ambleSteps := 60,
    partBytes := 0, written := 80, sum := 0, bytes := [], start := 4800, steps := 95, fill := false, cut := false,
    hostBytes := 80, readBacks := 1, readBackGood := true, due := false, spoiled := false }

/-- A formation under way in an activity. -/
def formT (a : Activity) (f : Formation) (x : Transport) : Transport :=
  { x with chan := { x.chan with activity := a, writeGate := true, formation := some f } }

/-- A WRITE of 80 bytes in WRITING, with a hold-over distance. -/
def writingT (x : Transport) : Transport :=
  { x with
    xfer := { x.xfer with order := .write 80, phase := .writing },
    drive := { x.drive with active := { x.drive.active with h := 40 } } }

/-- A file mark written, its gap passed and read back GOOD. -/
def markA : Formation := { formA with kind := .fileMark, declared := 0, written := 0, hostBytes := 0 }

/-- A WRITE FILE MARK in WRITING, with a hold-over distance. -/
def markingT (x : Transport) : Transport :=
  { writingT x with xfer := { (writingT x).xfer with order := .writeFileMark } }

/-- A service threshold above 0. -/
def threshT (x : Transport) : Transport :=
  { x with drive := { x.drive with active := { x.drive.active with threshold := 128 } } }

/-- An order of the Transfer Unit whose FIFO is empty and whose room is 3 bytes. -/
def xferT (o : TransferOrder) (x : Transport) : Transport :=
  { x with xfer := { x.xfer with order := o, quiet := false, spilling := false, fifo := [], ends := [], roomLeft := 3 } }

/-- DRAINING. -/
def drainT (x : Transport) : Transport := { x with xfer := { x.xfer with phase := .draining } }

/-- The gap extension at its limit. -/
def gapT (x : Transport) : Transport := { x with xfer := { x.xfer with gapExtension := 3000 } }

/-- An ERASE of 9 steps that has erased them. -/
def erasedT (x : Transport) : Transport :=
  { x with
    xfer := { x.xfer with order := .erase 9, phase := .running, erased := 9 },
    chan := { x.chan with activity := .erasing, writeGate := true },
    drive := { x.drive with active := { x.drive.active with h := 40 } } }

/-- A decode approach past its budget. -/
def budgetT (x : Transport) : Transport :=
  { x with
    loc := { x.loc with
      order := .locateMark, phase := .decode, budget := some 40000, travel := 40001, failing := none } }

/-- No data request and no transfer of transport 0. -/
def free0 (s : State) : State :=
  { s with arb := { s.arb with data := s.arb.data.set .t0 none, current := none } }

/-- An unknown sequence. -/
def noSeq (x : Transport) : Transport := { x with reck := { x.reck with nextKnown := false } }

/-- A last block of 95 steps that starts at a position: data of 80 bytes, block 6, stamped. -/
def lastA (p : Int) : LastBlock :=
  { block := some 6, start := p, length := 95, kind := .data, stamped := true, anchor := .anchored, bound := 0 }

/-- That last block at a transport. -/
def lastT (p : Int) (x : Transport) : Transport := { x with reck := { x.reck with lastBlock := some (lastA p) } }

/-- No last block. -/
def noLast (x : Transport) : Transport := { x with reck := { x.reck with lastBlock := none } }

/-- A lost anchor. -/
def lostT (x : Transport) : Transport := { x with reck := { x.reck with anchor := .lost } }

/-- An ENTER MARK of mark 9, CHECKPOINT, record length 80. -/
def copyE : OrderCopy := { copyC 0x020C with w1 := 9, w3 := 80 }

/-- A free slot in the pool. -/
def emptied (s : State) : State := { s with store := { s.store with poolFree := 2000 } }

/-- An ACTIVE record with one entry at transport 0. -/
def mapA (s : State) : State := reelOf { ReelRecord.none with state := .active, entries := [entryA] } (emptied s)

/-- The exchange area with a holder and waiting orders. -/
def areaS (h : Option Tr) (w : Four Bool) (s : State) : State :=
  { s with exchange := { s.exchange with holder := h, waiting := w } }

/-- The area free and transport 0 next among those that wait. -/
def waits0 (s : State) : State :=
  { s with exchange := { s.exchange with holder := none, waiting := .all true, last := .t3 } }

/-- The exchange area held, with a table of zeros of a length (of one entry after its header for a length of 8) and
the words written. -/
def tableS (h : Tr) (n w : Nat) (s : State) : State :=
  { s with
    exchange := { s.exchange with
      holder := some h, table := if n = 8 then [0, 0, 0, 0, 0, 0, 1, 0] else List.replicate n 0, written := w } }

/-- IN MOTION at speed in capstan drive. -/
def atSpeed (x : Transport) : Transport := running (ready x)

/-- The blank watch off. -/
def noWatch (x : Transport) : Transport := { x with chan := { x.chan with blankWatch := none } }

/-- No order in the Locate Unit. -/
def noLocate (x : Transport) : Transport := { x with loc := .idle }

/-- Transport 0 neither holds nor awaits the exchange area. -/
def leftArea (s : State) : State :=
  { s with exchange := { s.exchange with holder := none, waiting := s.exchange.waiting.set .t0 false } }

/-- The position of transport 0 in 7.10. -/
def far (x : Transport) : Transport := { x with reck := { x.reck with position := 9201340 } }

/-- Forward at speed with windows, stop target, tachometers and watchdog as a motion leaves them. -/
def counting (x : Transport) : Transport :=
  { x with
    drive := { x.drive with
      dir := .forward, stopTarget := some 900000, holdOver := none, watched := some .capstan, command := 1000,
      active := defaultProfile },
    sense := { x.sense with
      capstanTach := { phases := ⟨false, false⟩, lastPositive := true },
      supplyTach := { phases := ⟨false, false⟩, lastPositive := true },
      takeupTach := { phases := ⟨false, false⟩, lastPositive := true } },
    reck := { x.reck with
      moving := true, mode := .capstan, eot := none, supplyWindow := { dir := some .forward, reelCounts := 255, capstanSteps := 20000 },
      takeupWindow := { dir := some .forward, reelCounts := -255, capstanSteps := -20000 } } }

/-- A decode approach within its budget. -/
def budgetT2 (x : Transport) : Transport :=
  { x with loc := { x.loc with order := .locateMark, phase := .decode, budget := some 40000, travel := 40000 } }

/-- A leg of an order of the Locate Unit. -/
def legT (o : LocateOrder) (p : LocatePhase) (g : RewindLeg) (x : Transport) : Transport :=
  { x with loc := { x.loc with order := o, phase := p, leg := g, step := .moving, failing := none } }

/-- A backward shuttle from position 900,000 with both revolution phases at a value. -/
def shuttling (n : Nat) (x : Transport) : Transport :=
  { x with
    drive := { x.drive with watched := some .takeup, active := defaultProfile },
    sense := { x.sense with
      supplyPhase := n, takeupPhase := n,
      capstanTach := { phases := ⟨false, false⟩, lastPositive := true },
      supplyTach := { phases := ⟨false, false⟩, lastPositive := true },
      takeupTach := { phases := ⟨false, false⟩, lastPositive := true } },
    reck := { x.reck with position := 900000, fraction := 0, takeupPitch := 104000, supplyPitch := 256000 } }

/-- A strong head sample with a sync mark. -/
def hs1 : HeadSample := { envelope := 255, pulses := 255, sync := true, bytes := [1, 2] }

/-- The default detector settings, and the data of the next record asked for. -/
def detectorT (x : Transport) : Transport :=
  { x with
    chan := { x.chan with settings := { tStart := 80, tEnd := 40, dMin := 4, trim := 0 }, handOver := .asked } }

/-- No UNLOAD order, no handing, and the sequence of no order at work. -/
def noHand (x : Transport) : Transport := handOff (noUnload x)

/-- A stop of a kind under way in a state; `b` for an intact path and for a stop by CLEAR. -/
def stopT (k : StopKind) (st : TState) (under b : Bool) (x : Transport) : Transport :=
  { x with
    drive := { x.drive with stopKind := k },
    ctl := { x.ctl with
      state := st, stopUnderWay := under, permission := if under then .none else x.ctl.permission, pathIntact := b,
      stopByClear := b } }

/-- A termination held through a stop. -/
def heldT (r : OrderResult) (x : Transport) : Transport :=
  { x with
    port := { x.port with pointer := .inFlight, held := some r, stopNotice := true },
    ctl := { x.ctl with offlinePending := false } }

/-- A READ in ENDING. -/
def endingT (noticed : Bool) (x : Transport) : Transport :=
  { x with
    port := { x.port with pointer := .inFlight, held := none, stopNotice := noticed, stage := .taken, copy := some (copyC 6) },
    ctl := { x.ctl with offlinePending := false },
    xfer := { x.xfer with order := .read false, phase := .ending, resultBytes := 80, mark := (9, 60, 800), quiet := true },
    drive := { x.drive with requester := .transfer } }

/-- The data of a record in progress is being handed over. -/
def chanH (r : RecordInProgress) (x : Transport) : Transport :=
  { x with chan := { x.chan with phase := .inRecord, record := some r, handOver := .handing } }

/-- A shuttle of the Locate Unit that its target has ended. -/
def byTarget (x : Transport) : Transport :=
  { x with
    drive := { x.drive with endedBy := .target, requester := .locate, watched := some .takeup },
    loc := { x.loc with rewindOutcome := none } }

/-- The lowest position that with the new bound of 164 may lie at 0. -/
def beforeZero (x : Transport) : Transport := { x with reck := { x.reck with position := -164 } }

/-- A plan toward an entry of bound 7 with its stand-off target. -/
def aimT (p : Int) (x : Transport) : Transport :=
  { x with loc := { x.loc with aim := some (p + 160, 7), standOff := p } }

/-! ### Ill-formed terms are refused -/

theorem test_illformed_bus_write : (Instr.ignoredBusWrite 3 0).wellFormed = false := by decide
theorem test_illformed_timeout : (Instr.busTimeout 16 []).wellFormed = false := by decide
theorem test_illformed_timeout_words : (Instr.busTimeout 2 [0]).wellFormed = false := by decide
theorem test_illformed_fetch : (Instr.orderFetchComplete []).wellFormed = false := by decide
theorem test_illformed_profile : (Instr.profileRecordRead [0]).wellFormed = false := by decide
theorem test_illformed_detector : (Instr.detectorRecordRead [0, 0, 0]).wellFormed = false := by decide
theorem test_illformed_tag : (Instr.tagWordsRead []).wellFormed = false := by decide
theorem test_illformed_load_burst : (Instr.loadMapBurstComplete (List.replicate 9 0)).wellFormed = false := by decide
theorem test_illformed_write_burst : (Instr.writeBurstComplete []).wellFormed = false := by decide
theorem test_illformed_count :
    (Instr.tachometerCount .t0 .capstan ⟨true, false⟩ 250 { hs0 with bytes := List.replicate 7 0 } hs0).wellFormed =
      false := by decide
theorem test_illformed_samples :
    (Instr.pwarnAssertion 0).wellFormed = false ∧ (Instr.zoneEvent .t0 .supply 0 0).wellFormed = false ∧
      (Instr.buttonReleased .t0 .load 0).wellFormed = false := by decide

/-! ### Values of the specification's worked examples -/

/-- 3.9: feed-forward at 80,000 and 40,000 steps per second, and in a shuttle. -/
theorem test_feed_forward :
    feedForward 80000 224000 = 1463 ∧ feedForward 80000 104000 = 3151 ∧ feedForward 40000 224000 = 731 ∧
      feedForward 400000 224000 = 7314 ∧ feedForward 400000 104000 = 15754 ∧ feedForward 374000 64000 = 23936 := by
  decide

/-- 3.9: the shuttle limit. -/
theorem test_shuttle_limit :
    shuttleLimit defaultProfile { Reckoning.powerOn with supplyPitch := 224000, takeupPitch := 104000 } = 400000 ∧
      shuttleLimit defaultProfile { Reckoning.powerOn with supplyPitch := 64000, takeupPitch := 104000 } =
        374000 := by decide

/-- 3.9: 80 steps from V_rw to standstill; 7.10: 320 steps from V_fs; 2.13: 5 steps from creep speed. -/
theorem test_ramps :
    rampDistance 80000 40000000 = 80 ∧ rampDistance 160000 40000000 = 320 ∧
      rampDistance (creepSpeed defaultProfile) 40000000 = 5 := by decide

/-- The reckoning of 4.8 before the shuttle, in SHUTTLE. -/
def shuttleR : Reckoning :=
  { Reckoning.powerOn with
    position := 1200000, fraction := 0, anchor := .anchored, bound := some 0, takeupPitch := 104000,
    nextBlock := 2371, nextKnown := true }

/-- 4.8: the shuttle start makes the anchor DRIFTED with bound 64 and the next block unknown. -/
theorem test_shuttle_start :
    shuttleR.shuttleStart.anchor = .drifted ∧ shuttleR.shuttleStart.bound = some 64 ∧
      shuttleR.shuttleStart.nextKnown = false ∧ shuttleR.shuttleStart.lastBlock = none := by decide

/-- 4.8: a take-up revolution in the shuttle adds 7 to the bound and 76 to the pitch. -/
theorem test_revolution :
    (shuttleR.shuttleStart.revolution .takeup true 76).bound = some 71 ∧
      (shuttleR.shuttleStart.revolution .takeup true 76).takeupPitch = 104076 := by decide

/-- 4.8: the re-anchoring on an EXACT entry at 2,139,140 measured at 2,139,010, head at 2,139,250. -/
theorem test_reanchor :
    let r := { shuttleR with
      position := 2139250, anchor := .drifted, bound := some 1087,
      lastBlock := some
        { block := some 4811, start := 2139010, length := 149, kind := .data, stamped := true, anchor := .drifted,
          bound := 1087 } }
    let a := r.reanchorEntry 4811 2139010 2139140 0
    a.position = 2139380 ∧ a.anchor = .anchored ∧ a.bound = some 0 ∧
      a.lastBlock.map (·.start) = some 2139140 := by decide

/-- 5.9: the volume check of MREAD4 is 157; 10.5: that of NMAST7 is 186. -/
theorem test_volume_check :
    volumeCheckOf (some 0x4D5245414434#48) = 157 ∧ volumeCheckOf (some 0x4E4D41535437#48) = 186 := by decide

/-- A passage report of block 2,371, file 2, DATA, forward (5.9). -/
def passageA : Passage :=
  { dir := .forward, start := 1200120, length := 149, dataLength := some 402, stamp := .decoded 2371 2 .data,
    check := .good }

/-- 5.9: the next block known as 2,371 becomes 2,372 with no SEQUENCE ADOPTED. -/
theorem test_sequence_agrees :
    ({ shuttleR with fileNumber := 2 }.passage passageA).2 = false ∧
      ({ shuttleR with fileNumber := 2 }.passage passageA).1.nextBlock = 2372 := by decide

/-- 4.8: an unknown sequence adopts the stamp, with SEQUENCE ADOPTED. -/
theorem test_sequence_adopted : ({ shuttleR with nextKnown := false }.passage passageA).2 = true := by decide

/-- 5.9: the stamp 0, 9, 67, 0, 2, 1, 157, 19 of a record of the ACTIVE reel MREAD4 is DECODED, and FOREIGN under a
volume check of 0. -/
theorem test_stamp :
    judgeStamp [0, 9, 67, 0, 2, 1, 157, 19, 0, 0] { ReelRecord.none with state := .active, volumeCheck := 157 } =
        .decoded 2371 2 .data ∧
      judgeStamp [0, 9, 67, 0, 2, 1, 157, 19, 0, 0] { ReelRecord.none with state := .active } = .none .foreign := by
  decide

/-- 5.9: e′ is 12 in the gap (a low step) and 142 over a record with 40 transitions (a start step), trim +8. -/
theorem test_detector_steps :
    adjustedEnvelope { defaultSettings with trim := 8 } { hs0 with envelope := 20 } = 12 ∧
      lowStep { defaultSettings with trim := 8 } { hs0 with envelope := 20 } = true ∧
      startStep { defaultSettings with trim := 8 } { hs0 with envelope := 150, pulses := 40 } = true := by decide

/-- 6.8: the length check of a 402-byte record of 149 steps, and of a file mark. -/
theorem test_length_check :
    lengthFits { lastA 0 with length := 149 } 402 = true ∧ lengthFits { lastA 0 with length := 149 } 396 = false ∧
      lengthFits { lastA 0 with length := 82, kind := .fileMark } 0 = true := by decide

/-- 6.8: an EXACT entry measured 42 steps away under ANCHORED moves, one 40 steps away stays. -/
theorem test_confirmation :
    confirmation { entryA with position := 450051 } 450093 .anchored 0 = .move none ∧
      confirmation { entryA with position := 450051 } 450091 .anchored 0 = .keep := by decide

/-- The table of 10.5. -/
def tableA : List Word :=
  [0x4E4D, 0x4153, 0x5437, 3, 0, 1501, 2, 1, 1, 0x0201, 0, 999, 6, 56877, 402, 0, 0xAAAA, 0xBBBB, 50001, 3, 0, 1500,
    10, 19703, 0, 0]

/-- 10.5: with C = 24 entry 1 does not fit: invalid, 1 entry valid, offset 18. -/
theorem test_import_short : importStatus tableA 24 = .invalid 1 18 := by decide

/-- 10.5: with C = 26 both entries come in ESTIMATED with bound 400. -/
theorem test_import_whole :
    importStatus tableA 26 =
      .whole
        [{ mark := 1, kind := .checkpoint, block := 999, position := 450093, recordLength := 402, bound := some 400,
           tag := [0xAAAA, 0xBBBB], slot := 0 },
         { mark := 50001, kind := .file, block := 1500, position := 675063, recordLength := 0, bound := some 400,
           tag := [], slot := 0 }] := by decide

/-- The next state that a command answers. -/
def after : Host.Outcome State Fault Refusal → State
  | .next s => s
  | _ => State.reset

/-- 7.10: LOCATE MARK 4 from 9,201,340 with the mark at 8,982,449 plans a backward shuttle to 8,938,289. -/
theorem test_locate_shuttles :
    let s := reelOf { ReelRecord.none with state := .active, entries := [{ entryA with position := 8982449 }] }
      (orderC { copyC 16 with w1 := 1 } (far ∘ ready ∘ unused ∘ midTape) State.reset)
    let d := ((after (exec (.locateMark .t0) s)).tr .t0).drive
    d.shuttlePhase = .accel ∧ d.dir = .backward ∧ d.shuttleTarget = some 8938289 := by decide

/-- 2.12: vacuum ABSENT in the supply column of a transport IN MOTION begins an emergency stop with VACUUM. -/
theorem test_door_opened :
    let s := base calm (flying ∘ running ∘ ready ∘ unused ∘ midTape) State.reset
    let c := ((after (exec (.vacuumEvent .t0 .supply false 1000) s)).tr .t0).ctl
    c.fault = .vacuum ∧ c.stopUnderWay = true ∧ c.pathIntact = false ∧ c.state = .inMotion := by decide

/-- 8.9: a pointer write while an order is in flight raises PROTOCOL and changes no pointer. -/
theorem test_protocol :
    let s := base calm (flying ∘ ready) State.reset
    let p := ((after (exec (.orderPointerWrite .t0 400) s)).tr .t0).port
    p.attention.getLsbD 0 = true ∧ p.pointer = .inFlight := by decide

/-- 8.9: a write of 400 to an idle pointer requests 12 words from byte address 3,200. -/
theorem test_fetch_request :
    let s := after (exec (.orderPointerWrite .t1 400) State.reset)
    (s.tr .t1).port.pointer = .inFlight ∧
      (s.arb.control.get .t1).map (fun x => (x.address, x.length)) = some (3200, 12) := by decide

/-- 6.8: the write start of block 1,000 retires the entries of later blocks and makes EOD 1,000. -/
theorem test_write_start :
    let s := reelOf
      { ReelRecord.none with
        state := .active, eod := some 2001, entries := [{ entryA with block := 999 }, { entryA with block := 1999 }] }
      (emptied State.reset)
    let r := (s.writeStart .t0 (some 1000)).reel .t0
    r.entries.map (·.block) = [999] ∧ r.eod = some 1000 := by decide

/-- 5.9: the stamp as it is written, of block 2,371, file 2, DATA, volume check 157, and of the file mark 9,005. -/
theorem test_stamp_written :
    stampBytes 2371 2 .data 157 = [0, 9, 67, 0, 2, 1, 157, 19] ∧
      stampBytes 9005 5 .fileMark 0 = [0, 35, 45, 0, 5, 2, 0, 168] := by decide

/-- R86, R87: a record of 3 bytes of which the host gives two, 200 and 100: the third place takes a zero byte, and the
check is 65,535 less 300. -/
theorem test_fill_written :
    let f := { formA with phase := .data, declared := 3, written := 0, fill := false, hostBytes := 0 }
    let r := writeBytes 5 f { Transfer.idle with fifo := [200, 100] }
    r.1.bytes = [200, 100, 0, 0xFE, 0xD3] ∧ r.1.fill = true ∧ r.1.phase = .postamble ∧
      r.2.held = some .dataLate := by decide

/-- R69: stamps of block 16,777,215, of file 0, and of file mark 65,535 passed forward give no sequence. -/
theorem test_sequence_out_of_range :
    adoptedSequence .backward 16777215 1 .data = none ∧ adoptedSequence .forward 8 0 .fileMark = none ∧
      adoptedSequence .forward 8 65535 .fileMark = none ∧
      adoptedSequence .backward 8 65535 .fileMark = some (8, 65535) := by decide

/-- R172: a burst that one word of the table is left for reads one word. -/
theorem test_import_burst : (Import.more 9 3).burst (41 - 40) = 1 ∧ (Import.more 9 3).burst 24 = 8 := by decide

/-- R155: the odd byte of an ended record leaves as a word of its own, before the words of the record being handed. -/
theorem test_odd_byte : fifoWords true [3] [1, 2, 3, 4, 5, 6] = [[1, 2], [3], [4, 5]] := by decide

/-- R155, R159: of a burst whose last two words carry the four bytes given back, the two words of the record before
it still count. -/
theorem test_give_back :
    let x := { Transfer.idle with joined := 4, mark := (90, 10, 100), resultBytes := 10, hostAddress := 100 }
    x.olderWords [2, 1, 2, 2] = [2, 1] ∧ (x.giveBack.delivered (x.olderWords [2, 1, 2, 2])).resultBytes = 13 ∧
      (x.delivered [2, 1, 2, 2]).giveBack.hostAddress = 104 := by decide

/-- 8.8: READY is bit 4 of word 1 of the sense record, PROTOCOL bit 0. -/
theorem test_attention_bits :
    attentionBit .ready = 16 ∧ attentionBit .notReady = 8 ∧ attentionBit .fault = 4 ∧ attentionBit .power = 2 ∧
      attentionBit .protocol = 1 := by decide

/-- R166: a step erased while an emergency stop brings the tape to rest counts. -/
theorem test_erase_in_ending :
    let x := { (State.reset.tr .t0) with
      xfer := { Transfer.idle with order := .erase 9, phase := .ending, erased := 3 },
      chan := { (State.reset.tr .t0).chan with activity := .erasing } }
    x.eraseStep.xfer.erased = 4 := by decide

/-- R57: a RUN that waits begins at the speed of the profile that the standstill has made active. -/
theorem test_waiting_run_takes_the_new_speed :
    let s := base calm (ready ∘ unused) State.reset
    let s := s.modTr .t0 fun x =>
      { x with
        drive := { x.drive with
          phase := .decel, staged := some { defaultProfile with vRw := 60000 },
          pending := some (.run .backward .rw none .transfer) },
        ctl := { x.ctl with state := .inMotion } }
    (match exec (.capstanStandstill .t0) s with
      | .next s' => (s'.tr .t0).drive.targetSpeed
      | _ => 0) = 60000 := by decide

/-- R169: of 4 words of an earlier record and 4 of the record being handed, the 5 completed before a timeout count, and
they stay when that record then closes as noise. -/
theorem test_timeout_words_stay :
    let x := { Transfer.idle with order := .read false, resultBytes := 20, mark := (90, 20, 0), joined := 8 }
    let y := x.readTimeout ((List.replicate 8 2).take 5)
    y.resultBytes = 30 ∧ y.giveBack.resultBytes = 30 := by decide

/-- R159: a record that closes as noise while a READ comes to rest after BLANK gives its bytes back. -/
theorem test_noise_in_ending_gives_back :
    let x := { Transfer.idle with
      order := .read false, phase := .ending, held := some .blankTape, fifo := [1, 2], joined := 2, roomLeft := 7,
      mark := (9, 0, 0) }
    let s := (base calm ready State.reset).modTr .t0 fun y => { y with xfer := x }
    ((s.xferHandingLost .t0).tr .t0).xfer.fifo = [] ∧ ((s.xferHandingLost .t0).tr .t0).xfer.roomLeft = 9 := by decide

/-- R159 and R168: a record that a stop cuts gives back its bytes in the FIFO, and what was delivered stays. -/
theorem test_stop_gives_back_the_fifo :
    let x := { Transfer.idle with
      order := .read false, phase := .running, resultBytes := 16, mark := (90, 4, 0), joined := 15, fifo := [1, 2, 3] }
    let y := x.stopBegins.giveBack
    y.fifo = [] ∧ y.resultBytes = 16 ∧ y.roomLeft = 90 := by decide

/-- R128: at the load point with an unknown sequence, more than 64 blocks from block 0 begin with a count space. -/
theorem test_locate_from_the_load_point :
    let phase (n : Nat) : LocatePhase :=
      ({ atLoad (noSeq (ready (Transport.powerOn bareSamples))) with loc := .forBlock n }.planBlock .loadPoint).loc.phase
    phase 65 = .countSpace ∧ phase 64 = .decode := by decide

/-! ### The hypotheses of the statements can be met -/

theorem meets_StepRunsFront :
    ∃ (c : Instr) (q : List Instr) (s : State), s.pending = c :: q :=
  ⟨.arbiterGrant, [.backupFailure], State.reset.withPending [.arbiterGrant, .backupFailure], by decide⟩

theorem meets_StepIdles :
    ∃ (s : State), s.powered = true ∧ s.pending = [] :=
  ⟨State.reset, by decide⟩

theorem meets_QueueUntouched :
    ∃ (c : Instr) (s : State) (s' : State), exec c s = .next s' :=
  ⟨.ignoredBusWrite 4 7, State.reset, State.reset, rfl⟩

theorem meets_InterruptAndSummary :
    ∃ (s : State) (s' : State), s.OutputsAgree ∧ step s = .next s' ∧ s'.powered = true :=
  ⟨State.reset.withPending [.ignoredBusWrite 4 7], State.reset, ⟨fun _ => ⟨by decide, by decide, by decide⟩, rfl, rfl⟩⟩

theorem meets_MemoryStaysCanonical :
    ∃ (s : State) (s' : State), s.MemoryCanonical ∧ step s = .next s' :=
  ⟨State.reset.withPending [.ignoredBusWrite 4 7], State.reset, ⟨rfl, rfl⟩⟩

theorem meets_WriteEnableInterlocked :
    ∃ (s : State) (s' : State), s.WriteInterlocked ∧ step s = .next s' :=
  ⟨State.reset.withPending [.ignoredBusWrite 4 7], State.reset, ⟨by intro t; cases t <;> decide, rfl⟩⟩

theorem meets_PathGoodFollows :
    ∃ (s : State) (s' : State), s.PathAgrees ∧ step s = .next s' :=
  ⟨State.reset.withPending [.ignoredBusWrite 4 7], State.reset, ⟨by intro t; cases t <;> decide, rfl⟩⟩

theorem meets_ReelCommandsLimited :
    ∃ (s : State) (s' : State), s.ReelsLimited ∧ step s = .next s' :=
  ⟨State.reset.withPending [.ignoredBusWrite 4 7], State.reset, ⟨by intro t; cases t <;> decide, rfl⟩⟩

theorem meets_MapsStayOrdered :
    ∃ (s : State) (s' : State), s.MapsOrdered ∧ step s = .next s' :=
  ⟨State.reset.withPending [.ignoredBusWrite 4 7], State.reset, ⟨⟨by intro t; cases t <;> decide, by decide⟩, rfl⟩⟩

theorem meets_TransportsIndependent :
    ∃ (s : State) (s' : State) (t : Tr) (c : Instr), commandOf c = some t ∧ exec c s = .next s' :=
  ⟨dark, dark, .t2, .stall .t2, ⟨rfl, rfl⟩⟩

theorem meets_NothingWithoutPower :
    ∃ (s : State) (s' : State) (c : Instr), s.powered = false ∧ (∀ f, c ≠ .powerOn f) ∧ c ≠ .backupFailure ∧ exec c s = .next s' :=
  ⟨dark, dark, .stall .t2, ⟨rfl, (fun f h => by cases h), by decide, rfl⟩⟩

theorem meets_CapstanCountsMoveThePosition_1 :
    ∃ (s : State) (t : Tr), s.powered = true ∧ (s.tr t).Unused ∧ (s.tr t).Standing ∧ (s.tr t).reck.mode = .capstan ∧ (s.tr t).reck.moving = false ∧ (s.tr t).reck.supplyWindow.full = false ∧ (s.tr t).reck.takeupWindow.full = false ∧ positionMin + 2 ≤ (s.tr t).reck.position ∧ (s.tr t).reck.position + 2 ≤ positionMax :=
  ⟨(base calm (ready ∘ unused ∘ midTape)) State.reset, .t0, by decide⟩

theorem meets_CapstanCountsMoveThePosition_2a :
    ∃ (s : State) (t : Tr) (ph : Phases) (d : Dir) (p : Bool), s.powered = true ∧ s.Settled t ∧ (s.tr t).drive.phase ≠ .stopped ∧ (s.tr t).drive.shuttlePhase = .none ∧ (s.tr t).drive.mode = .capstan ∧ (s.tr t).reck.mode = .capstan ∧ (s.tr t).reck.moving = true ∧ (s.tr t).eraseDue = false ∧ (s.tr t).budgetDue = false ∧ capstanStopPoint (s.tr t).drive (s.tr t).reck = .none ∧ (s.tr t).drive.holdOver ≠ some 0 ∧ (s.tr t).reck.supplyWindow.full = false ∧ (s.tr t).reck.takeupWindow.full = false ∧ ((s.tr t).reck.supplyWindow.dir = some d ∧ (s.tr t).reck.takeupWindow.dir = some d) ∧ positionMin < (s.tr t).reck.position ∧ (s.tr t).reck.position < positionMax ∧ tachCounts (s.tr t).sense.capstanTach ph = [p] ∧ (s.tr t).chan.record = none ∧ (s.tr t).chan.phase = .hunt ∧ (s.tr t).chan.formation = none ∧ (s.tr t).chan.blankWatch.all (·.2 < 60000) = true :=
  ⟨(base calm (counting ∘ budgetT2 ∘ atSpeed ∘ unused ∘ midTape)) State.reset, .t0, ⟨false, true⟩, .forward, true, by decide⟩

theorem meets_CapstanCountsMoveThePosition_2b :
    ∃ (s : State) (t : Tr) (ph : Phases) (d : Dir) (p : Bool), s.powered = true ∧ s.Settled t ∧ (s.tr t).drive.phase ≠ .stopped ∧ (s.tr t).drive.shuttlePhase = .none ∧ (s.tr t).drive.mode = .capstan ∧ (s.tr t).reck.mode = .capstan ∧ (s.tr t).reck.moving = true ∧ (s.tr t).eraseDue = false ∧ (s.tr t).budgetDue = false ∧ capstanStopPoint (s.tr t).drive (s.tr t).reck = .none ∧ (s.tr t).drive.holdOver ≠ some 0 ∧ (s.tr t).reck.supplyWindow.full = false ∧ (s.tr t).reck.takeupWindow.full = false ∧ ((s.tr t).reck.supplyWindow.dir = some d ∧ (s.tr t).reck.takeupWindow.dir = some d) ∧ positionMin < (s.tr t).reck.position ∧ (s.tr t).reck.position < positionMax ∧ tachCounts (s.tr t).sense.capstanTach ph = [p] ∧ (s.tr t).chan.record = none ∧ (s.tr t).chan.phase = .hunt ∧ (s.tr t).chan.formation = none ∧ (s.tr t).chan.blankWatch.all (·.2 < 60000) = true :=
  ⟨(base calm (counting ∘ atSpeed ∘ unused ∘ midTape)) State.reset, .t0, ⟨true, false⟩, .forward, false, by decide⟩

theorem meets_CapstanCountsMoveThePosition_2c :
    ∃ (s : State) (t : Tr) (ph : Phases) (d : Dir) (p : Bool), s.powered = true ∧ s.Settled t ∧ (s.tr t).drive.phase ≠ .stopped ∧ (s.tr t).drive.shuttlePhase = .none ∧ (s.tr t).drive.mode = .capstan ∧ (s.tr t).reck.mode = .capstan ∧ (s.tr t).reck.moving = true ∧ (s.tr t).eraseDue = false ∧ (s.tr t).budgetDue = false ∧ capstanStopPoint (s.tr t).drive (s.tr t).reck = .none ∧ (s.tr t).drive.holdOver ≠ some 0 ∧ (s.tr t).reck.supplyWindow.full = false ∧ (s.tr t).reck.takeupWindow.full = false ∧ ((s.tr t).reck.supplyWindow.dir = some d ∧ (s.tr t).reck.takeupWindow.dir = some d) ∧ positionMin < (s.tr t).reck.position ∧ (s.tr t).reck.position < positionMax ∧ tachCounts (s.tr t).sense.capstanTach ph = [p] ∧ (s.tr t).chan.record = none ∧ (s.tr t).chan.phase = .hunt ∧ (s.tr t).chan.formation = none ∧ (s.tr t).chan.blankWatch.all (·.2 < 60000) = true :=
  ⟨(base calm (counting ∘ detectorT ∘ atSpeed ∘ unused ∘ midTape)) State.reset, .t0, ⟨false, true⟩, .forward, true, by decide⟩

theorem meets_CapstanCountsMoveThePosition_3a :
    ∃ (s : State) (t : Tr) (ph : Phases) (r : RecordInProgress), s.powered = true ∧ s.Settled t ∧ (s.tr t).drive.phase ≠ .stopped ∧ (s.tr t).drive.shuttlePhase = .none ∧ (s.tr t).drive.mode = .capstan ∧ (s.tr t).reck.mode = .capstan ∧ (s.tr t).reck.moving = true ∧ (s.tr t).eraseDue = false ∧ (s.tr t).budgetDue = false ∧ capstanStopPoint (s.tr t).drive (s.tr t).reck = .none ∧ (s.tr t).drive.holdOver ≠ some 0 ∧ (s.tr t).reck.supplyWindow.full = false ∧ (s.tr t).reck.takeupWindow.full = false ∧ tachCounts (s.tr t).sense.capstanTach ph = [decide ((s.tr t).drive.dir = .forward)] ∧ (s.tr t).chan.phase = .qualify ∧ (s.tr t).chan.record = some r ∧ r.qualify < 20 ∧ (s.tr t).chan.formation = none ∧ (s.tr t).chan.blankWatch.all (·.2 < 60000) = true :=
  ⟨(base calm (counting ∘ detectorT ∘ chanR .qualify { recA with qualify := 19 } ∘ noWatch ∘ atSpeed ∘ unused ∘ midTape)) State.reset, .t0, ⟨false, true⟩, { recA with qualify := 19 }, by decide⟩

theorem meets_CapstanCountsMoveThePosition_3b :
    ∃ (s : State) (t : Tr) (ph : Phases) (r : RecordInProgress), s.powered = true ∧ s.Settled t ∧ (s.tr t).drive.phase ≠ .stopped ∧ (s.tr t).drive.shuttlePhase = .none ∧ (s.tr t).drive.mode = .capstan ∧ (s.tr t).reck.mode = .capstan ∧ (s.tr t).reck.moving = true ∧ (s.tr t).eraseDue = false ∧ (s.tr t).budgetDue = false ∧ capstanStopPoint (s.tr t).drive (s.tr t).reck = .none ∧ (s.tr t).drive.holdOver ≠ some 0 ∧ (s.tr t).reck.supplyWindow.full = false ∧ (s.tr t).reck.takeupWindow.full = false ∧ tachCounts (s.tr t).sense.capstanTach ph = [decide ((s.tr t).drive.dir = .forward)] ∧ (s.tr t).chan.phase = .qualify ∧ (s.tr t).chan.record = some r ∧ r.qualify < 20 ∧ (s.tr t).chan.formation = none ∧ (s.tr t).chan.blankWatch.all (·.2 < 60000) = true :=
  ⟨(base calm (counting ∘ chanR .qualify { recA with qualify := 19 } ∘ noWatch ∘ atSpeed ∘ unused ∘ midTape)) State.reset, .t0, ⟨false, true⟩, { recA with qualify := 19 }, by decide⟩

theorem meets_CapstanCountsMoveThePosition_4a :
    ∃ (s : State) (t : Tr) (ph : Phases) (f : Formation), s.powered = true ∧ s.Settled t ∧ (s.tr t).drive.phase ≠ .stopped ∧ (s.tr t).drive.shuttlePhase = .none ∧ (s.tr t).drive.mode = .capstan ∧ (s.tr t).reck.mode = .capstan ∧ (s.tr t).reck.moving = true ∧ (s.tr t).eraseDue = false ∧ (s.tr t).budgetDue = false ∧ capstanStopPoint (s.tr t).drive (s.tr t).reck = .none ∧ (s.tr t).drive.holdOver ≠ some 0 ∧ (s.tr t).reck.supplyWindow.full = false ∧ (s.tr t).reck.takeupWindow.full = false ∧ (s.tr t).drive.dir = .forward ∧ tachCounts (s.tr t).sense.capstanTach ph = [true] ∧ (s.tr t).chan.record = none ∧ (s.tr t).chan.phase = .hunt ∧ (s.tr t).chan.blankWatch.all (·.2 < 60000) = true ∧ (s.tr t).chan.formation = some f ∧ (s.tr t).chan.handOver = .off ∧ ((f.phase = .preamble ∧ f.ambleSteps < 39) ∨
      (f.phase = .data ∧ f.fill = false ∧ 6 ≤ (s.tr t).xfer.fifo.length ∧ f.written + 6 < f.declared)) :=
  ⟨(base calm (counting ∘ formT .forming { formA with phase := .preamble, ambleSteps := 38 } ∘ atSpeed ∘ unused ∘ midTape)) State.reset, .t0, ⟨false, true⟩, { formA with phase := .preamble, ambleSteps := 38 }, by decide⟩

theorem meets_CapstanCountsMoveThePosition_4b :
    ∃ (s : State) (t : Tr) (ph : Phases) (f : Formation), s.powered = true ∧ s.Settled t ∧ (s.tr t).drive.phase ≠ .stopped ∧ (s.tr t).drive.shuttlePhase = .none ∧ (s.tr t).drive.mode = .capstan ∧ (s.tr t).reck.mode = .capstan ∧ (s.tr t).reck.moving = true ∧ (s.tr t).eraseDue = false ∧ (s.tr t).budgetDue = false ∧ capstanStopPoint (s.tr t).drive (s.tr t).reck = .none ∧ (s.tr t).drive.holdOver ≠ some 0 ∧ (s.tr t).reck.supplyWindow.full = false ∧ (s.tr t).reck.takeupWindow.full = false ∧ (s.tr t).drive.dir = .forward ∧ tachCounts (s.tr t).sense.capstanTach ph = [true] ∧ (s.tr t).chan.record = none ∧ (s.tr t).chan.phase = .hunt ∧ (s.tr t).chan.blankWatch.all (·.2 < 60000) = true ∧ (s.tr t).chan.formation = some f ∧ (s.tr t).chan.handOver = .off ∧ ((f.phase = .preamble ∧ f.ambleSteps < 39) ∨
      (f.phase = .data ∧ f.fill = false ∧ 6 ≤ (s.tr t).xfer.fifo.length ∧ f.written + 6 < f.declared)) :=
  ⟨(base calm (counting ∘ fifoOf [] [1, 2, 3, 4, 5, 6] ∘ formT .forming { formA with phase := .data, written := 73 } ∘ atSpeed ∘ unused ∘ midTape)) State.reset, .t0, ⟨false, true⟩, { formA with phase := .data, written := 73 }, by decide⟩

theorem meets_ReelCountsTurnThePhase_1 :
    ∃ (s : State) (t : Tr), s.powered = true ∧ (s.tr t).Unused ∧ (s.tr t).Standing ∧ (s.tr t).reck.mode = .capstan ∧ (s.tr t).reck.moving = false ∧ (s.tr t).reck.supplyWindow.full = false ∧ (s.tr t).reck.takeupWindow.full = false :=
  ⟨(base calm (ready ∘ unused ∘ midTape)) State.reset, .t0, by decide⟩

theorem meets_ReelCountsTurnThePhase_2a :
    ∃ (s : State) (t : Tr) (side : Side) (ph : Phases) (d : Dir) (p : Bool), s.powered = true ∧ s.Settled t ∧ (s.tr t).drive.phase ≠ .stopped ∧ (s.tr t).drive.shuttlePhase = .none ∧ (s.tr t).drive.mode = .capstan ∧ (s.tr t).reck.mode = .capstan ∧ (s.tr t).reck.moving = true ∧ (s.tr t).eraseDue = false ∧ (s.tr t).budgetDue = false ∧ capstanStopPoint (s.tr t).drive (s.tr t).reck = .none ∧ (s.tr t).drive.holdOver ≠ some 0 ∧ (s.tr t).reck.supplyWindow.full = false ∧ (s.tr t).reck.takeupWindow.full = false ∧ (s.tr t).chan.record = none ∧ (s.tr t).chan.phase = .hunt ∧ (s.tr t).chan.formation = none ∧ (s.tr t).chan.blankWatch.all (·.2 < 60000) = true ∧ ((s.tr t).reck.window side).dir = some d ∧ -256 < ((s.tr t).reck.window side).reelCounts ∧ tachCounts ((s.tr t).sense.tach (reelTach side)) ph = [p] :=
  ⟨(base calm (counting ∘ atSpeed ∘ unused ∘ midTape)) State.reset, .t0, .takeup, ⟨false, true⟩, .forward, true, by decide⟩

theorem meets_ReelCountsTurnThePhase_2b :
    ∃ (s : State) (t : Tr) (side : Side) (ph : Phases) (d : Dir) (p : Bool), s.powered = true ∧ s.Settled t ∧ (s.tr t).drive.phase ≠ .stopped ∧ (s.tr t).drive.shuttlePhase = .none ∧ (s.tr t).drive.mode = .capstan ∧ (s.tr t).reck.mode = .capstan ∧ (s.tr t).reck.moving = true ∧ (s.tr t).eraseDue = false ∧ (s.tr t).budgetDue = false ∧ capstanStopPoint (s.tr t).drive (s.tr t).reck = .none ∧ (s.tr t).drive.holdOver ≠ some 0 ∧ (s.tr t).reck.supplyWindow.full = false ∧ (s.tr t).reck.takeupWindow.full = false ∧ (s.tr t).chan.record = none ∧ (s.tr t).chan.phase = .hunt ∧ (s.tr t).chan.formation = none ∧ (s.tr t).chan.blankWatch.all (·.2 < 60000) = true ∧ ((s.tr t).reck.window side).dir = some d ∧ -256 < ((s.tr t).reck.window side).reelCounts ∧ tachCounts ((s.tr t).sense.tach (reelTach side)) ph = [p] :=
  ⟨(base calm (counting ∘ atSpeed ∘ unused ∘ midTape)) State.reset, .t0, .supply, ⟨true, false⟩, .forward, false, by decide⟩

theorem meets_ReelCountsTurnThePhase_3 :
    ∃ (s : State) (t : Tr) (side : Side) (ph : Phases) (p : Bool), s.powered = true ∧ (s.tr t).drive.mode = .shuttle ∧ (s.tr t).drive.shuttlePhase ≠ .none ∧ (s.tr t).drive.phase = .stopped ∧ (s.tr t).reck.mode = .shuttle ∧ shuttleBrakePointOf (s.tr t).drive (s.tr t).reck = .none ∧ (s.tr t).eraseDue = false ∧ (s.tr t).budgetDue = false ∧ (s.tr t).reck.supplyWindow.full = false ∧ (s.tr t).reck.takeupWindow.full = false ∧ (s.tr t).chan.record = none ∧ (s.tr t).chan.phase = .hunt ∧ (s.tr t).chan.formation = none ∧ (s.tr t).chan.blankWatch.all (·.2 < 60000) = true ∧ side = .takeup ∧ tachCounts (s.tr t).sense.takeupTach ph = [p] ∧ positionMin ≤ ((s.tr t).reck.position * 4096 + (s.tr t).reck.fraction + signValue p * (s.tr t).reck.takeupPitch) / 4096 ∧ ((s.tr t).reck.position * 4096 + (s.tr t).reck.fraction + signValue p * (s.tr t).reck.takeupPitch) / 4096 ≤ positionMax ∧ phaseWraps (s.tr t).sense.takeupPhase p = false :=
  ⟨(base calm (shuttling 7 ∘ shuttleT .run ∘ unused ∘ midTape)) State.reset, .t0, .takeup, ⟨true, false⟩, false, by decide⟩

theorem meets_ReelCountsTurnThePhase_4 :
    ∃ (s : State) (t : Tr) (side : Side) (ph : Phases) (p : Bool), s.powered = true ∧ (s.tr t).drive.mode = .shuttle ∧ (s.tr t).drive.shuttlePhase ≠ .none ∧ (s.tr t).drive.phase = .stopped ∧ (s.tr t).reck.mode = .shuttle ∧ shuttleBrakePointOf (s.tr t).drive (s.tr t).reck = .none ∧ (s.tr t).eraseDue = false ∧ (s.tr t).budgetDue = false ∧ (s.tr t).reck.supplyWindow.full = false ∧ (s.tr t).reck.takeupWindow.full = false ∧ (s.tr t).chan.record = none ∧ (s.tr t).chan.phase = .hunt ∧ (s.tr t).chan.formation = none ∧ (s.tr t).chan.blankWatch.all (·.2 < 60000) = true ∧ side = .takeup ∧ tachCounts (s.tr t).sense.takeupTach ph = [p] ∧ positionMin ≤ ((s.tr t).reck.position * 4096 + (s.tr t).reck.fraction + signValue p * (s.tr t).reck.takeupPitch) / 4096 ∧ ((s.tr t).reck.position * 4096 + (s.tr t).reck.fraction + signValue p * (s.tr t).reck.takeupPitch) / 4096 ≤ positionMax ∧ phaseWraps (s.tr t).sense.takeupPhase p = true ∧ (s.tr t).reck.anchor ≠ .lost ∧ (s.tr t).reck.bound.getD 0 + ceilDiv (s.tr t).reck.takeupPitch 16384 ≤ 20000 :=
  ⟨(base calm (shuttling 0 ∘ shuttleT .run ∘ unused ∘ midTape)) State.reset, .t0, .takeup, ⟨true, false⟩, false, by decide⟩

theorem meets_ReelCountsTurnThePhase_5a :
    ∃ (s : State) (t : Tr) (side : Side) (ph : Phases) (p : Bool), s.powered = true ∧ (s.tr t).drive.mode = .shuttle ∧ (s.tr t).drive.shuttlePhase ≠ .none ∧ (s.tr t).drive.phase = .stopped ∧ (s.tr t).reck.mode = .shuttle ∧ shuttleBrakePointOf (s.tr t).drive (s.tr t).reck = .none ∧ (s.tr t).eraseDue = false ∧ (s.tr t).budgetDue = false ∧ (s.tr t).reck.supplyWindow.full = false ∧ (s.tr t).reck.takeupWindow.full = false ∧ (s.tr t).chan.record = none ∧ (s.tr t).chan.phase = .hunt ∧ (s.tr t).chan.formation = none ∧ (s.tr t).chan.blankWatch.all (·.2 < 60000) = true ∧ side = .supply ∧ tachCounts (s.tr t).sense.supplyTach ph = [p] :=
  ⟨(base calm (shuttling 255 ∘ shuttleT .run ∘ unused ∘ midTape)) State.reset, .t0, .supply, ⟨false, true⟩, true, by decide⟩

theorem meets_ReelCountsTurnThePhase_5b :
    ∃ (s : State) (t : Tr) (side : Side) (ph : Phases) (p : Bool), s.powered = true ∧ (s.tr t).drive.mode = .shuttle ∧ (s.tr t).drive.shuttlePhase ≠ .none ∧ (s.tr t).drive.phase = .stopped ∧ (s.tr t).reck.mode = .shuttle ∧ shuttleBrakePointOf (s.tr t).drive (s.tr t).reck = .none ∧ (s.tr t).eraseDue = false ∧ (s.tr t).budgetDue = false ∧ (s.tr t).reck.supplyWindow.full = false ∧ (s.tr t).reck.takeupWindow.full = false ∧ (s.tr t).chan.record = none ∧ (s.tr t).chan.phase = .hunt ∧ (s.tr t).chan.formation = none ∧ (s.tr t).chan.blankWatch.all (·.2 < 60000) = true ∧ side = .supply ∧ tachCounts (s.tr t).sense.supplyTach ph = [p] :=
  ⟨(base calm (shuttling 7 ∘ shuttleT .run ∘ unused ∘ midTape)) State.reset, .t0, .supply, ⟨false, true⟩, true, by decide⟩

theorem meets_PitchMeasured_measured :
    ∃ (s : State) (t : Tr) (reel : Side), s.powered = true ∧ s.Settled t ∧ 256 ≤ ((s.tr t).reck.window reel).reelCounts ∧ 0 ≤ ((s.tr t).reck.window reel).capstanSteps ∧ ((s.tr t).reck.window reel).capstanSteps ≤ 20000 :=
  ⟨(base calm (ready ∘ window 4000)) State.reset, .t0, .supply, by decide⟩

theorem meets_PitchMeasured_slip :
    ∃ (s : State) (t : Tr) (reel : Side), s.powered = true ∧ s.Settled t ∧ 256 ≤ ((s.tr t).reck.window reel).reelCounts ∧ 0 ≤ ((s.tr t).reck.window reel).capstanSteps ∧ ((s.tr t).reck.window reel).capstanSteps ≤ 20000 :=
  ⟨(base calm (ready ∘ window 3999)) State.reset, .t0, .supply, by decide⟩

theorem meets_ZoneAccepted_accepted :
    ∃ (s : State) (t : Tr) (side : Side) (p : Pattern) (z : Zone) (n : Nat), s.powered = true ∧ (s.tr t).Unloaded ∧ ((s.tr t).sense.column side).valid = true ∧ patternZone p = some z ∧ z ≠ ((s.tr t).sense.column side).zone ∧ p ≠ ((s.tr t).sense.column side).sampled ∧ 1 ≤ n ∧ (s.tr t).sense.pathGood = pathGoodOf (s.tr t).sense :=
  ⟨(base calm unloadedT) State.reset, .t0, .supply, 3, .z2, 4, by decide⟩

theorem meets_ZoneAccepted_short :
    ∃ (s : State) (t : Tr) (side : Side) (p : Pattern) (z : Zone) (n : Nat), s.powered = true ∧ (s.tr t).Unloaded ∧ ((s.tr t).sense.column side).valid = true ∧ patternZone p = some z ∧ z ≠ ((s.tr t).sense.column side).zone ∧ p ≠ ((s.tr t).sense.column side).sampled ∧ 1 ≤ n ∧ (s.tr t).sense.pathGood = pathGoodOf (s.tr t).sense :=
  ⟨(base calm unloadedT) State.reset, .t0, .supply, 3, .z2, 3, by decide⟩

theorem meets_ColumnSensorFaultAndRestored_fault :
    ∃ (s : State) (t : Tr) (side : Side) (p : Pattern) (n : Nat), s.powered = true ∧ (s.tr t).Unloaded ∧ 1 ≤ n ∧ (s.tr t).sense.pathGood = pathGoodOf (s.tr t).sense ∧ ((s.tr t).sense.column side).valid = true ∧ patternZone p = none ∧ 200 ≤ ((s.tr t).sense.column side).faultCount + n :=
  ⟨(base calm unloadedT) State.reset, .t0, .supply, 2, 200, by decide⟩

theorem meets_ColumnSensorFaultAndRestored_restored :
    ∃ (s : State) (t : Tr) (side : Side) (p : Pattern) (n : Nat) (z : Zone), s.powered = true ∧ (s.tr t).Unloaded ∧ 1 ≤ n ∧ (s.tr t).sense.pathGood = pathGoodOf (s.tr t).sense ∧ ((s.tr t).sense.column side).valid = false ∧ patternZone p = some z ∧ p ≠ ((s.tr t).sense.column side).sampled ∧ 4 ≤ n :=
  ⟨(base calm (brokenColumn ∘ unloadedT)) State.reset, .t0, .supply, 3, 4, .z2, by decide⟩

theorem meets_VacuumLevelAccepted_accepted :
    ∃ (s : State) (t : Tr) (side : Side) (v : Bool) (n : Nat), s.powered = true ∧ (s.tr t).Unloaded ∧ 1 ≤ n ∧ v ≠ ((s.tr t).sense.vacuumLevel side).level ∧ (s.tr t).sense.pathGood = pathGoodOf (s.tr t).sense :=
  ⟨(base calm unloadedT) State.reset, .t0, .supply, true, 10, by decide⟩

theorem meets_VacuumLevelAccepted_short :
    ∃ (s : State) (t : Tr) (side : Side) (v : Bool) (n : Nat), s.powered = true ∧ (s.tr t).Unloaded ∧ 1 ≤ n ∧ v ≠ ((s.tr t).sense.vacuumLevel side).level ∧ (s.tr t).sense.pathGood = pathGoodOf (s.tr t).sense :=
  ⟨(base calm unloadedT) State.reset, .t0, .supply, true, 9, by decide⟩

theorem meets_TapePresentAndRingAccepted_tape :
    ∃ (s : State) (t : Tr) (v : Bool) (n : Nat), s.powered = true ∧ 1 ≤ n ∧ (s.tr t).Unloaded ∧ v ≠ (s.tr t).sense.tapePresent.level ∧ 10 ≤ (s.tr t).sense.tapePresent.count + n :=
  ⟨(base calm unloadedT) State.reset, .t0, true, 10, by decide⟩

theorem meets_TapePresentAndRingAccepted_ring :
    ∃ (s : State) (t : Tr) (v : Bool) (n : Nat), s.powered = true ∧ 1 ≤ n ∧ s.Settled t ∧ v ≠ (s.tr t).sense.writeRing.level ∧ 20 ≤ (s.tr t).sense.writeRing.count + n :=
  ⟨(base calm ready) State.reset, .t0, true, 20, by decide⟩

theorem meets_BotReanchors_1a :
    ∃ (s : State) (t : Tr) (n : Nat) (v : Bool), s.powered = true ∧ 1 ≤ n ∧ (s.tr t).Unused ∧ (s.tr t).ReadyStanding ∧ (s.tr t).reck.mode = .capstan ∧ (s.tr t).sense.capstanTach.lastPositive = v ∧ (s.tr t).sense.bot.level = !v ∧ 8 ≤ (s.tr t).sense.bot.count + n :=
  ⟨base calm (ready ∘ unused ∘ botClear) State.reset, .t0, 8, true, by decide⟩

theorem meets_BotReanchors_1b :
    ∃ (s : State) (t : Tr) (n : Nat) (v : Bool), s.powered = true ∧ 1 ≤ n ∧ (s.tr t).Unused ∧ (s.tr t).ReadyStanding ∧ (s.tr t).reck.mode = .capstan ∧ (s.tr t).sense.capstanTach.lastPositive = v ∧ (s.tr t).sense.bot.level = !v ∧ 8 ≤ (s.tr t).sense.bot.count + n :=
  ⟨base calm (ready ∘ unused ∘ midTape ∘ botLagging) State.reset, .t0, 6, true, by decide⟩

theorem meets_BotReanchors_1c :
    ∃ (s : State) (t : Tr) (n : Nat) (v : Bool), s.powered = true ∧ 1 ≤ n ∧ (s.tr t).Unused ∧ (s.tr t).ReadyStanding ∧ (s.tr t).reck.mode = .capstan ∧ (s.tr t).sense.capstanTach.lastPositive = v ∧ (s.tr t).sense.bot.level = !v ∧ 8 ≤ (s.tr t).sense.bot.count + n :=
  ⟨base calm (ready ∘ unused ∘ midTape ∘ botHeld) State.reset, .t0, 8, false, by decide⟩

theorem meets_BotReanchors_2a :
    ∃ (s : State) (t : Tr) (n : Nat) (v : Bool), s.powered = true ∧ 1 ≤ n ∧ (s.tr t).xfer.order = .none ∧ ((s.tr t).loc = Locate.idle ∨ (s.tr t).loc.phase = .shuttle ∨
      ((s.tr t).loc.phase = .rewinding ∧ (s.tr t).loc.leg = .shuttle)) ∧ (s.tr t).ctl.state = .inMotion ∧ (s.tr t).drive.engaged = false ∧ ((s.tr t).drive.shuttlePhase = .accel ∨ (s.tr t).drive.shuttlePhase = .run) ∧ (s.tr t).reck.mode = .shuttle ∧ (s.tr t).sense.takeupTach.lastPositive = v ∧ (s.tr t).sense.bot.level = !v ∧ 8 ≤ (s.tr t).sense.bot.count + n :=
  ⟨base calm (botLagging ∘ shuttleT .run ∘ running ∘ ready ∘ unused ∘ offCapstan true) State.reset, .t0, 6, true, by decide⟩

theorem meets_BotReanchors_2b :
    ∃ (s : State) (t : Tr) (n : Nat) (v : Bool), s.powered = true ∧ 1 ≤ n ∧ (s.tr t).xfer.order = .none ∧ ((s.tr t).loc = Locate.idle ∨ (s.tr t).loc.phase = .shuttle ∨
      ((s.tr t).loc.phase = .rewinding ∧ (s.tr t).loc.leg = .shuttle)) ∧ (s.tr t).ctl.state = .inMotion ∧ (s.tr t).drive.engaged = false ∧ ((s.tr t).drive.shuttlePhase = .accel ∨ (s.tr t).drive.shuttlePhase = .run) ∧ (s.tr t).reck.mode = .shuttle ∧ (s.tr t).sense.takeupTach.lastPositive = v ∧ (s.tr t).sense.bot.level = !v ∧ 8 ≤ (s.tr t).sense.bot.count + n :=
  ⟨base calm (botHeld ∘ legT .rewind .rewinding .shuttle ∘ shuttleT .accel ∘ running ∘ ready ∘ unused ∘ offCapstan false) State.reset, .t0, 8, false, by decide⟩

theorem meets_BotReanchors_2c :
    ∃ (s : State) (t : Tr) (n : Nat) (v : Bool), s.powered = true ∧ 1 ≤ n ∧ (s.tr t).xfer.order = .none ∧ ((s.tr t).loc = Locate.idle ∨ (s.tr t).loc.phase = .shuttle ∨
      ((s.tr t).loc.phase = .rewinding ∧ (s.tr t).loc.leg = .shuttle)) ∧ (s.tr t).ctl.state = .inMotion ∧ (s.tr t).drive.engaged = false ∧ ((s.tr t).drive.shuttlePhase = .accel ∨ (s.tr t).drive.shuttlePhase = .run) ∧ (s.tr t).reck.mode = .shuttle ∧ (s.tr t).sense.takeupTach.lastPositive = v ∧ (s.tr t).sense.bot.level = !v ∧ 8 ≤ (s.tr t).sense.bot.count + n :=
  ⟨base calm (botHeld ∘ legT .locateMark .shuttle .none ∘ shuttleT .run ∘ running ∘ ready ∘ unused ∘ offCapstan false) State.reset, .t0, 8, false, by decide⟩

theorem meets_BotReanchors_3 :
    ∃ (s : State) (t : Tr) (n : Nat), s.powered = true ∧ 1 ≤ n ∧ (s.tr t).Unused ∧ (s.tr t).ReadyStanding ∧ (s.tr t).reck.mode = .capstan ∧ (s.tr t).reck.fraction < 4096 ∧ (s.tr t).sense.capstanTach.lastPositive = true ∧ (s.tr t).sense.eot.level = false ∧ 8 ≤ (s.tr t).sense.eot.count + n :=
  ⟨base calm (ready ∘ unused ∘ eotClear ∘ botClear) State.reset, .t0, 8, by decide⟩

theorem meets_OnlineSwitch_off :
    ∃ (s : State) (t : Tr) (on : Bool) (n : Nat), s.powered = true ∧ s.Settled t ∧ (s.tr t).ctl.state = .ready ∧ on ≠ (s.tr t).sense.online.level ∧ 1 ≤ n ∧ 20 ≤ (s.tr t).sense.online.count + n :=
  ⟨(base calm (ready ∘ sw true)) State.reset, .t0, false, 20, by decide⟩

theorem meets_OnlineSwitch_pending :
    ∃ (s : State) (t : Tr) (on : Bool) (n : Nat), s.powered = true ∧ s.Settled t ∧ (s.tr t).ctl.state = .ready ∧ on ≠ (s.tr t).sense.online.level ∧ 1 ≤ n ∧ 20 ≤ (s.tr t).sense.online.count + n :=
  ⟨(base calm (ready ∘ sw true ∘ flying)) State.reset, .t0, false, 20, by decide⟩

theorem meets_OnlineSwitch_on :
    ∃ (s : State) (t : Tr) (on : Bool) (n : Nat), s.powered = true ∧ s.Settled t ∧ (s.tr t).ctl.state = .ready ∧ on ≠ (s.tr t).sense.online.level ∧ 1 ≤ n ∧ 20 ≤ (s.tr t).sense.online.count + n :=
  ⟨(base calm (ready ∘ sw false)) State.reset, .t0, true, 20, by decide⟩

theorem meets_PanelButtons_1 :
    ∃ (s : State) (t : Tr) (n : Nat), s.powered = true ∧ 1 ≤ n ∧ (s.tr t).Unloaded ∧ (s.tr t).ctl.online = false ∧ (s.tr t).sense.tapePresent.level = true ∧ (s.tr t).sense.bothVacuum = false ∧ (s.tr t).sense.loadButton.level = false ∧ 20 ≤ (s.tr t).sense.loadButton.count + n :=
  ⟨base calm (unloadedT ∘ taped ∘ sw false) State.reset, .t0, 20, by decide⟩

theorem meets_PanelButtons_2 :
    ∃ (s : State) (t : Tr) (n : Nat), s.powered = true ∧ 1 ≤ n ∧ (s.tr t).Gripless ∧ (s.tr t).ctl.state = .faulted ∧ (s.tr t).ctl.online = false ∧ (s.tr t).reck.anchor = .lost ∧ (s.tr t).sense.unloadButton.level = false ∧ 20 ≤ (s.tr t).sense.unloadButton.count + n :=
  ⟨base calm (faultedT ∘ unloadedT ∘ sw false) State.reset, .t0, 20, by decide⟩

theorem meets_PanelButtons_3 :
    ∃ (s : State) (t : Tr) (n : Nat) (b : Button), s.powered = true ∧ 1 ≤ n ∧ s.Settled t ∧ ((s.tr t).sense.button b).level = true ∧ 20 ≤ ((s.tr t).sense.button b).count + n :=
  ⟨base calm (ready ∘ sw true) State.reset, .t0, 20, .load, by decide⟩

theorem meets_PanelButtons_4 :
    ∃ (s : State) (t : Tr) (n : Nat), s.powered = true ∧ 1 ≤ n ∧ s.Settled t ∧ (s.tr t).ctl.online = true ∧ (s.tr t).sense.loadButton.level = false ∧ 20 ≤ (s.tr t).sense.loadButton.count + n :=
  ⟨base calm (buttonsUp ∘ ready) State.reset, .t0, 20, by decide⟩

theorem meets_PanelButtons_5 :
    ∃ (s : State) (t : Tr) (n : Nat), s.powered = true ∧ 1 ≤ n ∧ s.Settled t ∧ (s.tr t).ctl.online = true ∧ (s.tr t).sense.unloadButton.level = false ∧ 20 ≤ (s.tr t).sense.unloadButton.count + n :=
  ⟨base calm (buttonsUp ∘ ready) State.reset, .t0, 20, by decide⟩

theorem meets_PanelButtons_6 :
    ∃ (s : State) (t : Tr) (n : Nat), s.powered = true ∧ 1 ≤ n ∧ (s.tr t).ReadyStanding ∧ (s.tr t).Unused ∧ (s.tr t).ctl.online = false ∧ (s.tr t).port.pointer ≠ .inFlight ∧ (s.tr t).port.pointer ≠ .terminating ∧ (s.tr t).reck.atLoadPoint = true ∧ (s.tr t).sense.unloadButton.level = false ∧ 20 ≤ (s.tr t).sense.unloadButton.count + n :=
  ⟨reelOf { ReelRecord.none with state := .active, entries := [entryA] } (base calm (offline ∘ ready ∘ unused ∘ atLoad) State.reset), .t0, 20, by decide⟩

theorem meets_PanelButtons_7a :
    ∃ (s : State) (t : Tr) (n : Nat), s.powered = true ∧ 1 ≤ n ∧ (s.tr t).ReadyStanding ∧ (s.tr t).Unused ∧ (s.tr t).ctl.online = false ∧ (s.tr t).port.pointer ≠ .inFlight ∧ (s.tr t).port.pointer ≠ .terminating ∧ (s.tr t).reck.atLoadPoint = false ∧ ((s.tr t).reck.anchor = .lost ∨
      (0 ≤ (s.tr t).reck.position + (s.tr t).reck.bound.getD 0 ∧ (s.tr t).reck.position ≤ 200000)) ∧ (s.tr t).sense.unloadButton.level = false ∧ 20 ≤ (s.tr t).sense.unloadButton.count + n :=
  ⟨base calm (offline ∘ ready ∘ unused ∘ midTape) State.reset, .t0, 20, by decide⟩

theorem meets_PanelButtons_7b :
    ∃ (s : State) (t : Tr) (n : Nat), s.powered = true ∧ 1 ≤ n ∧ (s.tr t).ReadyStanding ∧ (s.tr t).Unused ∧ (s.tr t).ctl.online = false ∧ (s.tr t).port.pointer ≠ .inFlight ∧ (s.tr t).port.pointer ≠ .terminating ∧ (s.tr t).reck.atLoadPoint = false ∧ ((s.tr t).reck.anchor = .lost ∨
      (0 ≤ (s.tr t).reck.position + (s.tr t).reck.bound.getD 0 ∧ (s.tr t).reck.position ≤ 200000)) ∧ (s.tr t).sense.unloadButton.level = false ∧ 20 ≤ (s.tr t).sense.unloadButton.count + n :=
  ⟨base calm (offline ∘ ready ∘ unused ∘ lostT) State.reset, .t0, 20, by decide⟩

theorem meets_PanelButtons_8 :
    ∃ (s : State) (t : Tr) (n : Nat), s.powered = true ∧ 1 ≤ n ∧ (s.tr t).ReadyStanding ∧ (s.tr t).Unused ∧ (s.tr t).ctl.online = false ∧ (s.tr t).port.pointer ≠ .inFlight ∧ (s.tr t).port.pointer ≠ .terminating ∧ (s.tr t).reck.atLoadPoint = false ∧ (s.tr t).reck.anchor ≠ .lost ∧ (s.tr t).reck.position + (s.tr t).reck.bound.getD 0 < 0 ∧ (s.tr t).sense.unloadButton.level = false ∧ 20 ≤ (s.tr t).sense.unloadButton.count + n :=
  ⟨base calm (offline ∘ ready ∘ unused ∘ beforeBot) State.reset, .t0, 20, by decide⟩

theorem meets_PanelButtons_9 :
    ∃ (s : State) (t : Tr) (n : Nat) (p : Int), s.powered = true ∧ 1 ≤ n ∧ (s.tr t).ReadyStanding ∧ (s.tr t).Unused ∧ (s.tr t).ctl.online = false ∧ (s.tr t).port.pointer ≠ .inFlight ∧ (s.tr t).port.pointer ≠ .terminating ∧ (s.tr t).reck.anchor ≠ .lost ∧ 200000 < (s.tr t).reck.position ∧ p = shuttleBraking (s.tr t).drive.active + 4000 + (s.tr t).reck.bound.getD 0 ∧ p < (s.tr t).reck.position ∧ (s.tr t).sense.unloadButton.level = false ∧ 20 ≤ (s.tr t).sense.unloadButton.count + n :=
  ⟨base calm (offline ∘ stdProfile ∘ ready ∘ unused ∘ farDrift) State.reset, .t0, 20, 44400, by decide⟩

theorem meets_PanelButtons_10 :
    ∃ (s : State) (t : Tr) (n : Nat), s.powered = true ∧ 1 ≤ n ∧ (s.tr t).ctl.state = .faulted ∧ (s.tr t).ctl.stopUnderWay = false ∧ (s.tr t).drive.Calm ∧ (s.tr t).Unused ∧ (s.tr t).ctl.online = false ∧ (s.tr t).sense.unloadButton.level = false ∧ 20 ≤ (s.tr t).sense.unloadButton.count + n :=
  ⟨base calm (offline ∘ faultedT ∘ ready ∘ unused ∘ midTape) State.reset, .t0, 20, by decide⟩

theorem meets_PanelButtons_11 :
    ∃ (s : State) (t : Tr) (n : Nat), s.powered = true ∧ 1 ≤ n ∧ (s.tr t).ctl.state = .threading ∧ (s.tr t).ctl.operation = .panelLoad ∧ (s.tr t).ctl.stopUnderWay = false ∧ (s.tr t).ctl.online = false ∧ (s.tr t).Unused ∧ (s.tr t).drive.Calm ∧ (s.tr t).drive.mode = .thread ∧ (s.tr t).reck.mode = .thread ∧ (s.tr t).port.held = none ∧ (s.tr t).sense.unloadButton.level = false ∧ 20 ≤ (s.tr t).sense.unloadButton.count + n :=
  ⟨base calm (holdNone ∘ offline ∘ threadingT .panelLoad ∘ unused) State.reset, .t0, 20, by decide⟩

theorem meets_PanelButtons_12 :
    ∃ (s : State) (t : Tr) (n : Nat), s.powered = true ∧ 1 ≤ n ∧ (s.tr t).ctl.state = .seekingLoadPoint ∧ (s.tr t).ctl.operation = .panelLoad ∧ (s.tr t).ctl.stopUnderWay = false ∧ (s.tr t).ctl.online = false ∧ (s.tr t).drive.phase = .run ∧ (s.tr t).drive.shuttlePhase = .none ∧ (s.tr t).drive.mode = .capstan ∧ (s.tr t).drive.stopKind = .none ∧ (s.tr t).sense.unloadButton.level = false ∧ 20 ≤ (s.tr t).sense.unloadButton.count + n :=
  ⟨base calm (offline ∘ seekingT ∘ running ∘ ready) State.reset, .t0, 20, by decide⟩

theorem meets_FaultCausesStopTheTape_loop :
    ∃ (s : State) (t : Tr) (side : Side) (p : Pattern) (n : Nat), s.powered = true ∧ (s.tr t).Running ∧ ((s.tr t).sense.column side).valid = true ∧ (patternZone p = some .z0 ∨ patternZone p = some .z4) ∧ patternZone p ≠ some ((s.tr t).sense.column side).zone ∧ p ≠ ((s.tr t).sense.column side).sampled ∧ 4 ≤ n :=
  ⟨(base calm (running ∘ ready ∘ sw true)) State.reset, .t0, .supply, 31, 4, by decide⟩

theorem meets_FaultCausesStopTheTape_sensor :
    ∃ (s : State) (t : Tr) (side : Side) (p : Pattern) (n : Nat), s.powered = true ∧ (s.tr t).Running ∧ ((s.tr t).sense.column side).valid = true ∧ patternZone p = none ∧ 1 ≤ n ∧ 200 ≤ ((s.tr t).sense.column side).faultCount + n :=
  ⟨(base calm (running ∘ ready ∘ sw true)) State.reset, .t0, .supply, 2, 200, by decide⟩

theorem meets_FaultCausesStopTheTape_vacuum :
    ∃ (s : State) (t : Tr) (side : Side) (n : Nat), s.powered = true ∧ (s.tr t).Running ∧ ((s.tr t).sense.vacuumLevel side).level = true ∧ 1 ≤ n ∧ 10 ≤ ((s.tr t).sense.vacuumLevel side).count + n :=
  ⟨(base calm (running ∘ ready ∘ sw true)) State.reset, .t0, .supply, 10, by decide⟩

theorem meets_FaultCausesStopTheTape_tapePath :
    ∃ (s : State) (t : Tr) (n : Nat), s.powered = true ∧ (s.tr t).Running ∧ (s.tr t).sense.tapePresent.level = true ∧ 1 ≤ n ∧ 10 ≤ (s.tr t).sense.tapePresent.count + n :=
  ⟨(base calm (running ∘ ready ∘ sw true)) State.reset, .t0, 10, by decide⟩

theorem meets_FaultCausesStopTheTape_stall :
    ∃ (s : State) (t : Tr), s.powered = true ∧ (s.tr t).Running ∧ (s.tr t).drive.watched.isSome = true ∧ (s.tr t).drive.stallReported = false ∧ (s.tr t).drive.active.stallWindow * cyclesPerMs ≤ (s.tr t).drive.stallTimer :=
  ⟨(base calm (running ∘ ready ∘ sw true)) State.reset, .t0, by decide⟩

theorem meets_PowerLossKeepsTheStore_1 :
    ∃ (s : State), s.powered = true :=
  ⟨calm State.reset, by decide⟩

theorem meets_PowerLossKeepsTheStore_2 :
    ∃ (s : State), s.powered = false :=
  ⟨{ State.reset with powered := false }, by decide⟩

theorem meets_PowerWarning_1 :
    ∃ (s : State) (n : Nat), s.powered = true ∧ 1 ≤ n ∧ 10 ≤ s.power.pwarn.count + n ∧ s.power.pwarn.level = false ∧ (∀ t, (s.tr t).Unused ∧ (s.tr t).hasOrder 2 = false ∧ ((s.tr t).ReadyStanding ∨ (s.tr t).Unloaded)) :=
  ⟨each (ready ∘ unused ∘ noUnload) (unloadedT ∘ unused ∘ noUnload) (calm State.reset), 10, ⟨by decide, by decide, by decide, by decide, by intro t; cases t <;> decide⟩⟩

theorem meets_PowerWarning_2a :
    ∃ (s : State) (n : Nat), s.powered = true ∧ 1 ≤ n ∧ 10 ≤ s.power.pwarn.count + n ∧ s.power.pwarn.level = false ∧ (∀ t, (s.tr t).UnderWay ∨ (s.tr t).hasOrder 2 = false ∧ ((s.tr t).Unused ∧ ((s.tr t).ReadyStanding ∨ (s.tr t).Unloaded))) :=
  ⟨each (noHand ∘ atSpeed) (ready ∘ unused ∘ noUnload) (calm State.reset), 10, ⟨by decide, by decide, by decide, by decide, by intro t; cases t <;> decide⟩⟩

theorem meets_PowerWarning_2b :
    ∃ (s : State) (n : Nat), s.powered = true ∧ 1 ≤ n ∧ 10 ≤ s.power.pwarn.count + n ∧ s.power.pwarn.level = false ∧ (∀ t, (s.tr t).UnderWay ∨ (s.tr t).hasOrder 2 = false ∧ ((s.tr t).Unused ∧ ((s.tr t).ReadyStanding ∨ (s.tr t).Unloaded))) :=
  ⟨each (ready ∘ unused ∘ noUnload) (noHand ∘ shuttleT .accel ∘ atSpeed) (calm State.reset), 10, ⟨by decide, by decide, by decide, by decide, by intro t; cases t <;> decide⟩⟩

theorem meets_PowerWarning_2c :
    ∃ (s : State) (n : Nat), s.powered = true ∧ 1 ≤ n ∧ 10 ≤ s.power.pwarn.count + n ∧ s.power.pwarn.level = false ∧ (∀ t, (s.tr t).UnderWay ∨ (s.tr t).hasOrder 2 = false ∧ ((s.tr t).Unused ∧ ((s.tr t).ReadyStanding ∨ (s.tr t).Unloaded))) :=
  ⟨each (readOn false recD 2 ∘ atSpeed) (unloadedT ∘ unused ∘ noUnload) (calm State.reset), 10, ⟨by decide, by decide, by decide, by decide, by intro t; cases t <;> decide⟩⟩

theorem meets_PowerWarning_3 :
    ∃ (s : State) (n : Nat), s.powered = true ∧ 1 ≤ n ∧ 10 ≤ s.power.pwarn.count + n ∧ s.power.pwarn.level = true ∧ s.power.released = .all false ∧ (∀ t, (s.tr t).drive.Calm ∧ (s.tr t).ctl.stopUnderWay = false ∧
        ((s.tr t).ctl.state = .powerHeld ∧ (s.tr t).sense.pathGood = true ∧ (s.tr t).drive.engaged = true ∨
          (s.tr t).ctl.state = .unloaded)) :=
  ⟨warned (each powerHeldT unloadedT (calm State.reset)), 10, ⟨by decide, by decide, by decide, by decide, by decide, by intro t; cases t <;> decide⟩⟩

theorem meets_ControllerClear_1 :
    ∃ (s : State) (n : Nat), s.powered = true ∧ 1 ≤ n ∧ 10 ≤ s.power.clear.count + n ∧ s.power.clear.level = false ∧ s.power.clearArmed = true ∧ (∀ t, (s.tr t).Unused ∧ ((s.tr t).ReadyStanding ∨ (s.tr t).Unloaded)) :=
  ⟨clearing true (each (ready ∘ unused) (unloadedT ∘ unused) (calm State.reset)), 10, ⟨by decide, by decide, by decide, by decide, by decide, by intro t; cases t <;> decide⟩⟩

theorem meets_ControllerClear_2a :
    ∃ (s : State) (n : Nat), s.powered = true ∧ 1 ≤ n ∧ 10 ≤ s.power.clear.count + n ∧ s.power.clear.level = false ∧ s.power.clearArmed = true ∧ (∀ t, (s.tr t).UnderWay ∨ ((s.tr t).Unused ∧ ((s.tr t).ReadyStanding ∨ (s.tr t).Unloaded))) :=
  ⟨clearing true (each atSpeed (ready ∘ unused) (calm State.reset)), 10, ⟨by decide, by decide, by decide, by decide, by decide, by intro t; cases t <;> decide⟩⟩

theorem meets_ControllerClear_2b :
    ∃ (s : State) (n : Nat), s.powered = true ∧ 1 ≤ n ∧ 10 ≤ s.power.clear.count + n ∧ s.power.clear.level = false ∧ s.power.clearArmed = true ∧ (∀ t, (s.tr t).UnderWay ∨ ((s.tr t).Unused ∧ ((s.tr t).ReadyStanding ∨ (s.tr t).Unloaded))) :=
  ⟨clearing true (each (ready ∘ unused) (shuttleT .accel ∘ atSpeed) (calm State.reset)), 10, ⟨by decide, by decide, by decide, by decide, by decide, by intro t; cases t <;> decide⟩⟩

theorem meets_ControllerClear_2c :
    ∃ (s : State) (n : Nat), s.powered = true ∧ 1 ≤ n ∧ 10 ≤ s.power.clear.count + n ∧ s.power.clear.level = false ∧ s.power.clearArmed = true ∧ (∀ t, (s.tr t).UnderWay ∨ ((s.tr t).Unused ∧ ((s.tr t).ReadyStanding ∨ (s.tr t).Unloaded))) :=
  ⟨clearing true (each (readOn false recD 2 ∘ atSpeed) (unloadedT ∘ unused) (calm State.reset)), 10, ⟨by decide, by decide, by decide, by decide, by decide, by intro t; cases t <;> decide⟩⟩

theorem meets_ControllerClear_3 :
    ∃ (s : State) (n : Nat), s.powered = true ∧ 1 ≤ n ∧ 10 ≤ s.power.clear.count + n ∧ s.power.clear.level = true ∧ s.AllSettled :=
  ⟨clearing false (calm State.reset), 10, by decide⟩

theorem meets_PointerWrites_1 :
    ∃ (s : State) (t : Tr) (v : Word), s.powered = true ∧ s.Settled t ∧ writtenIndex v ≠ 0 ∧ ((s.tr t).port.pointer = .idle ∨ (s.tr t).port.pointer = .completePending) :=
  ⟨base calm (pointer .idle) State.reset, .t0, 0x2005, by decide⟩

theorem meets_PointerWrites_2 :
    ∃ (s : State) (t : Tr) (v : Word), s.powered = true ∧ s.Settled t ∧ writtenIndex v = 0 ∧ (s.tr t).port.pointer = .completePending :=
  ⟨base calm (pointer .completePending) State.reset, .t0, 0x2000, by decide⟩

theorem meets_PointerWrites_3 :
    ∃ (s : State) (t : Tr) (v : Word), s.powered = true ∧ s.Settled t ∧ writtenIndex v = 0 ∧ (s.tr t).port.pointer = .idle :=
  ⟨base calm (pointer .idle) State.reset, .t0, 0, by decide⟩

theorem meets_PointerWrites_4 :
    ∃ (s : State) (t : Tr) (v : Word), s.powered = true ∧ s.Settled t ∧ writtenIndex v ≠ 0 ∧ ((s.tr t).port.pointer = .inFlight ∨ (s.tr t).port.pointer = .terminating) :=
  ⟨base calm (pointer .terminating) State.reset, .t0, 9, by decide⟩

theorem meets_PointerWrites_5a :
    ∃ (s : State) (t : Tr) (v : Word), s.powered = true ∧ s.Settled t ∧ writtenIndex v = 0 ∧ (s.tr t).port.pointer = .terminating :=
  ⟨busy termX (base calm (pointer .terminating) State.reset), .t0, 0, by decide⟩

theorem meets_PointerWrites_5b :
    ∃ (s : State) (t : Tr) (v : Word), s.powered = true ∧ s.Settled t ∧ writtenIndex v = 0 ∧ (s.tr t).port.pointer = .terminating :=
  ⟨base calm (owesFault ∘ pointer .terminating) State.reset, .t0, 0, by decide⟩

theorem meets_BusAccesses :
    ∃ (o : Nat) (v : Word) (w : Word), 5 ≤ o ∧ (∀ i, i < 13 → v.getLsbD i = w.getLsbD i) ∧ v ≠ w :=
  ⟨5, 0x8001, 0x0001, by decide⟩

theorem meets_PointerAbandon_1 :
    ∃ (s : State) (t : Tr) (v : Word), s.powered = true ∧ writtenIndex v = 0 ∧ (s.tr t).port.pointer = .inFlight ∧ (s.tr t).ctl.offlinePending = false ∧ s.Settled t ∧ (s.tr t).port.stage = .fetching ∧ (s.tr t).port.senseTaken = 0 :=
  ⟨base calm (fetching ∘ flying) State.reset, .t0, 0, by decide⟩

theorem meets_PointerAbandon_2a :
    ∃ (s : State) (t : Tr) (v : Word) (c : OrderCopy), s.powered = true ∧ writtenIndex v = 0 ∧ (s.tr t).port.pointer = .inFlight ∧ (s.tr t).ctl.offlinePending = false ∧ (s.tr t).port.stage ≠ .fetching ∧ (s.tr t).port.copy = some c ∧ (c.code = 3 ∨ c.code = 4 ∨ c.code = 5 ∨ c.code = 12 ∨ c.code = 13 ∨ c.code = 14 ∨ c.code = 15 ∨ c.code = 19 ∨ c.code = 20 ∨ c.code = 21 ∨ c.code = 22) ∧ (s.tr t).ReadyStanding ∧ (s.tr t).Unused ∧ s.exchange.holder ≠ some t ∧ s.exchange.waiting.get t = false :=
  ⟨leftArea (orderC (copyC 21) (ready ∘ unused) State.reset), .t0, 0, copyC 21, by decide⟩

theorem meets_PointerAbandon_2b :
    ∃ (s : State) (t : Tr) (v : Word) (c : OrderCopy), s.powered = true ∧ writtenIndex v = 0 ∧ (s.tr t).port.pointer = .inFlight ∧ (s.tr t).ctl.offlinePending = false ∧ (s.tr t).port.stage ≠ .fetching ∧ (s.tr t).port.copy = some c ∧ (c.code = 3 ∨ c.code = 4 ∨ c.code = 5 ∨ c.code = 12 ∨ c.code = 13 ∨ c.code = 14 ∨ c.code = 15 ∨ c.code = 19 ∨ c.code = 20 ∨ c.code = 21 ∨ c.code = 22) ∧ (s.tr t).ReadyStanding ∧ (s.tr t).Unused ∧ s.exchange.holder ≠ some t ∧ s.exchange.waiting.get t = false :=
  ⟨leftArea (orderC (copyC 12) (ready ∘ unused) State.reset), .t0, 0, copyC 12, by decide⟩

theorem meets_PointerAbandon_3 :
    ∃ (s : State) (t : Tr) (v : Word) (c : OrderCopy), s.powered = true ∧ writtenIndex v = 0 ∧ (s.tr t).port.pointer = .inFlight ∧ (s.tr t).ctl.offlinePending = false ∧ (s.tr t).port.stage ≠ .fetching ∧ (s.tr t).port.copy = some c ∧ (c.code = 1) ∧ (s.tr t).ctl.state = .threading ∧ (s.tr t).ctl.stopUnderWay = false ∧ (s.tr t).drive.Calm ∧ (s.tr t).drive.mode = .thread ∧ (s.tr t).reck.mode = .thread ∧ (s.tr t).Unused ∧ s.exchange.holder ≠ some t ∧ s.exchange.waiting.get t = false :=
  ⟨leftArea (order 1 (threadingT .orderLoad ∘ unused) State.reset), .t0, 0, copyC 1, by decide⟩

theorem meets_PointerAbandon_4 :
    ∃ (s : State) (t : Tr) (v : Word) (c : OrderCopy), s.powered = true ∧ writtenIndex v = 0 ∧ (s.tr t).port.pointer = .inFlight ∧ (s.tr t).ctl.offlinePending = false ∧ (s.tr t).port.stage ≠ .fetching ∧ (s.tr t).port.copy = some c ∧ (c.code = 2) ∧ (s.tr t).ctl.state = .unloading ∧ (s.tr t).ctl.stopUnderWay = false ∧ (s.tr t).drive.phase = .run ∧ (s.tr t).drive.mode = .capstan ∧ (s.tr t).Unused ∧ s.exchange.holder ≠ some t ∧ s.exchange.waiting.get t = false :=
  ⟨leftArea (order 2 (unloadingT ∘ running ∘ ready ∘ unused) State.reset), .t0, 0, copyC 2, by decide⟩

theorem meets_PointerAbandon_5 :
    ∃ (s : State) (t : Tr) (v : Word) (c : OrderCopy) (b : Bool), s.powered = true ∧ writtenIndex v = 0 ∧ (s.tr t).port.pointer = .inFlight ∧ (s.tr t).ctl.offlinePending = false ∧ (s.tr t).port.stage ≠ .fetching ∧ (s.tr t).port.copy = some c ∧ (c.code = 6) ∧ (s.tr t).Running ∧ (s.tr t).xfer.order = .read b ∧ (s.tr t).loc.order = .none ∧ (s.tr t).chan.blankWatch.all (·.1 = .transfer) = true ∧ s.exchange.holder ≠ some t ∧ s.exchange.waiting.get t = false :=
  ⟨leftArea (order 6 (atSpeed ∘ noWatch ∘ noLocate ∘ xferT (.read false)) State.reset), .t0, 0, copyC 6, false, by decide⟩

theorem meets_PointerAbandon_6 :
    ∃ (s : State) (t : Tr) (v : Word) (c : OrderCopy) (k : Nat) (f : Formation), s.powered = true ∧ writtenIndex v = 0 ∧ (s.tr t).port.pointer = .inFlight ∧ (s.tr t).ctl.offlinePending = false ∧ (s.tr t).port.stage ≠ .fetching ∧ (s.tr t).port.copy = some c ∧ (c.code = 7) ∧ (s.tr t).Running ∧ (s.tr t).xfer.order = .write k ∧ (s.tr t).loc.order = .none ∧ (s.tr t).chan.blankWatch = none ∧ (s.tr t).chan.formation = some f ∧ f.phase = .waiting ∧ s.exchange.holder ≠ some t ∧ s.exchange.waiting.get t = false :=
  ⟨leftArea (order 7 (atSpeed ∘ noWatch ∘ noLocate ∘ formT .erasing { formA with phase := .waiting } ∘ xferT (.write 80)) State.reset), .t0, 0, copyC 7, 80, { formA with phase := .waiting }, by decide⟩

theorem meets_PointerAbandon_7 :
    ∃ (s : State) (t : Tr) (v : Word) (c : OrderCopy), s.powered = true ∧ writtenIndex v = 0 ∧ (s.tr t).port.pointer = .inFlight ∧ (s.tr t).ctl.offlinePending = false ∧ (s.tr t).port.stage ≠ .fetching ∧ (s.tr t).port.copy = some c ∧ (c.code = 16 ∨ c.code = 17 ∨ c.code = 18) ∧ (s.tr t).Running ∧ (s.tr t).xfer.order = .none ∧ (s.tr t).loc.order ≠ .none ∧ (s.tr t).chan.blankWatch.all (·.1 = .locate) = true ∧ s.exchange.holder ≠ some t ∧ s.exchange.waiting.get t = false :=
  ⟨leftArea (order 16 (atSpeed ∘ noWatch ∘ budgetT ∘ unused) State.reset), .t0, 0, copyC 16, by decide⟩

theorem meets_ArbiterGrants_1 :
    ∃ (s : State) (t : Tr) (x : BusTransfer), s.powered = true ∧ s.AllSettled ∧ s.arb.current = none ∧ s.arb.control.get t = some x ∧ firstAfter (fun u => (s.arb.control.get u).isSome) s.arb.controlLast = some t :=
  ⟨arbC (calm State.reset), .t1, fetchX, by decide⟩

theorem meets_ArbiterGrants_2a :
    ∃ (s : State) (t : Tr) (bs : List Byte), s.powered = true ∧ s.AllSettled ∧ s.arb.current = none ∧ s.arb.control = .all none ∧ firstAfter (fun u => (s.arb.data.get u).isSome) s.arb.dataLast = some t ∧ s.arb.data.get t = some .readBurst ∧ (s.tr t).xfer.ends = [] ∧ bs = (s.tr t).xfer.fifo.take
      (if (s.tr t).chan.handOver = .handing then min 16 ((s.tr t).xfer.fifo.length / 2 * 2) else 16) :=
  ⟨arbD .readBurst (base calm (handOff ∘ fifoOf [] []) State.reset), .t0, [], by decide⟩

theorem meets_ArbiterGrants_2b :
    ∃ (s : State) (t : Tr) (bs : List Byte), s.powered = true ∧ s.AllSettled ∧ s.arb.current = none ∧ s.arb.control = .all none ∧ firstAfter (fun u => (s.arb.data.get u).isSome) s.arb.dataLast = some t ∧ s.arb.data.get t = some .readBurst ∧ (s.tr t).xfer.ends = [] ∧ bs = (s.tr t).xfer.fifo.take
      (if (s.tr t).chan.handOver = .handing then min 16 ((s.tr t).xfer.fifo.length / 2 * 2) else 16) :=
  ⟨arbD .readBurst (base calm (handOff ∘ fifoOf [] (List.replicate 17 1)) State.reset), .t0, List.replicate 16 1, by decide⟩

theorem meets_ArbiterGrants_2c :
    ∃ (s : State) (t : Tr) (bs : List Byte), s.powered = true ∧ s.AllSettled ∧ s.arb.current = none ∧ s.arb.control = .all none ∧ firstAfter (fun u => (s.arb.data.get u).isSome) s.arb.dataLast = some t ∧ s.arb.data.get t = some .readBurst ∧ (s.tr t).xfer.ends = [] ∧ bs = (s.tr t).xfer.fifo.take
      (if (s.tr t).chan.handOver = .handing then min 16 ((s.tr t).xfer.fifo.length / 2 * 2) else 16) :=
  ⟨arbD .readBurst (base calm (handingT ∘ fifoOf [] [1, 2, 3]) State.reset), .t0, [1, 2], by decide⟩

theorem meets_ArbiterGrants_3a :
    ∃ (s : State) (t : Tr) (n : Nat) (rest : List Nat) (ws : List (List Byte)), s.powered = true ∧ s.AllSettled ∧ s.arb.current = none ∧ s.arb.control = .all none ∧ firstAfter (fun u => (s.arb.data.get u).isSome) s.arb.dataLast = some t ∧ s.arb.data.get t = some .readBurst ∧ (s.tr t).xfer.ends = n :: rest ∧ ws = (wordBytes ((s.tr t).xfer.fifo.take n) ++
      fifoWords (s.tr t).handing rest ((s.tr t).xfer.fifo.drop n)).take 8 :=
  ⟨arbD .readBurst (base calm (fifoOf [3] [1, 2, 3, 4, 5, 6] ∘ handingT) State.reset), .t0, 3, [], [[1, 2], [3], [4, 5]], by decide⟩

theorem meets_ArbiterGrants_3b :
    ∃ (s : State) (t : Tr) (n : Nat) (rest : List Nat) (ws : List (List Byte)), s.powered = true ∧ s.AllSettled ∧ s.arb.current = none ∧ s.arb.control = .all none ∧ firstAfter (fun u => (s.arb.data.get u).isSome) s.arb.dataLast = some t ∧ s.arb.data.get t = some .readBurst ∧ (s.tr t).xfer.ends = n :: rest ∧ ws = (wordBytes ((s.tr t).xfer.fifo.take n) ++
      fifoWords (s.tr t).handing rest ((s.tr t).xfer.fifo.drop n)).take 8 :=
  ⟨arbD .readBurst (base calm (fifoOf [9, 1] (List.replicate 20 1) ∘ handOff) State.reset), .t0, 9, [1], [[1, 1], [1, 1], [1, 1], [1, 1], [1], [1], [1, 1], [1, 1]], by decide⟩

theorem meets_ArbiterGrants_4 :
    ∃ (s : State) (t : Tr), s.powered = true ∧ s.AllSettled ∧ s.arb.current = none ∧ s.arb.control = .all none ∧ firstAfter (fun u => (s.arb.data.get u).isSome) s.arb.dataLast = some t ∧ s.arb.data.get t = some .writeBurst :=
  ⟨arbD .writeBurst (base calm (xferT (.write 3)) State.reset), .t0, by decide⟩

theorem meets_ArbiterGrants_5 :
    ∃ (s : State) (t : Tr) (c : OrderCopy), s.powered = true ∧ s.AllSettled ∧ s.arb.current = none ∧ s.arb.control = .all none ∧ firstAfter (fun u => (s.arb.data.get u).isSome) s.arb.dataLast = some t ∧ s.arb.data.get t = some .dumpBurst ∧ (s.tr t).port.copy = some c :=
  ⟨tableS .t0 20 8 (arbD .dumpBurst (order 19 ready State.reset)), .t0, copyC 19, by decide⟩

theorem meets_ArbiterGrants_6 :
    ∃ (s : State) (t : Tr) (c : OrderCopy) (n : Nat) (k : Nat), s.powered = true ∧ s.AllSettled ∧ s.arb.current = none ∧ s.arb.control = .all none ∧ firstAfter (fun u => (s.arb.data.get u).isSome) s.arb.dataLast = some t ∧ s.arb.data.get t = some .loadBurst ∧ (s.tr t).port.copy = some c ∧ importStatus s.exchange.table c.opC = .more n k :=
  ⟨tableS .t0 0 0 (arbD .loadBurst (orderC { copyC 20 with w6 := 8 } ready State.reset)), .t0, { copyC 20 with w6 := 8 }, 8, 0, by decide⟩

theorem meets_ArbiterGrants_7 :
    ∃ (s : State), s.powered = true ∧ s.AllSettled ∧ (s.arb.current.isSome = true ∨ (s.arb.control = .all none ∧ s.arb.data = .all none)) :=
  ⟨arbE (calm State.reset), by decide⟩

theorem meets_OrderFetched_1 :
    ∃ (s : State) (t : Tr) (x : BusTransfer) (ws : List Word), s.Reads t x .fetch ws ∧ ws.length = 12 ∧ (s.tr t).Working ∧ 1 ≤ (copyOfWords ws).code ∧ (copyOfWords ws).code ≤ 22 ∧ ((copyOfWords ws).usesAddress = false ∨ (copyOfWords ws).address % 2 = 0) ∧ s.admission t (copyOfWords ws).code = none :=
  ⟨busy fetchX (base calm (ready ∘ flying) State.reset), .t0, fetchX, blockW 18 0, by decide⟩

theorem meets_OrderFetched_2a :
    ∃ (s : State) (t : Tr) (x : BusTransfer) (ws : List Word), s.Reads t x .fetch ws ∧ ws.length = 12 ∧ (s.tr t).Working ∧ ((copyOfWords ws).usesAddress = false ∨ (copyOfWords ws).address % 2 = 0) ∧ ((copyOfWords ws).code = 4 ∨ (copyOfWords ws).code = 5 ∨ (copyOfWords ws).code = 15 ∨ (copyOfWords ws).code = 19 ∨ (copyOfWords ws).code = 21 ∨ (copyOfWords ws).code = 22) :=
  ⟨busy fetchX (base calm (flying ∘ unloadedT ∘ sw false) State.reset), .t0, fetchX, blockW 21 0, by decide⟩

theorem meets_OrderFetched_2b :
    ∃ (s : State) (t : Tr) (x : BusTransfer) (ws : List Word), s.Reads t x .fetch ws ∧ ws.length = 12 ∧ (s.tr t).Working ∧ ((copyOfWords ws).usesAddress = false ∨ (copyOfWords ws).address % 2 = 0) ∧ ((copyOfWords ws).code = 4 ∨ (copyOfWords ws).code = 5 ∨ (copyOfWords ws).code = 15 ∨ (copyOfWords ws).code = 19 ∨ (copyOfWords ws).code = 21 ∨ (copyOfWords ws).code = 22) :=
  ⟨busy fetchX (base calm (flying ∘ ready) State.reset), .t0, fetchX, blockW 4 2, by decide⟩

theorem meets_OrderFetched_3a :
    ∃ (s : State) (t : Tr) (x : BusTransfer) (ws : List Word), s.Reads t x .fetch ws ∧ ws.length = 12 ∧ (s.tr t).Working ∧ ((copyOfWords ws).usesAddress = false ∨ (copyOfWords ws).address % 2 = 0) ∧ (s.tr t).ctl.online = true ∧ s.power.pwarn.level = false ∧ s.power.released.get t = true ∧ (((copyOfWords ws).code = 1 ∧ ((s.tr t).ctl.state = .ready ∨ ((s.tr t).ctl.state = .unloaded ∧ (s.tr t).sense.tapePresent.level = true))) ∨
        ((copyOfWords ws).code = 3 ∧ (s.tr t).ctl.state ≠ .threading ∧ (s.tr t).ctl.state ≠ .seekingLoadPoint ∧ (s.tr t).ctl.state ≠ .unloading ∧ (s.tr t).ctl.state ≠ .powerHeld) ∨
        (((copyOfWords ws).code = 2 ∨ (copyOfWords ws).code = 6 ∨ (copyOfWords ws).code = 7 ∨ (copyOfWords ws).code = 8 ∨ (copyOfWords ws).code = 9 ∨ (copyOfWords ws).code = 10 ∨ (copyOfWords ws).code = 11 ∨ (copyOfWords ws).code = 16 ∨ (copyOfWords ws).code = 17 ∨ (copyOfWords ws).code = 18) ∧ ((s.tr t).ctl.state = .ready ∨ (s.tr t).ctl.state = .inMotion)) ∨
        (copyOfWords ws).code = 12 ∨ (copyOfWords ws).code = 13 ∨ (copyOfWords ws).code = 14 ∨ (copyOfWords ws).code = 20) :=
  ⟨busy fetchX (base calm (flying ∘ unloadedT ∘ sw true) State.reset), .t0, fetchX, blockW 1 0, by decide⟩

theorem meets_OrderFetched_3b :
    ∃ (s : State) (t : Tr) (x : BusTransfer) (ws : List Word), s.Reads t x .fetch ws ∧ ws.length = 12 ∧ (s.tr t).Working ∧ ((copyOfWords ws).usesAddress = false ∨ (copyOfWords ws).address % 2 = 0) ∧ (s.tr t).ctl.online = true ∧ s.power.pwarn.level = false ∧ s.power.released.get t = true ∧ (((copyOfWords ws).code = 1 ∧ ((s.tr t).ctl.state = .ready ∨ ((s.tr t).ctl.state = .unloaded ∧ (s.tr t).sense.tapePresent.level = true))) ∨
        ((copyOfWords ws).code = 3 ∧ (s.tr t).ctl.state ≠ .threading ∧ (s.tr t).ctl.state ≠ .seekingLoadPoint ∧ (s.tr t).ctl.state ≠ .unloading ∧ (s.tr t).ctl.state ≠ .powerHeld) ∨
        (((copyOfWords ws).code = 2 ∨ (copyOfWords ws).code = 6 ∨ (copyOfWords ws).code = 7 ∨ (copyOfWords ws).code = 8 ∨ (copyOfWords ws).code = 9 ∨ (copyOfWords ws).code = 10 ∨ (copyOfWords ws).code = 11 ∨ (copyOfWords ws).code = 16 ∨ (copyOfWords ws).code = 17 ∨ (copyOfWords ws).code = 18) ∧ ((s.tr t).ctl.state = .ready ∨ (s.tr t).ctl.state = .inMotion)) ∨
        (copyOfWords ws).code = 12 ∨ (copyOfWords ws).code = 13 ∨ (copyOfWords ws).code = 14 ∨ (copyOfWords ws).code = 20) :=
  ⟨busy fetchX (base calm (flying ∘ running ∘ ready) State.reset), .t0, fetchX, blockW 18 0, by decide⟩

theorem meets_OrderFetched_3c :
    ∃ (s : State) (t : Tr) (x : BusTransfer) (ws : List Word), s.Reads t x .fetch ws ∧ ws.length = 12 ∧ (s.tr t).Working ∧ ((copyOfWords ws).usesAddress = false ∨ (copyOfWords ws).address % 2 = 0) ∧ (s.tr t).ctl.online = true ∧ s.power.pwarn.level = false ∧ s.power.released.get t = true ∧ (((copyOfWords ws).code = 1 ∧ ((s.tr t).ctl.state = .ready ∨ ((s.tr t).ctl.state = .unloaded ∧ (s.tr t).sense.tapePresent.level = true))) ∨
        ((copyOfWords ws).code = 3 ∧ (s.tr t).ctl.state ≠ .threading ∧ (s.tr t).ctl.state ≠ .seekingLoadPoint ∧ (s.tr t).ctl.state ≠ .unloading ∧ (s.tr t).ctl.state ≠ .powerHeld) ∨
        (((copyOfWords ws).code = 2 ∨ (copyOfWords ws).code = 6 ∨ (copyOfWords ws).code = 7 ∨ (copyOfWords ws).code = 8 ∨ (copyOfWords ws).code = 9 ∨ (copyOfWords ws).code = 10 ∨ (copyOfWords ws).code = 11 ∨ (copyOfWords ws).code = 16 ∨ (copyOfWords ws).code = 17 ∨ (copyOfWords ws).code = 18) ∧ ((s.tr t).ctl.state = .ready ∨ (s.tr t).ctl.state = .inMotion)) ∨
        (copyOfWords ws).code = 12 ∨ (copyOfWords ws).code = 13 ∨ (copyOfWords ws).code = 14 ∨ (copyOfWords ws).code = 20) :=
  ⟨busy fetchX (base calm (flying ∘ unloadedT ∘ sw true) State.reset), .t0, fetchX, blockW 20 0, by decide⟩

theorem meets_OrderFetched_3d :
    ∃ (s : State) (t : Tr) (x : BusTransfer) (ws : List Word), s.Reads t x .fetch ws ∧ ws.length = 12 ∧ (s.tr t).Working ∧ ((copyOfWords ws).usesAddress = false ∨ (copyOfWords ws).address % 2 = 0) ∧ (s.tr t).ctl.online = true ∧ s.power.pwarn.level = false ∧ s.power.released.get t = true ∧ (((copyOfWords ws).code = 1 ∧ ((s.tr t).ctl.state = .ready ∨ ((s.tr t).ctl.state = .unloaded ∧ (s.tr t).sense.tapePresent.level = true))) ∨
        ((copyOfWords ws).code = 3 ∧ (s.tr t).ctl.state ≠ .threading ∧ (s.tr t).ctl.state ≠ .seekingLoadPoint ∧ (s.tr t).ctl.state ≠ .unloading ∧ (s.tr t).ctl.state ≠ .powerHeld) ∨
        (((copyOfWords ws).code = 2 ∨ (copyOfWords ws).code = 6 ∨ (copyOfWords ws).code = 7 ∨ (copyOfWords ws).code = 8 ∨ (copyOfWords ws).code = 9 ∨ (copyOfWords ws).code = 10 ∨ (copyOfWords ws).code = 11 ∨ (copyOfWords ws).code = 16 ∨ (copyOfWords ws).code = 17 ∨ (copyOfWords ws).code = 18) ∧ ((s.tr t).ctl.state = .ready ∨ (s.tr t).ctl.state = .inMotion)) ∨
        (copyOfWords ws).code = 12 ∨ (copyOfWords ws).code = 13 ∨ (copyOfWords ws).code = 14 ∨ (copyOfWords ws).code = 20) :=
  ⟨busy fetchX (base calm (flying ∘ faultedT ∘ unloadedT ∘ sw true) State.reset), .t0, fetchX, blockW 3 0, by decide⟩

theorem meets_OrderFetched_4a :
    ∃ (s : State) (t : Tr) (x : BusTransfer) (ws : List Word), s.Reads t x .fetch ws ∧ ws.length = 12 ∧ (s.tr t).Working ∧ ((copyOfWords ws).code = 0 ∨ 22 < (copyOfWords ws).code) :=
  ⟨busy fetchX (base calm (flying ∘ ready) State.reset), .t0, fetchX, blockW 23 0, by decide⟩

theorem meets_OrderFetched_4b :
    ∃ (s : State) (t : Tr) (x : BusTransfer) (ws : List Word), s.Reads t x .fetch ws ∧ ws.length = 12 ∧ (s.tr t).Working ∧ ((copyOfWords ws).code = 0 ∨ 22 < (copyOfWords ws).code) :=
  ⟨busy fetchX (base calm (flying ∘ ready) State.reset), .t0, fetchX, blockW 0 0, by decide⟩

theorem meets_OrderFetched_5 :
    ∃ (s : State) (t : Tr) (x : BusTransfer) (ws : List Word), s.Reads t x .fetch ws ∧ ws.length = 12 ∧ (s.tr t).Working ∧ 1 ≤ (copyOfWords ws).code ∧ (copyOfWords ws).code ≤ 22 ∧ (copyOfWords ws).usesAddress = true ∧ (copyOfWords ws).address % 2 = 1 :=
  ⟨busy fetchX (base calm (flying ∘ ready) State.reset), .t0, fetchX, blockW 21 1, by decide⟩

theorem meets_OrderFetched_6a :
    ∃ (s : State) (t : Tr) (x : BusTransfer) (ws : List Word), s.Reads t x .fetch ws ∧ ws.length = 12 ∧ (s.tr t).Working ∧ 1 ≤ (copyOfWords ws).code ∧ (copyOfWords ws).code ≤ 22 ∧ ((copyOfWords ws).usesAddress = false ∨ (copyOfWords ws).address % 2 = 0) ∧ (s.tr t).ctl.online = false ∧ (copyOfWords ws).code ≠ 4 ∧ (copyOfWords ws).code ≠ 5 ∧ (copyOfWords ws).code ≠ 15 ∧ (copyOfWords ws).code ≠ 19 ∧ (copyOfWords ws).code ≠ 21 ∧ (copyOfWords ws).code ≠ 22 :=
  ⟨busy fetchX (base calm (sw false ∘ flying ∘ ready) State.reset), .t0, fetchX, blockW 18 0, by decide⟩

theorem meets_OrderFetched_6b :
    ∃ (s : State) (t : Tr) (x : BusTransfer) (ws : List Word), s.Reads t x .fetch ws ∧ ws.length = 12 ∧ (s.tr t).Working ∧ 1 ≤ (copyOfWords ws).code ∧ (copyOfWords ws).code ≤ 22 ∧ ((copyOfWords ws).usesAddress = false ∨ (copyOfWords ws).address % 2 = 0) ∧ (s.tr t).ctl.online = false ∧ (copyOfWords ws).code ≠ 4 ∧ (copyOfWords ws).code ≠ 5 ∧ (copyOfWords ws).code ≠ 15 ∧ (copyOfWords ws).code ≠ 19 ∧ (copyOfWords ws).code ≠ 21 ∧ (copyOfWords ws).code ≠ 22 :=
  ⟨busy fetchX (base calm (sw false ∘ flying ∘ ready) State.reset), .t0, fetchX, blockW 20 0, by decide⟩

theorem meets_OrderFetched_7a :
    ∃ (s : State) (t : Tr) (x : BusTransfer) (ws : List Word), s.Reads t x .fetch ws ∧ ws.length = 12 ∧ (s.tr t).Working ∧ ((copyOfWords ws).usesAddress = false ∨ (copyOfWords ws).address % 2 = 0) ∧ (s.tr t).ctl.online = true ∧ (s.power.pwarn.level = true ∨ s.power.released.get t = false) ∧ ((copyOfWords ws).code = 1 ∨ (copyOfWords ws).code = 2 ∨ (copyOfWords ws).code = 3 ∨ (copyOfWords ws).code = 6 ∨ (copyOfWords ws).code = 7 ∨ (copyOfWords ws).code = 8 ∨ (copyOfWords ws).code = 9 ∨ (copyOfWords ws).code = 10 ∨ (copyOfWords ws).code = 11 ∨ (copyOfWords ws).code = 16 ∨ (copyOfWords ws).code = 17 ∨ (copyOfWords ws).code = 18) :=
  ⟨warned (busy fetchX (base calm (flying ∘ ready) State.reset)), .t0, fetchX, blockW 1 0, by decide⟩

theorem meets_OrderFetched_7b :
    ∃ (s : State) (t : Tr) (x : BusTransfer) (ws : List Word), s.Reads t x .fetch ws ∧ ws.length = 12 ∧ (s.tr t).Working ∧ ((copyOfWords ws).usesAddress = false ∨ (copyOfWords ws).address % 2 = 0) ∧ (s.tr t).ctl.online = true ∧ (s.power.pwarn.level = true ∨ s.power.released.get t = false) ∧ ((copyOfWords ws).code = 1 ∨ (copyOfWords ws).code = 2 ∨ (copyOfWords ws).code = 3 ∨ (copyOfWords ws).code = 6 ∨ (copyOfWords ws).code = 7 ∨ (copyOfWords ws).code = 8 ∨ (copyOfWords ws).code = 9 ∨ (copyOfWords ws).code = 10 ∨ (copyOfWords ws).code = 11 ∨ (copyOfWords ws).code = 16 ∨ (copyOfWords ws).code = 17 ∨ (copyOfWords ws).code = 18) :=
  ⟨warned (busy fetchX (base calm (flying ∘ powerHeldT) State.reset)), .t0, fetchX, blockW 3 0, by decide⟩

theorem meets_OrderFetched_8a :
    ∃ (s : State) (t : Tr) (x : BusTransfer) (ws : List Word), s.Reads t x .fetch ws ∧ ws.length = 12 ∧ (s.tr t).Working ∧ ((copyOfWords ws).usesAddress = false ∨ (copyOfWords ws).address % 2 = 0) ∧ (s.tr t).ctl.online = true ∧ s.power.pwarn.level = false ∧ s.power.released.get t = true ∧ (((copyOfWords ws).code = 1 ∧ (s.tr t).ctl.state ≠ .ready ∧ (s.tr t).ctl.state ≠ .powerHeld ∧ ((s.tr t).ctl.state = .unloaded → (s.tr t).sense.tapePresent.level = false)) ∨
        ((copyOfWords ws).code = 3 ∧ ((s.tr t).ctl.state = .threading ∨ (s.tr t).ctl.state = .seekingLoadPoint ∨ (s.tr t).ctl.state = .unloading)) ∨
        (((copyOfWords ws).code = 2 ∨ (copyOfWords ws).code = 6 ∨ (copyOfWords ws).code = 7 ∨ (copyOfWords ws).code = 8 ∨ (copyOfWords ws).code = 9 ∨ (copyOfWords ws).code = 10 ∨ (copyOfWords ws).code = 11 ∨ (copyOfWords ws).code = 16 ∨ (copyOfWords ws).code = 17 ∨ (copyOfWords ws).code = 18) ∧ (s.tr t).ctl.state ≠ .ready ∧ (s.tr t).ctl.state ≠ .inMotion ∧ (s.tr t).ctl.state ≠ .powerHeld)) :=
  ⟨busy fetchX (base calm (flying ∘ sw true ∘ running ∘ ready) State.reset), .t0, fetchX, blockW 1 0, by decide⟩

theorem meets_OrderFetched_8b :
    ∃ (s : State) (t : Tr) (x : BusTransfer) (ws : List Word), s.Reads t x .fetch ws ∧ ws.length = 12 ∧ (s.tr t).Working ∧ ((copyOfWords ws).usesAddress = false ∨ (copyOfWords ws).address % 2 = 0) ∧ (s.tr t).ctl.online = true ∧ s.power.pwarn.level = false ∧ s.power.released.get t = true ∧ (((copyOfWords ws).code = 1 ∧ (s.tr t).ctl.state ≠ .ready ∧ (s.tr t).ctl.state ≠ .powerHeld ∧ ((s.tr t).ctl.state = .unloaded → (s.tr t).sense.tapePresent.level = false)) ∨
        ((copyOfWords ws).code = 3 ∧ ((s.tr t).ctl.state = .threading ∨ (s.tr t).ctl.state = .seekingLoadPoint ∨ (s.tr t).ctl.state = .unloading)) ∨
        (((copyOfWords ws).code = 2 ∨ (copyOfWords ws).code = 6 ∨ (copyOfWords ws).code = 7 ∨ (copyOfWords ws).code = 8 ∨ (copyOfWords ws).code = 9 ∨ (copyOfWords ws).code = 10 ∨ (copyOfWords ws).code = 11 ∨ (copyOfWords ws).code = 16 ∨ (copyOfWords ws).code = 17 ∨ (copyOfWords ws).code = 18) ∧ (s.tr t).ctl.state ≠ .ready ∧ (s.tr t).ctl.state ≠ .inMotion ∧ (s.tr t).ctl.state ≠ .powerHeld)) :=
  ⟨busy fetchX (base calm (noTape ∘ flying ∘ unloadedT ∘ sw true) State.reset), .t0, fetchX, blockW 1 0, by decide⟩

theorem meets_OrderFetched_8c :
    ∃ (s : State) (t : Tr) (x : BusTransfer) (ws : List Word), s.Reads t x .fetch ws ∧ ws.length = 12 ∧ (s.tr t).Working ∧ ((copyOfWords ws).usesAddress = false ∨ (copyOfWords ws).address % 2 = 0) ∧ (s.tr t).ctl.online = true ∧ s.power.pwarn.level = false ∧ s.power.released.get t = true ∧ (((copyOfWords ws).code = 1 ∧ (s.tr t).ctl.state ≠ .ready ∧ (s.tr t).ctl.state ≠ .powerHeld ∧ ((s.tr t).ctl.state = .unloaded → (s.tr t).sense.tapePresent.level = false)) ∨
        ((copyOfWords ws).code = 3 ∧ ((s.tr t).ctl.state = .threading ∨ (s.tr t).ctl.state = .seekingLoadPoint ∨ (s.tr t).ctl.state = .unloading)) ∨
        (((copyOfWords ws).code = 2 ∨ (copyOfWords ws).code = 6 ∨ (copyOfWords ws).code = 7 ∨ (copyOfWords ws).code = 8 ∨ (copyOfWords ws).code = 9 ∨ (copyOfWords ws).code = 10 ∨ (copyOfWords ws).code = 11 ∨ (copyOfWords ws).code = 16 ∨ (copyOfWords ws).code = 17 ∨ (copyOfWords ws).code = 18) ∧ (s.tr t).ctl.state ≠ .ready ∧ (s.tr t).ctl.state ≠ .inMotion ∧ (s.tr t).ctl.state ≠ .powerHeld)) :=
  ⟨busy fetchX (base calm (flying ∘ unloadedT ∘ sw true) State.reset), .t0, fetchX, blockW 6 0, by decide⟩

theorem meets_OrderFetched_8d :
    ∃ (s : State) (t : Tr) (x : BusTransfer) (ws : List Word), s.Reads t x .fetch ws ∧ ws.length = 12 ∧ (s.tr t).Working ∧ ((copyOfWords ws).usesAddress = false ∨ (copyOfWords ws).address % 2 = 0) ∧ (s.tr t).ctl.online = true ∧ s.power.pwarn.level = false ∧ s.power.released.get t = true ∧ (((copyOfWords ws).code = 1 ∧ (s.tr t).ctl.state ≠ .ready ∧ (s.tr t).ctl.state ≠ .powerHeld ∧ ((s.tr t).ctl.state = .unloaded → (s.tr t).sense.tapePresent.level = false)) ∨
        ((copyOfWords ws).code = 3 ∧ ((s.tr t).ctl.state = .threading ∨ (s.tr t).ctl.state = .seekingLoadPoint ∨ (s.tr t).ctl.state = .unloading)) ∨
        (((copyOfWords ws).code = 2 ∨ (copyOfWords ws).code = 6 ∨ (copyOfWords ws).code = 7 ∨ (copyOfWords ws).code = 8 ∨ (copyOfWords ws).code = 9 ∨ (copyOfWords ws).code = 10 ∨ (copyOfWords ws).code = 11 ∨ (copyOfWords ws).code = 16 ∨ (copyOfWords ws).code = 17 ∨ (copyOfWords ws).code = 18) ∧ (s.tr t).ctl.state ≠ .ready ∧ (s.tr t).ctl.state ≠ .inMotion ∧ (s.tr t).ctl.state ≠ .powerHeld)) :=
  ⟨busy fetchX (base calm (flying ∘ threadingT .panelLoad ∘ sw true) State.reset), .t0, fetchX, blockW 3 0, by decide⟩

theorem meets_OrderFetched_9a :
    ∃ (s : State) (t : Tr) (x : BusTransfer) (ws : List Word), s.Reads t x .fetch ws ∧ ws.length = 12 ∧ (s.tr t).port.pointer = .inFlight ∧ (s.tr t).port.held = none ∧ (s.tr t).port.stopNotice = false ∧ (s.tr t).ctl.offlinePending = false ∧ (s.tr t).ctl.stopUnderWay = true ∧ ((copyOfWords ws).usesAddress = false ∨ (copyOfWords ws).address % 2 = 0) ∧ (s.tr t).ctl.online = true ∧ s.power.pwarn.level = false ∧ s.power.released.get t = true ∧ ((copyOfWords ws).code = 1 ∨ (copyOfWords ws).code = 2 ∨ (copyOfWords ws).code = 3 ∨ (copyOfWords ws).code = 6 ∨ (copyOfWords ws).code = 7 ∨ (copyOfWords ws).code = 8 ∨ (copyOfWords ws).code = 9 ∨ (copyOfWords ws).code = 10 ∨ (copyOfWords ws).code = 11 ∨ (copyOfWords ws).code = 16 ∨ (copyOfWords ws).code = 17 ∨ (copyOfWords ws).code = 18) :=
  ⟨busy fetchX (base calm (stopping ∘ flying ∘ running ∘ ready) State.reset), .t0, fetchX, blockW 3 0, by decide⟩

theorem meets_OrderFetched_9b :
    ∃ (s : State) (t : Tr) (x : BusTransfer) (ws : List Word), s.Reads t x .fetch ws ∧ ws.length = 12 ∧ (s.tr t).port.pointer = .inFlight ∧ (s.tr t).port.held = none ∧ (s.tr t).port.stopNotice = false ∧ (s.tr t).ctl.offlinePending = false ∧ (s.tr t).ctl.stopUnderWay = true ∧ ((copyOfWords ws).usesAddress = false ∨ (copyOfWords ws).address % 2 = 0) ∧ (s.tr t).ctl.online = true ∧ s.power.pwarn.level = false ∧ s.power.released.get t = true ∧ ((copyOfWords ws).code = 1 ∨ (copyOfWords ws).code = 2 ∨ (copyOfWords ws).code = 3 ∨ (copyOfWords ws).code = 6 ∨ (copyOfWords ws).code = 7 ∨ (copyOfWords ws).code = 8 ∨ (copyOfWords ws).code = 9 ∨ (copyOfWords ws).code = 10 ∨ (copyOfWords ws).code = 11 ∨ (copyOfWords ws).code = 16 ∨ (copyOfWords ws).code = 17 ∨ (copyOfWords ws).code = 18) :=
  ⟨busy fetchX (base calm (stopping ∘ flying ∘ running ∘ ready) State.reset), .t0, fetchX, blockW 1 0, by decide⟩

theorem meets_TerminationWritten_1 :
    ∃ (s : State) (t : Tr) (x : BusTransfer), s.Writes t x .termination ∧ (s.tr t).port.pointer = .terminating ∧ (s.tr t).port.faultAfter = false :=
  ⟨busy termX (base calm (pointer .terminating) State.reset), .t0, termX, by decide⟩

theorem meets_TerminationWritten_2 :
    ∃ (s : State) (t : Tr) (x : BusTransfer) (done : Nat), s.Writes t x .termination ∧ (s.tr t).port.pointer = .terminating ∧ (s.tr t).port.faultAfter = false ∧ done < x.length :=
  ⟨busy termX (base calm (pointer .terminating) State.reset), .t0, termX, 3, by decide⟩

theorem meets_FetchTimeout_1 :
    ∃ (s : State) (t : Tr) (x : BusTransfer) (ws : List Word), (s.Transfers t x .fetch ∨ s.Transfers t x .profile ∨ s.Transfers t x .detector) ∧ x.words = [] ∧ ws.length < x.length ∧ (s.tr t).Working :=
  ⟨busy fetchX (base calm (flying ∘ ready) State.reset), .t0, fetchX, [1, 2, 3], by decide⟩

theorem meets_WrongWordCountStops :
    ∃ (s : State) (t : Tr) (x : BusTransfer) (ws : List Word), s.arb.current = some (t, x) ∧ ws.length ≠ x.length ∧ x.kind = .fetch :=
  ⟨busy fetchX State.reset, .t0, fetchX, [], by decide⟩

theorem meets_LoadOrder_1 :
    ∃ (s : State) (t : Tr) (c : OrderCopy), s.Awaits t 1 c ∧ (s.tr t).Unloaded ∧ (s.tr t).sense.bothVacuum = false :=
  ⟨order 0x0101 (unloadedT ∘ taped ∘ sw false) State.reset, .t0, copyC 0x0101, by decide⟩

theorem meets_LoadOrder_2 :
    ∃ (s : State) (t : Tr) (c : OrderCopy), s.Awaits t 1 c ∧ (s.tr t).ReadyStanding ∧ (s.reel t).state ≠ .none ∧ c.modifier 8 = true ∧ (s.reel t).tag = some c.tag :=
  ⟨reelOf { ReelRecord.none with state := .held, tag := some 0 } (order 0x0101 ready State.reset), .t0, copyC 0x0101, by decide⟩

theorem meets_LoadOrder_3a :
    ∃ (s : State) (t : Tr) (c : OrderCopy), s.Awaits t 1 c ∧ (s.tr t).ReadyStanding ∧ (s.reel t).state ≠ .none ∧ (c.modifier 8 = false ∨ (s.reel t).tag ≠ some c.tag) ∧ (s.reel t).entries.length ≤ 1024 :=
  ⟨reelOf { ReelRecord.none with state := .held, tag := some 5 } (order 0x0101 ready State.reset), .t0, copyC 0x0101, by decide⟩

theorem meets_LoadOrder_3b :
    ∃ (s : State) (t : Tr) (c : OrderCopy), s.Awaits t 1 c ∧ (s.tr t).ReadyStanding ∧ (s.reel t).state ≠ .none ∧ (c.modifier 8 = false ∨ (s.reel t).tag ≠ some c.tag) ∧ (s.reel t).entries.length ≤ 1024 :=
  ⟨reelOf { ReelRecord.none with state := .held, tag := some 0 } (order 0x0201 ready State.reset), .t0, copyC 0x0201, by decide⟩

theorem meets_LoadOrder_4 :
    ∃ (s : State) (t : Tr) (c : OrderCopy), s.Awaits t 1 c ∧ (s.tr t).ReadyStanding ∧ (s.reel t).state = .none ∧ (s.reel t).entries = [] :=
  ⟨reelOf .none (order 0x0301 ready State.reset), .t0, copyC 0x0301, by decide⟩

theorem meets_UnloadOrder_1a :
    ∃ (s : State) (t : Tr) (c : OrderCopy), s.Awaits t 2 c ∧ (s.tr t).ReadyStanding ∧ (s.tr t).Unused ∧ (s.tr t).reck.atLoadPoint = true :=
  ⟨reelOf { ReelRecord.none with state := .active } (order 0x0102 (ready ∘ unused ∘ atLoad) State.reset), .t0, copyC 0x0102, by decide⟩

theorem meets_UnloadOrder_1b :
    ∃ (s : State) (t : Tr) (c : OrderCopy), s.Awaits t 2 c ∧ (s.tr t).ReadyStanding ∧ (s.tr t).Unused ∧ (s.tr t).reck.atLoadPoint = true :=
  ⟨reelOf { ReelRecord.none with state := .active, entries := [entryA] } (order 2 (ready ∘ unused ∘ atLoad) State.reset), .t0, copyC 2, by decide⟩

theorem meets_ClearFault_1 :
    ∃ (s : State) (t : Tr) (c : OrderCopy), s.Awaits t 3 c ∧ (s.tr t).drive.Calm ∧ (s.tr t).drive.creep = none ∧ (s.tr t).ctl.stopUnderWay = false ∧ (s.tr t).ctl.unloadEnding = false ∧ (s.tr t).reck.mode = (s.tr t).drive.mode ∧ (s.tr t).Unused ∧ (s.tr t).ctl.state = .faulted ∧ causePresent (s.tr t) = true :=
  ⟨order 3 (faultedT ∘ unloadedT ∘ sw true ∘ unused) State.reset, .t0, copyC 3, by decide⟩

theorem meets_ClearFault_2 :
    ∃ (s : State) (t : Tr) (c : OrderCopy), s.Awaits t 3 c ∧ (s.tr t).drive.Calm ∧ (s.tr t).drive.creep = none ∧ (s.tr t).ctl.stopUnderWay = false ∧ (s.tr t).ctl.unloadEnding = false ∧ (s.tr t).reck.mode = (s.tr t).drive.mode ∧ (s.tr t).Unused ∧ (s.tr t).ctl.state = .faulted ∧ (s.tr t).Gripless ∧ causePresent (s.tr t) = false ∧ (s.tr t).sense.pathGood = true :=
  ⟨order 3 (goodPath ∘ faultedT ∘ unloadedT ∘ sw true ∘ unused) State.reset, .t0, copyC 3, by decide⟩

theorem meets_ClearFault_3 :
    ∃ (s : State) (t : Tr) (c : OrderCopy), s.Awaits t 3 c ∧ (s.tr t).drive.Calm ∧ (s.tr t).drive.creep = none ∧ (s.tr t).ctl.stopUnderWay = false ∧ (s.tr t).ctl.unloadEnding = false ∧ (s.tr t).reck.mode = (s.tr t).drive.mode ∧ (s.tr t).Unused ∧ (s.tr t).ctl.state = .faulted ∧ (s.tr t).drive.mode = .capstan ∧ (s.tr t).drive.engaged = true ∧ causePresent (s.tr t) = false ∧ (s.tr t).sense.pathGood = true :=
  ⟨order 3 (faultedT ∘ ready ∘ unused ∘ midTape) State.reset, .t0, copyC 3, by decide⟩

theorem meets_ClearFault_4a :
    ∃ (s : State) (t : Tr) (c : OrderCopy), s.Awaits t 3 c ∧ (s.tr t).drive.Calm ∧ (s.tr t).drive.creep = none ∧ (s.tr t).ctl.stopUnderWay = false ∧ (s.tr t).ctl.unloadEnding = false ∧ (s.tr t).reck.mode = (s.tr t).drive.mode ∧ (s.tr t).Unused ∧ (s.tr t).ctl.state = .faulted ∧ causePresent (s.tr t) = false ∧ (s.tr t).sense.pathGood = false :=
  ⟨reelOf { ReelRecord.none with state := .active, entries := [entryA] } (order 3 (stalled ∘ faultedT ∘ unloadedT ∘ unused) State.reset), .t0, copyC 3, by decide⟩

theorem meets_ClearFault_4b :
    ∃ (s : State) (t : Tr) (c : OrderCopy), s.Awaits t 3 c ∧ (s.tr t).drive.Calm ∧ (s.tr t).drive.creep = none ∧ (s.tr t).ctl.stopUnderWay = false ∧ (s.tr t).ctl.unloadEnding = false ∧ (s.tr t).reck.mode = (s.tr t).drive.mode ∧ (s.tr t).Unused ∧ (s.tr t).ctl.state = .faulted ∧ causePresent (s.tr t) = false ∧ (s.tr t).sense.pathGood = false :=
  ⟨order 3 (pathBad ∘ stalled ∘ faultedT ∘ ready ∘ unused ∘ midTape) State.reset, .t0, copyC 3, by decide⟩

theorem meets_RecordsRequested_1 :
    ∃ (s : State) (t : Tr) (c : OrderCopy), s.Settled t ∧ s.Awaits t 4 c :=
  ⟨order 4 ready State.reset, .t0, copyC 4, by decide⟩

theorem meets_RecordsRequested_2 :
    ∃ (s : State) (t : Tr) (c : OrderCopy), s.Settled t ∧ s.Awaits t 5 c :=
  ⟨order 5 ready State.reset, .t0, copyC 5, by decide⟩

theorem meets_RecordsRequested_3 :
    ∃ (s : State) (t : Tr) (c : OrderCopy), s.Settled t ∧ s.Awaits t 21 c :=
  ⟨order 21 ready State.reset, .t0, copyC 21, by decide⟩

theorem meets_ProfileApplied_1a :
    ∃ (s : State) (t : Tr) (x : BusTransfer) (ws : List Word), s.Reads t x .profile ws ∧ ws.length = 14 ∧ (s.tr t).Working ∧ (s.tr t).drive.standstill = true :=
  ⟨busy { fetchX with kind := .profile, length := 14 } (order 4 ready State.reset), .t0, { fetchX with kind := .profile, length := 14 }, List.replicate 14 0xFFFF, by decide⟩

theorem meets_ProfileApplied_1b :
    ∃ (s : State) (t : Tr) (x : BusTransfer) (ws : List Word), s.Reads t x .profile ws ∧ ws.length = 14 ∧ (s.tr t).Working ∧ (s.tr t).drive.standstill = true :=
  ⟨busy { fetchX with kind := .profile, length := 14 } (order 4 (blowing ∘ windT ∘ unloadedT) State.reset), .t0, { fetchX with kind := .profile, length := 14 }, List.replicate 14 0xFFFF, by decide⟩

theorem meets_ProfileApplied_2 :
    ∃ (s : State) (t : Tr) (x : BusTransfer) (ws : List Word), s.Reads t x .profile ws ∧ ws.length = 14 ∧ (s.tr t).Working ∧ (s.tr t).drive.standstill = false :=
  ⟨busy { fetchX with kind := .profile, length := 14 } (order 4 (running ∘ ready) State.reset), .t0, { fetchX with kind := .profile, length := 14 }, List.replicate 14 0xFFFF, by decide⟩

theorem meets_DetectorApplied_1 :
    ∃ (s : State) (t : Tr) (x : BusTransfer) (ws : List Word), s.Reads t x .detector ws ∧ ws.length = 4 ∧ (s.tr t).Working ∧ settingsInRange (settingsOfWords ws) = true :=
  ⟨busy { fetchX with kind := .detector, length := 4 } (order 5 ready State.reset), .t0, { fetchX with kind := .detector, length := 4 }, [255, 254, 255, 0xFFC0], by decide⟩

theorem meets_DetectorApplied_2 :
    ∃ (s : State) (t : Tr) (x : BusTransfer) (ws : List Word), s.Reads t x .detector ws ∧ ws.length = 4 ∧ (s.tr t).Working ∧ settingsInRange (settingsOfWords ws) = false :=
  ⟨busy { fetchX with kind := .detector, length := 4 } (order 5 ready State.reset), .t0, { fetchX with kind := .detector, length := 4 }, [96, 48, 24, 0xFFBF], by decide⟩

theorem meets_NoticeMask_1 :
    ∃ (s : State) (t : Tr) (c : OrderCopy), s.Waits t 22 c ∧ s.Settled t ∧ c.opA < 32 :=
  ⟨order 22 ready State.reset, .t0, copyC 22, by decide⟩

theorem meets_NoticeMask_2 :
    ∃ (s : State) (t : Tr) (c : OrderCopy), s.Waits t 22 c ∧ s.Settled t ∧ 32 ≤ c.opA :=
  ⟨orderC { copyC 22 with w1 := 32 } ready State.reset, .t0, { copyC 22 with w1 := 32 }, by decide⟩

theorem meets_PhaseTimeouts_1a :
    ∃ (s : State) (t : Tr), s.powered = true ∧ (s.tr t).ctl.stopUnderWay = false ∧ (s.tr t).Unused ∧ (s.tr t).ctl.state = .threading ∧ (s.tr t).drive.Calm ∧ (s.tr t).drive.mode = .thread ∧ (s.tr t).reck.mode = .thread ∧ (s.tr t).ctl.operation = .panelLoad ∧ (s.tr t).port.held = none :=
  ⟨base calm (holdNone ∘ threadingT .panelLoad ∘ unused) State.reset, .t0, by decide⟩

theorem meets_PhaseTimeouts_1b :
    ∃ (s : State) (t : Tr), s.powered = true ∧ (s.tr t).ctl.stopUnderWay = false ∧ (s.tr t).Unused ∧ (s.tr t).ctl.state = .threading ∧ (s.tr t).drive.Calm ∧ (s.tr t).drive.mode = .thread ∧ (s.tr t).reck.mode = .thread ∧ (s.tr t).ctl.operation = .panelLoad ∧ (s.tr t).port.held = none :=
  ⟨base calm (flying ∘ threadingT .panelLoad ∘ unused) State.reset, .t0, by decide⟩

theorem meets_PhaseTimeouts_1c :
    ∃ (s : State) (t : Tr), s.powered = true ∧ (s.tr t).ctl.stopUnderWay = false ∧ (s.tr t).Unused ∧ (s.tr t).ctl.state = .threading ∧ (s.tr t).drive.Calm ∧ (s.tr t).drive.mode = .thread ∧ (s.tr t).reck.mode = .thread ∧ (s.tr t).ctl.operation = .panelLoad ∧ (s.tr t).port.held = none :=
  ⟨base calm (holdNone ∘ pointer .terminating ∘ threadingT .panelLoad ∘ unused) State.reset, .t0, by decide⟩

theorem meets_PhaseTimeouts_2 :
    ∃ (s : State) (t : Tr), s.powered = true ∧ (s.tr t).ctl.stopUnderWay = false ∧ (s.tr t).Unused ∧ (s.tr t).ctl.state = .threading ∧ (s.tr t).drive.Calm ∧ (s.tr t).drive.mode = .thread ∧ (s.tr t).reck.mode = .thread ∧ (s.tr t).ctl.operation = .orderLoad ∧ (s.tr t).Working :=
  ⟨base calm (flying ∘ threadingT .orderLoad ∘ unused) State.reset, .t0, by decide⟩

theorem meets_PhaseTimeouts_3a :
    ∃ (s : State) (t : Tr), s.powered = true ∧ (s.tr t).ctl.stopUnderWay = false ∧ (s.tr t).Unused ∧ (s.tr t).ctl.state = .unloading ∧ (s.tr t).ctl.unloadEnding = false ∧ (s.tr t).drive.phase = .run ∧ (s.tr t).drive.mode = .capstan ∧ (s.tr t).drive.stopKind = .none :=
  ⟨base calm (pointer .idle ∘ unloadingT ∘ running ∘ ready ∘ unused) State.reset, .t0, by decide⟩

theorem meets_PhaseTimeouts_3b :
    ∃ (s : State) (t : Tr), s.powered = true ∧ (s.tr t).ctl.stopUnderWay = false ∧ (s.tr t).Unused ∧ (s.tr t).ctl.state = .unloading ∧ (s.tr t).ctl.unloadEnding = false ∧ (s.tr t).drive.phase = .run ∧ (s.tr t).drive.mode = .capstan ∧ (s.tr t).drive.stopKind = .none :=
  ⟨base calm (flying ∘ unloadingT ∘ running ∘ ready ∘ unused) State.reset, .t0, by decide⟩

theorem meets_CapstanPhases_1 :
    ∃ (s : State) (t : Tr), s.powered = true ∧ (s.tr t).drive.phase = .accel :=
  ⟨base calm (accelT .forward) State.reset, .t0, by decide⟩

theorem meets_CapstanPhases_2 :
    ∃ (s : State) (t : Tr) (d : Int), s.powered = true ∧ ((s.tr t).drive.phase = .accel ∨ (s.tr t).drive.phase = .run) ∧ (s.tr t).drive.stopTarget = some d ∧ d ≤ rampDistance (s.tr t).drive.command.natAbs (s.tr t).drive.active.aC ∧ ((s.tr t).drive.dir = .backward ∨ d ≤ (s.tr t).reck.forwardLimit - (s.tr t).reck.position) :=
  ⟨base calm (targetT 0 ∘ accelT .backward) State.reset, .t0, 0, by decide⟩

theorem meets_CapstanPhases_3 :
    ∃ (s : State) (t : Tr), s.powered = true ∧ ((s.tr t).drive.phase = .accel ∨ (s.tr t).drive.phase = .run) ∧ (s.tr t).drive.stopTarget = none ∧ (s.tr t).drive.dir = .forward ∧ (s.tr t).reck.forwardLimit - (s.tr t).reck.position ≤ rampDistance (s.tr t).drive.command.natAbs (s.tr t).drive.active.aC :=
  ⟨base calm (limitT ∘ accelT .forward) State.reset, .t0, by decide⟩

theorem meets_CapstanPhases_4 :
    ∃ (s : State) (t : Tr), s.powered = true ∧ ((s.tr t).drive.phase = .accel ∨ (s.tr t).drive.phase = .run) ∧ (s.tr t).drive.holdOver = some 0 :=
  ⟨base calm (holdT ∘ accelT .forward) State.reset, .t0, by decide⟩

theorem meets_CapstanStandstill_1 :
    ∃ (s : State) (t : Tr), s.powered = true ∧ (s.tr t).drive.phase = .decel ∧ (s.tr t).drive.shuttlePhase = .none ∧ (s.tr t).drive.mode = .capstan ∧ (s.tr t).drive.pending = none ∧ (s.tr t).drive.engaged = true ∧ (s.tr t).Unused ∧ (s.tr t).drive.stopKind = .none ∧ (s.tr t).ctl.state = .inMotion ∧ (s.tr t).ctl.stopUnderWay = false ∧ pathGoodOf (s.tr t).sense = true :=
  ⟨base calm (decelT ∘ running ∘ ready ∘ unused) State.reset, .t0, by decide⟩

theorem meets_CapstanStandstill_2a :
    ∃ (s : State) (t : Tr), s.powered = true ∧ (s.tr t).drive.phase = .decel ∧ (s.tr t).drive.shuttlePhase = .none ∧ (s.tr t).drive.mode = .capstan ∧ (s.tr t).drive.pending = none ∧ (s.tr t).drive.engaged = true ∧ (s.tr t).Unused ∧ (s.tr t).drive.stopKind = .controlled ∧ (s.tr t).ctl.state = .stopping ∧ (s.tr t).ctl.stopUnderWay = false ∧ pathGoodOf (s.tr t).sense = true :=
  ⟨base calm (stopT .controlled .stopping false true ∘ decelT ∘ running ∘ ready ∘ unused) State.reset, .t0, by decide⟩

theorem meets_CapstanStandstill_2b :
    ∃ (s : State) (t : Tr), s.powered = true ∧ (s.tr t).drive.phase = .decel ∧ (s.tr t).drive.shuttlePhase = .none ∧ (s.tr t).drive.mode = .capstan ∧ (s.tr t).drive.pending = none ∧ (s.tr t).drive.engaged = true ∧ (s.tr t).Unused ∧ (s.tr t).drive.stopKind = .controlled ∧ (s.tr t).ctl.state = .stopping ∧ (s.tr t).ctl.stopUnderWay = false ∧ pathGoodOf (s.tr t).sense = true :=
  ⟨base calm (flying ∘ stopT .controlled .stopping false false ∘ decelT ∘ running ∘ ready ∘ unused) State.reset, .t0, by decide⟩

theorem meets_CapstanStandstill_3a :
    ∃ (s : State) (t : Tr), s.powered = true ∧ (s.tr t).drive.phase = .decel ∧ (s.tr t).drive.shuttlePhase = .none ∧ (s.tr t).drive.mode = .capstan ∧ (s.tr t).drive.pending = none ∧ (s.tr t).drive.engaged = true ∧ (s.tr t).Unused ∧ (s.tr t).drive.stopKind = .power ∧ (s.tr t).ctl.state = .powerHeld ∧ (s.tr t).ctl.stopUnderWay = false ∧ (s.tr t).ctl.unloadEnding = false ∧ ((s.tr t).hasOrder 2 = false) ∧ (s.power.pwarn.level = true ∨ s.power.released.get t = true) :=
  ⟨base calm (stopT .power .powerHeld false true ∘ decelT ∘ running ∘ ready ∘ unused ∘ noUnload) State.reset, .t0, by decide⟩

theorem meets_CapstanStandstill_3b :
    ∃ (s : State) (t : Tr), s.powered = true ∧ (s.tr t).drive.phase = .decel ∧ (s.tr t).drive.shuttlePhase = .none ∧ (s.tr t).drive.mode = .capstan ∧ (s.tr t).drive.pending = none ∧ (s.tr t).drive.engaged = true ∧ (s.tr t).Unused ∧ (s.tr t).drive.stopKind = .power ∧ (s.tr t).ctl.state = .powerHeld ∧ (s.tr t).ctl.stopUnderWay = false ∧ (s.tr t).ctl.unloadEnding = false ∧ ((s.tr t).hasOrder 2 = false) ∧ (s.power.pwarn.level = true ∨ s.power.released.get t = true) :=
  ⟨warned (base calm (stopT .power .powerHeld false true ∘ decelT ∘ running ∘ pathBad ∘ ready ∘ unused ∘ noUnload) State.reset), .t0, by decide⟩

theorem meets_CapstanStandstill_4a :
    ∃ (s : State) (t : Tr), s.powered = true ∧ (s.tr t).drive.phase = .decel ∧ (s.tr t).drive.shuttlePhase = .none ∧ (s.tr t).drive.mode = .capstan ∧ (s.tr t).drive.pending = none ∧ (s.tr t).drive.engaged = true ∧ (s.tr t).Unused ∧ (s.tr t).ctl.unloadEnding = false ∧ ((s.tr t).hasOrder 2 = false) ∧ (s.tr t).port.held = none ∧ (s.tr t).ctl.stopUnderWay = true ∧ (s.tr t).drive.stopKind = .emergency ∧ ((s.tr t).ctl.state = .ready ∨ (s.tr t).ctl.state = .inMotion ∨ (s.tr t).ctl.state = .stopping) ∧ (s.tr t).ctl.permission = .none :=
  ⟨mapA (base calm (holdNone ∘ stopT .emergency .inMotion true true ∘ decelT ∘ running ∘ ready ∘ unused ∘ midTape ∘ noUnload) State.reset), .t0, by decide⟩

theorem meets_CapstanStandstill_4b :
    ∃ (s : State) (t : Tr), s.powered = true ∧ (s.tr t).drive.phase = .decel ∧ (s.tr t).drive.shuttlePhase = .none ∧ (s.tr t).drive.mode = .capstan ∧ (s.tr t).drive.pending = none ∧ (s.tr t).drive.engaged = true ∧ (s.tr t).Unused ∧ (s.tr t).ctl.unloadEnding = false ∧ ((s.tr t).hasOrder 2 = false) ∧ (s.tr t).port.held = none ∧ (s.tr t).ctl.stopUnderWay = true ∧ (s.tr t).drive.stopKind = .emergency ∧ ((s.tr t).ctl.state = .ready ∨ (s.tr t).ctl.state = .inMotion ∨ (s.tr t).ctl.state = .stopping) ∧ (s.tr t).ctl.permission = .none :=
  ⟨mapA (base calm (holdNone ∘ stopT .emergency .stopping true false ∘ decelT ∘ running ∘ pathBad ∘ ready ∘ unused ∘ midTape ∘ noUnload) State.reset), .t0, by decide⟩

theorem meets_CapstanStandstill_5a :
    ∃ (s : State) (t : Tr) (r : OrderResult), s.powered = true ∧ (s.tr t).drive.phase = .decel ∧ (s.tr t).drive.shuttlePhase = .none ∧ (s.tr t).drive.mode = .capstan ∧ (s.tr t).drive.pending = none ∧ (s.tr t).drive.engaged = true ∧ (s.tr t).Unused ∧ (s.tr t).ctl.unloadEnding = false ∧ (s.tr t).port.pointer = .inFlight ∧ (s.tr t).port.held = some r ∧ (s.tr t).port.stopNotice = true ∧ (s.tr t).ctl.offlinePending = false ∧ r.count ≤ 65535 ∧ (s.tr t).ctl.stopUnderWay = true ∧ (s.tr t).drive.stopKind = .emergency ∧ ((s.tr t).ctl.state = .ready ∨ (s.tr t).ctl.state = .inMotion ∨ (s.tr t).ctl.state = .stopping) ∧ (s.tr t).ctl.permission = .none :=
  ⟨base calm (heldT { condition := .normal, count := 65535, value := 7, markBlock := some 3 } ∘ stopT .emergency .inMotion true false ∘ decelT ∘ running ∘ ready ∘ unused ∘ midTape) State.reset, .t0, { condition := .normal, count := 65535, value := 7, markBlock := some 3 }, by decide⟩

theorem meets_CapstanStandstill_5b :
    ∃ (s : State) (t : Tr) (r : OrderResult), s.powered = true ∧ (s.tr t).drive.phase = .decel ∧ (s.tr t).drive.shuttlePhase = .none ∧ (s.tr t).drive.mode = .capstan ∧ (s.tr t).drive.pending = none ∧ (s.tr t).drive.engaged = true ∧ (s.tr t).Unused ∧ (s.tr t).ctl.unloadEnding = false ∧ (s.tr t).port.pointer = .inFlight ∧ (s.tr t).port.held = some r ∧ (s.tr t).port.stopNotice = true ∧ (s.tr t).ctl.offlinePending = false ∧ r.count ≤ 65535 ∧ (s.tr t).ctl.stopUnderWay = true ∧ (s.tr t).drive.stopKind = .emergency ∧ ((s.tr t).ctl.state = .ready ∨ (s.tr t).ctl.state = .inMotion ∨ (s.tr t).ctl.state = .stopping) ∧ (s.tr t).ctl.permission = .none :=
  ⟨base calm (heldT { condition := .parameter, count := 0, value := 0, markBlock := none } ∘ stopT .emergency .ready true true ∘ decelT ∘ running ∘ ready ∘ unused ∘ midTape) State.reset, .t0, { condition := .parameter, count := 0, value := 0, markBlock := none }, by decide⟩

theorem meets_CapstanStandstill_6a :
    ∃ (s : State) (t : Tr) (nt : Bool) (c : Condition) (n : Nat), s.powered = true ∧ (s.tr t).drive.phase = .decel ∧ (s.tr t).drive.shuttlePhase = .none ∧ (s.tr t).drive.mode = .capstan ∧ (s.tr t).drive.pending = none ∧ (s.tr t).drive.engaged = true ∧ (s.tr t).loc = Locate.idle ∧ (s.tr t).chan.formation = none ∧ (s.tr t).xfer.quiet = true ∧ n = (if (s.tr t).chan.handOver = .handing ∧ nt = false then (s.tr t).xfer.mark.2.1 else (s.tr t).xfer.resultBytes) ∧ (s.tr t).drive.requester = .transfer ∧ (s.tr t).xfer.order = .read nt ∧ (s.tr t).xfer.phase = .ending ∧ n ≤ 65535 ∧ (s.tr t).ctl.unloadEnding = false ∧ (s.tr t).port.pointer = .inFlight ∧ (s.tr t).port.held = none ∧ (s.tr t).ctl.offlinePending = false ∧ ((s.tr t).port.copy.all (·.code = 6) = true) ∧ (s.power.pwarn.level = true ∨ s.power.released.get t = true) ∧ (((s.tr t).drive.stopKind = .emergency ∧ (s.tr t).ctl.stopUnderWay = true ∧ (s.tr t).ctl.state = .inMotion ∧
      (s.tr t).ctl.permission = .none ∧ (s.tr t).port.stopNotice = true ∧ c = .faultStop) ∨
      ((s.tr t).drive.stopKind = .power ∧ (s.tr t).ctl.stopUnderWay = false ∧ (s.tr t).ctl.state = .powerHeld ∧
      (s.tr t).port.stopNotice = false ∧ c = .powerStop)) :=
  ⟨base calm (endingT true ∘ stopT .emergency .inMotion true false ∘ decelT ∘ running ∘ ready ∘ unused ∘ midTape) State.reset, .t0, false, .faultStop, 80, by decide⟩

theorem meets_CapstanStandstill_6b :
    ∃ (s : State) (t : Tr) (nt : Bool) (c : Condition) (n : Nat), s.powered = true ∧ (s.tr t).drive.phase = .decel ∧ (s.tr t).drive.shuttlePhase = .none ∧ (s.tr t).drive.mode = .capstan ∧ (s.tr t).drive.pending = none ∧ (s.tr t).drive.engaged = true ∧ (s.tr t).loc = Locate.idle ∧ (s.tr t).chan.formation = none ∧ (s.tr t).xfer.quiet = true ∧ n = (if (s.tr t).chan.handOver = .handing ∧ nt = false then (s.tr t).xfer.mark.2.1 else (s.tr t).xfer.resultBytes) ∧ (s.tr t).drive.requester = .transfer ∧ (s.tr t).xfer.order = .read nt ∧ (s.tr t).xfer.phase = .ending ∧ n ≤ 65535 ∧ (s.tr t).ctl.unloadEnding = false ∧ (s.tr t).port.pointer = .inFlight ∧ (s.tr t).port.held = none ∧ (s.tr t).ctl.offlinePending = false ∧ ((s.tr t).port.copy.all (·.code = 6) = true) ∧ (s.power.pwarn.level = true ∨ s.power.released.get t = true) ∧ (((s.tr t).drive.stopKind = .emergency ∧ (s.tr t).ctl.stopUnderWay = true ∧ (s.tr t).ctl.state = .inMotion ∧
      (s.tr t).ctl.permission = .none ∧ (s.tr t).port.stopNotice = true ∧ c = .faultStop) ∨
      ((s.tr t).drive.stopKind = .power ∧ (s.tr t).ctl.stopUnderWay = false ∧ (s.tr t).ctl.state = .powerHeld ∧
      (s.tr t).port.stopNotice = false ∧ c = .powerStop)) :=
  ⟨base calm (chanH recA ∘ endingT true ∘ stopT .emergency .inMotion true true ∘ decelT ∘ running ∘ ready ∘ unused ∘ midTape) State.reset, .t0, false, .faultStop, 60, by decide⟩

theorem meets_CapstanStandstill_6c :
    ∃ (s : State) (t : Tr) (nt : Bool) (c : Condition) (n : Nat), s.powered = true ∧ (s.tr t).drive.phase = .decel ∧ (s.tr t).drive.shuttlePhase = .none ∧ (s.tr t).drive.mode = .capstan ∧ (s.tr t).drive.pending = none ∧ (s.tr t).drive.engaged = true ∧ (s.tr t).loc = Locate.idle ∧ (s.tr t).chan.formation = none ∧ (s.tr t).xfer.quiet = true ∧ n = (if (s.tr t).chan.handOver = .handing ∧ nt = false then (s.tr t).xfer.mark.2.1 else (s.tr t).xfer.resultBytes) ∧ (s.tr t).drive.requester = .transfer ∧ (s.tr t).xfer.order = .read nt ∧ (s.tr t).xfer.phase = .ending ∧ n ≤ 65535 ∧ (s.tr t).ctl.unloadEnding = false ∧ (s.tr t).port.pointer = .inFlight ∧ (s.tr t).port.held = none ∧ (s.tr t).ctl.offlinePending = false ∧ ((s.tr t).port.copy.all (·.code = 6) = true) ∧ (s.power.pwarn.level = true ∨ s.power.released.get t = true) ∧ (((s.tr t).drive.stopKind = .emergency ∧ (s.tr t).ctl.stopUnderWay = true ∧ (s.tr t).ctl.state = .inMotion ∧
      (s.tr t).ctl.permission = .none ∧ (s.tr t).port.stopNotice = true ∧ c = .faultStop) ∨
      ((s.tr t).drive.stopKind = .power ∧ (s.tr t).ctl.stopUnderWay = false ∧ (s.tr t).ctl.state = .powerHeld ∧
      (s.tr t).port.stopNotice = false ∧ c = .powerStop)) :=
  ⟨warned (base calm (endingT false ∘ stopT .power .powerHeld false true ∘ decelT ∘ running ∘ ready ∘ unused ∘ midTape) State.reset), .t0, false, .powerStop, 80, by decide⟩

theorem meets_ShuttlePhases_1 :
    ∃ (s : State) (t : Tr), s.powered = true ∧ (s.tr t).drive.shuttlePhase = .accel :=
  ⟨base calm (shuttleT .accel ∘ ready) State.reset, .t0, by decide⟩

theorem meets_ShuttlePhases_2 :
    ∃ (s : State) (t : Tr) (p : Int), s.powered = true ∧ ((s.tr t).drive.shuttlePhase = .accel ∨ (s.tr t).drive.shuttlePhase = .run) ∧ (s.tr t).drive.dir = .backward ∧ (s.tr t).drive.shuttleTarget = some p ∧ (s.tr t).reck.position - p ≤ rampDistance (s.tr t).drive.shuttleSpeed (s.tr t).drive.active.aR :=
  ⟨base calm (shuttleT .run ∘ ready) State.reset, .t0, 5, by decide⟩

theorem meets_ShuttlePhases_3 :
    ∃ (s : State) (t : Tr) (p : Int), s.powered = true ∧ ((s.tr t).drive.shuttlePhase = .accel ∨ (s.tr t).drive.shuttlePhase = .run) ∧ (s.tr t).drive.dir = .forward ∧ (s.tr t).drive.shuttleTarget = some p ∧ p - (s.tr t).reck.position ≤ rampDistance (s.tr t).drive.shuttleSpeed (s.tr t).drive.active.aR ∧ p ≤ (s.tr t).reck.forwardLimit :=
  ⟨base calm (onward 16000000 ∘ shuttleT .run ∘ ready) State.reset, .t0, 16000000, by decide⟩

theorem meets_ShuttlePhases_4 :
    ∃ (s : State) (t : Tr) (p : Int), s.powered = true ∧ ((s.tr t).drive.shuttlePhase = .accel ∨ (s.tr t).drive.shuttlePhase = .run) ∧ (s.tr t).drive.dir = .forward ∧ (s.tr t).drive.shuttleTarget = some p ∧ (s.tr t).reck.forwardLimit - (s.tr t).reck.position ≤ rampDistance (s.tr t).drive.shuttleSpeed (s.tr t).drive.active.aR ∧ (s.tr t).reck.forwardLimit < p :=
  ⟨base calm (onward 16000001 ∘ shuttleT .accel ∘ ready) State.reset, .t0, 16000001, by decide⟩

theorem meets_ShuttlePhases_5a :
    ∃ (s : State) (t : Tr), s.powered = true ∧ (s.tr t).drive.shuttlePhase = .brake ∧ (s.tr t).drive.mode = .shuttle ∧ (s.tr t).drive.pending = none ∧ (s.tr t).reck.mode = .shuttle ∧ (s.tr t).reck.anchor ≠ .lost ∧ (s.tr t).reck.drift + 64 ≤ 20000 ∧ (s.tr t).ctl.stopUnderWay = false ∧ (s.tr t).sense.pathGood = true ∧ pathGoodOf (s.tr t).sense = true ∧ (s.tr t).Unused ∧ (((s.tr t).drive.stopKind = .none ∧ (s.tr t).ctl.state = .inMotion) ∨
      ((s.tr t).drive.stopKind = .controlled ∧ (s.tr t).ctl.state = .stopping ∧ (s.tr t).ctl.stopByClear = false)) :=
  ⟨base calm (shuttleT .brake ∘ running ∘ ready ∘ unused ∘ midTape) State.reset, .t0, by decide⟩

theorem meets_ShuttlePhases_5b :
    ∃ (s : State) (t : Tr), s.powered = true ∧ (s.tr t).drive.shuttlePhase = .brake ∧ (s.tr t).drive.mode = .shuttle ∧ (s.tr t).drive.pending = none ∧ (s.tr t).reck.mode = .shuttle ∧ (s.tr t).reck.anchor ≠ .lost ∧ (s.tr t).reck.drift + 64 ≤ 20000 ∧ (s.tr t).ctl.stopUnderWay = false ∧ (s.tr t).sense.pathGood = true ∧ pathGoodOf (s.tr t).sense = true ∧ (s.tr t).Unused ∧ (((s.tr t).drive.stopKind = .none ∧ (s.tr t).ctl.state = .inMotion) ∨
      ((s.tr t).drive.stopKind = .controlled ∧ (s.tr t).ctl.state = .stopping ∧ (s.tr t).ctl.stopByClear = false)) :=
  ⟨base calm (stopT .controlled .stopping false false ∘ shuttleT .brake ∘ running ∘ ready ∘ unused ∘ midTape) State.reset, .t0, by decide⟩

theorem meets_ShuttlePhases_6a :
    ∃ (s : State) (t : Tr), s.powered = true ∧ (s.tr t).drive.shuttlePhase = .brake ∧ (s.tr t).drive.mode = .shuttle ∧ (s.tr t).drive.pending = none ∧ (s.tr t).reck.mode = .shuttle ∧ (s.tr t).reck.anchor ≠ .lost ∧ (s.tr t).reck.drift + 64 ≤ 20000 ∧ (s.tr t).ctl.stopUnderWay = false ∧ (s.tr t).sense.pathGood = true ∧ pathGoodOf (s.tr t).sense = true ∧ (s.tr t).drive.stopKind = .none ∧ (s.tr t).drive.phase = .stopped ∧ (s.tr t).drive.requester = .locate ∧ (s.tr t).drive.watched = some .takeup ∧ (s.tr t).drive.endedBy ≠ .limit ∧ (s.tr t).ctl.state = .inMotion ∧ (s.tr t).ctl.permission = .full ∧ (s.tr t).xfer = Transfer.idle ∧ (s.tr t).chan.Quiet ∧ (s.tr t).loc.failing = none ∧ (s.tr t).loc.rewindOutcome = none ∧ (s.tr t).loc.order ≠ .none ∧ (s.tr t).loc.phase = .rewinding ∧ (s.tr t).loc.leg = .shuttle ∧ 0 ≤ (s.tr t).reck.position + ((s.tr t).reck.drift + 64 : Nat) ∧ (s.tr t).reck.position ≤ 200000 :=
  ⟨base calm (byTarget ∘ legT .rewind .rewinding .shuttle ∘ shuttleT .brake ∘ running ∘ ready ∘ unused ∘ midTape) State.reset, .t0, by decide⟩

theorem meets_ShuttlePhases_6b :
    ∃ (s : State) (t : Tr), s.powered = true ∧ (s.tr t).drive.shuttlePhase = .brake ∧ (s.tr t).drive.mode = .shuttle ∧ (s.tr t).drive.pending = none ∧ (s.tr t).reck.mode = .shuttle ∧ (s.tr t).reck.anchor ≠ .lost ∧ (s.tr t).reck.drift + 64 ≤ 20000 ∧ (s.tr t).ctl.stopUnderWay = false ∧ (s.tr t).sense.pathGood = true ∧ pathGoodOf (s.tr t).sense = true ∧ (s.tr t).drive.stopKind = .none ∧ (s.tr t).drive.phase = .stopped ∧ (s.tr t).drive.requester = .locate ∧ (s.tr t).drive.watched = some .takeup ∧ (s.tr t).drive.endedBy ≠ .limit ∧ (s.tr t).ctl.state = .inMotion ∧ (s.tr t).ctl.permission = .full ∧ (s.tr t).xfer = Transfer.idle ∧ (s.tr t).chan.Quiet ∧ (s.tr t).loc.failing = none ∧ (s.tr t).loc.rewindOutcome = none ∧ (s.tr t).loc.order ≠ .none ∧ (s.tr t).loc.phase = .rewinding ∧ (s.tr t).loc.leg = .shuttle ∧ 0 ≤ (s.tr t).reck.position + ((s.tr t).reck.drift + 64 : Nat) ∧ (s.tr t).reck.position ≤ 200000 :=
  ⟨base calm (beforeZero ∘ byTarget ∘ legT .locateMark .rewinding .shuttle ∘ shuttleT .brake ∘ running ∘ ready ∘ unused ∘ midTape) State.reset, .t0, by decide⟩

theorem meets_ShuttlePhases_7a :
    ∃ (s : State) (t : Tr) (a : Int × Nat), s.powered = true ∧ (s.tr t).drive.shuttlePhase = .brake ∧ (s.tr t).drive.mode = .shuttle ∧ (s.tr t).drive.pending = none ∧ (s.tr t).reck.mode = .shuttle ∧ (s.tr t).reck.anchor ≠ .lost ∧ (s.tr t).reck.drift + 64 ≤ 20000 ∧ (s.tr t).ctl.stopUnderWay = false ∧ (s.tr t).sense.pathGood = true ∧ pathGoodOf (s.tr t).sense = true ∧ (s.tr t).drive.stopKind = .none ∧ (s.tr t).drive.phase = .stopped ∧ (s.tr t).drive.requester = .locate ∧ (s.tr t).drive.watched = some .takeup ∧ (s.tr t).drive.endedBy ≠ .limit ∧ (s.tr t).ctl.state = .inMotion ∧ (s.tr t).ctl.permission = .full ∧ (s.tr t).xfer = Transfer.idle ∧ (s.tr t).chan.Quiet ∧ (s.tr t).loc.failing = none ∧ (s.tr t).loc.rewindOutcome = none ∧ ((s.tr t).loc.order = .locateMark ∨ (s.tr t).loc.order = .locateBlock) ∧ (s.tr t).loc.phase = .shuttle ∧ (s.tr t).loc.aim = some a ∧ (s.tr t).reck.position < ((s.tr t).loc.standOff - (4000 + ((s.tr t).reck.drift + 64 + a.2) : Nat)) ∧ (s.tr t).loc.standOff - (s.tr t).reck.position ≤ 200000 :=
  ⟨base calm (byTarget ∘ aimT 90000 ∘ legT .locateMark .shuttle .none ∘ shuttleT .brake ∘ running ∘ ready ∘ unused ∘ midTape) State.reset, .t0, (90160, 7), by decide⟩

theorem meets_ShuttlePhases_7b :
    ∃ (s : State) (t : Tr) (a : Int × Nat), s.powered = true ∧ (s.tr t).drive.shuttlePhase = .brake ∧ (s.tr t).drive.mode = .shuttle ∧ (s.tr t).drive.pending = none ∧ (s.tr t).reck.mode = .shuttle ∧ (s.tr t).reck.anchor ≠ .lost ∧ (s.tr t).reck.drift + 64 ≤ 20000 ∧ (s.tr t).ctl.stopUnderWay = false ∧ (s.tr t).sense.pathGood = true ∧ pathGoodOf (s.tr t).sense = true ∧ (s.tr t).drive.stopKind = .none ∧ (s.tr t).drive.phase = .stopped ∧ (s.tr t).drive.requester = .locate ∧ (s.tr t).drive.watched = some .takeup ∧ (s.tr t).drive.endedBy ≠ .limit ∧ (s.tr t).ctl.state = .inMotion ∧ (s.tr t).ctl.permission = .full ∧ (s.tr t).xfer = Transfer.idle ∧ (s.tr t).chan.Quiet ∧ (s.tr t).loc.failing = none ∧ (s.tr t).loc.rewindOutcome = none ∧ ((s.tr t).loc.order = .locateMark ∨ (s.tr t).loc.order = .locateBlock) ∧ (s.tr t).loc.phase = .shuttle ∧ (s.tr t).loc.aim = some a ∧ (s.tr t).reck.position < ((s.tr t).loc.standOff - (4000 + ((s.tr t).reck.drift + 64 + a.2) : Nat)) ∧ (s.tr t).loc.standOff - (s.tr t).reck.position ≤ 200000 :=
  ⟨base calm (byTarget ∘ aimT 4177 ∘ legT .locateBlock .shuttle .none ∘ shuttleT .brake ∘ running ∘ ready ∘ unused ∘ midTape) State.reset, .t0, (4337, 7), by decide⟩

theorem meets_ShuttlePhases_7c :
    ∃ (s : State) (t : Tr) (a : Int × Nat), s.powered = true ∧ (s.tr t).drive.shuttlePhase = .brake ∧ (s.tr t).drive.mode = .shuttle ∧ (s.tr t).drive.pending = none ∧ (s.tr t).reck.mode = .shuttle ∧ (s.tr t).reck.anchor ≠ .lost ∧ (s.tr t).reck.drift + 64 ≤ 20000 ∧ (s.tr t).ctl.stopUnderWay = false ∧ (s.tr t).sense.pathGood = true ∧ pathGoodOf (s.tr t).sense = true ∧ (s.tr t).drive.stopKind = .none ∧ (s.tr t).drive.phase = .stopped ∧ (s.tr t).drive.requester = .locate ∧ (s.tr t).drive.watched = some .takeup ∧ (s.tr t).drive.endedBy ≠ .limit ∧ (s.tr t).ctl.state = .inMotion ∧ (s.tr t).ctl.permission = .full ∧ (s.tr t).xfer = Transfer.idle ∧ (s.tr t).chan.Quiet ∧ (s.tr t).loc.failing = none ∧ (s.tr t).loc.rewindOutcome = none ∧ ((s.tr t).loc.order = .locateMark ∨ (s.tr t).loc.order = .locateBlock) ∧ (s.tr t).loc.phase = .shuttle ∧ (s.tr t).loc.aim = some a ∧ (s.tr t).reck.position < ((s.tr t).loc.standOff - (4000 + ((s.tr t).reck.drift + 64 + a.2) : Nat)) ∧ (s.tr t).loc.standOff - (s.tr t).reck.position ≤ 200000 :=
  ⟨base calm (byTarget ∘ aimT 200005 ∘ legT .locateMark .shuttle .none ∘ shuttleT .brake ∘ running ∘ ready ∘ unused ∘ midTape) State.reset, .t0, (200165, 7), by decide⟩

theorem meets_WindStopped_1 :
    ∃ (s : State) (t : Tr), s.powered = true ∧ (s.tr t).ctl.state = .unloaded ∧ (s.tr t).ctl.stopUnderWay = false ∧ (s.tr t).drive.Calm ∧ (s.tr t).drive.mode = .unthread ∧ (s.tr t).drive.windStopping = true ∧ (s.tr t).drive.takeupReleased = false ∧ (s.tr t).reck.mode = .unthread ∧ (s.tr t).Unused :=
  ⟨base calm (windT ∘ unloadedT ∘ unused) State.reset, .t0, by decide⟩

theorem meets_DetectorReports_1 :
    ∃ (s : State) (t : Tr) (r : RecordInProgress), s.powered = true ∧ s.Settled t ∧ (s.tr t).chan.phase = .qualify ∧ (s.tr t).chan.record = some r ∧ 20 ≤ r.qualify :=
  ⟨base calm (chanR .qualify recA) State.reset, .t0, recA, by decide⟩

theorem meets_DetectorReports_2 :
    ∃ (s : State) (t : Tr) (r : RecordInProgress), s.powered = true ∧ s.Settled t ∧ (s.tr t).chan.phase = .trail ∧ (s.tr t).chan.record = some r ∧ 60 ≤ r.low ∧ (s.tr t).chan.activity = .listen ∧ (s.tr t).chan.handOver ≠ .handing ∧ r.length < 82 :=
  ⟨base calm (flying ∘ chanR .trail recNoise ∘ unused) State.reset, .t0, recNoise, by decide⟩

theorem meets_DetectorReports_3 :
    ∃ (s : State) (t : Tr) (r : RecordInProgress), s.powered = true ∧ s.Settled t ∧ (s.tr t).chan.phase = .trail ∧ (s.tr t).chan.record = some r ∧ 60 ≤ r.low ∧ (s.tr t).chan.activity = .listen ∧ 82 ≤ r.length ∧ r.dir = .forward ∧ (s.tr t).chan.handOver ≠ .handing ∧ (s.tr t).xfer.phase = .idle ∧ (s.tr t).loc.target = none ∧ r.mode = .spacing ∧ (s.tr t).reck.nextKnown = true ∧ (s.tr t).reck.nextBlock < 16777215 ∧ 1 ≤ (s.tr t).reck.fileNumber ∧ (s.tr t).reck.fileNumber < 65535 :=
  ⟨base calm (chanR .trail recA ∘ unused ∘ midTape) State.reset, .t0, recA, by decide⟩

theorem meets_DetectorReports_4a :
    ∃ (s : State) (t : Tr) (r : RecordInProgress) (b : Nat) (f : Nat) (k : RecordKind), s.powered = true ∧ s.Settled t ∧ (s.tr t).chan.phase = .trail ∧ (s.tr t).chan.record = some r ∧ 60 ≤ r.low ∧ (s.tr t).chan.activity = .listen ∧ 82 ≤ r.length ∧ r.dir = .forward ∧ (s.tr t).chan.handOver ≠ .handing ∧ (s.tr t).xfer.phase = .idle ∧ (s.tr t).loc.target = none ∧ r.stamp (s.reel t) = .decoded b f k ∧ (s.reel t).state ≠ .active ∧ b < 16777215 ∧ 1 ≤ f ∧ (if k = .fileMark then f + 1 else f) ≤ 65535 :=
  ⟨reelOf ReelRecord.none (base calm (flying ∘ chanR .trail recD ∘ unused ∘ midTape) State.reset), .t0, recD, 3, 1, .data, by decide⟩

theorem meets_DetectorReports_4b :
    ∃ (s : State) (t : Tr) (r : RecordInProgress) (b : Nat) (f : Nat) (k : RecordKind), s.powered = true ∧ s.Settled t ∧ (s.tr t).chan.phase = .trail ∧ (s.tr t).chan.record = some r ∧ 60 ≤ r.low ∧ (s.tr t).chan.activity = .listen ∧ 82 ≤ r.length ∧ r.dir = .forward ∧ (s.tr t).chan.handOver ≠ .handing ∧ (s.tr t).xfer.phase = .idle ∧ (s.tr t).loc.target = none ∧ r.stamp (s.reel t) = .decoded b f k ∧ (s.reel t).state ≠ .active ∧ b < 16777215 ∧ 1 ≤ f ∧ (if k = .fileMark then f + 1 else f) ≤ 65535 :=
  ⟨reelOf ReelRecord.none (base calm (flying ∘ chanR .trail recF ∘ unused ∘ lostT) State.reset), .t0, recF, 3, 1, .fileMark, by decide⟩

theorem meets_DetectorReports_5a :
    ∃ (s : State) (t : Tr) (r : RecordInProgress) (b : Nat) (f : Nat) (e : Entry) (nb : Option Nat), s.powered = true ∧ s.Settled t ∧ (s.tr t).chan.phase = .trail ∧ (s.tr t).chan.record = some r ∧ 60 ≤ r.low ∧ (s.tr t).chan.activity = .listen ∧ 82 ≤ r.length ∧ r.dir = .forward ∧ (s.tr t).chan.handOver ≠ .handing ∧ (s.tr t).xfer.phase = .idle ∧ (s.tr t).loc.target = none ∧ r.stamp (s.reel t) = .decoded b f .data ∧ (s.reel t).state = .active ∧ findBlock (s.reel t).entries b = some e ∧ e.kind ≠ .file ∧ 0 ≤ r.start ∧ b < 16777215 ∧ 1 ≤ f ∧ f ≤ 65535 ∧ (((s.tr t).reck.anchor = .anchored ∧ (e.bound ≠ none ∨ 40 < (r.start - e.position).natAbs) ∧ nb = none) ∨
      ((s.tr t).reck.anchor = .drifted ∧ e.bound.any ((s.tr t).reck.bound.getD 0 < ·) = true ∧ nb = some ((s.tr t).reck.bound.getD 0))) :=
  ⟨reelOf { ReelRecord.none with state := .active, entries := [entryA, { entryA with mark := 2, block := 9, position := 4800 }] } (base calm (flying ∘ chanR .trail recD ∘ unused ∘ midTape) State.reset), .t0, recD, 3, 1, entryA, none, by decide⟩

theorem meets_DetectorReports_5b :
    ∃ (s : State) (t : Tr) (r : RecordInProgress) (b : Nat) (f : Nat) (e : Entry) (nb : Option Nat), s.powered = true ∧ s.Settled t ∧ (s.tr t).chan.phase = .trail ∧ (s.tr t).chan.record = some r ∧ 60 ≤ r.low ∧ (s.tr t).chan.activity = .listen ∧ 82 ≤ r.length ∧ r.dir = .forward ∧ (s.tr t).chan.handOver ≠ .handing ∧ (s.tr t).xfer.phase = .idle ∧ (s.tr t).loc.target = none ∧ r.stamp (s.reel t) = .decoded b f .data ∧ (s.reel t).state = .active ∧ findBlock (s.reel t).entries b = some e ∧ e.kind ≠ .file ∧ 0 ≤ r.start ∧ b < 16777215 ∧ 1 ≤ f ∧ f ≤ 65535 ∧ (((s.tr t).reck.anchor = .anchored ∧ (e.bound ≠ none ∨ 40 < (r.start - e.position).natAbs) ∧ nb = none) ∨
      ((s.tr t).reck.anchor = .drifted ∧ e.bound.any ((s.tr t).reck.bound.getD 0 < ·) = true ∧ nb = some ((s.tr t).reck.bound.getD 0))) :=
  ⟨reelOf { ReelRecord.none with state := .active, entries := [{ entryA with bound := some 900 }] } (base calm (flying ∘ chanR .trail recD ∘ unused ∘ driftT) State.reset), .t0, recD, 3, 1, { entryA with bound := some 900 }, some 400, by decide⟩

theorem meets_DetectorReports_6 :
    ∃ (s : State) (t : Tr) (r : RecordInProgress) (b : Nat) (f : Nat) (e : Entry), s.powered = true ∧ s.Settled t ∧ (s.tr t).chan.phase = .trail ∧ (s.tr t).chan.record = some r ∧ 60 ≤ r.low ∧ (s.tr t).chan.activity = .listen ∧ 82 ≤ r.length ∧ r.dir = .forward ∧ (s.tr t).chan.handOver ≠ .handing ∧ (s.tr t).xfer.phase = .idle ∧ (s.tr t).loc.target = none ∧ r.stamp (s.reel t) = .decoded b f .data ∧ (s.reel t).state = .active ∧ findBlock (s.reel t).entries b = some e ∧ e.kind ≠ .file ∧ b < 16777215 ∧ 1 ≤ f ∧ f ≤ 65535 ∧ (s.tr t).reck.anchor = .drifted ∧ e.bound.getD 0 < (s.tr t).reck.bound.getD 0 ∧ positionMin ≤ (s.tr t).reck.position + (e.position - r.start) ∧ (s.tr t).reck.position + (e.position - r.start) ≤ positionMax :=
  ⟨mapA (base calm (flying ∘ chanR .trail recD ∘ unused ∘ driftT) State.reset), .t0, recD, 3, 1, entryA, by decide⟩

theorem meets_DetectorReports_7a :
    ∃ (s : State) (t : Tr) (r : RecordInProgress) (b : Nat) (f : Nat), s.powered = true ∧ s.Settled t ∧ (s.tr t).chan.phase = .trail ∧ (s.tr t).chan.record = some r ∧ 60 ≤ r.low ∧ (s.tr t).chan.activity = .listen ∧ 82 ≤ r.length ∧ r.dir = .forward ∧ (s.tr t).chan.handOver ≠ .handing ∧ (s.tr t).xfer.phase = .idle ∧ (s.tr t).loc.target = none ∧ r.stamp (s.reel t) = .decoded b f .fileMark ∧ (s.reel t).state = .active ∧ (s.reel t).autoFile = true ∧ findBlock (s.reel t).entries b = none ∧ b < 16777215 ∧ 1 ≤ f ∧ (s.tr t).reck.anchor ≠ .lost ∧ f ≤ 15535 ∧ (b < (s.reel t).eod.getD 16777215) ∧ 1 ≤ s.store.poolFree ∧ (s.reel t).entries.length < 1024 ∧ 0 ≤ r.start :=
  ⟨reelOf { ReelRecord.none with state := .active, autoFile := true, entries := [fileA] } (emptied (base calm (flying ∘ chanR .trail recF ∘ unused ∘ midTape) State.reset)), .t0, recF, 3, 1, by decide⟩

theorem meets_DetectorReports_7b :
    ∃ (s : State) (t : Tr) (r : RecordInProgress) (b : Nat) (f : Nat), s.powered = true ∧ s.Settled t ∧ (s.tr t).chan.phase = .trail ∧ (s.tr t).chan.record = some r ∧ 60 ≤ r.low ∧ (s.tr t).chan.activity = .listen ∧ 82 ≤ r.length ∧ r.dir = .forward ∧ (s.tr t).chan.handOver ≠ .handing ∧ (s.tr t).xfer.phase = .idle ∧ (s.tr t).loc.target = none ∧ r.stamp (s.reel t) = .decoded b f .fileMark ∧ (s.reel t).state = .active ∧ (s.reel t).autoFile = true ∧ findBlock (s.reel t).entries b = none ∧ b < 16777215 ∧ 1 ≤ f ∧ (s.tr t).reck.anchor ≠ .lost ∧ f ≤ 15535 ∧ (b < (s.reel t).eod.getD 16777215) ∧ 1 ≤ s.store.poolFree ∧ (s.reel t).entries.length < 1024 ∧ 0 ≤ r.start :=
  ⟨reelOf { ReelRecord.none with state := .active, autoFile := true, eod := some 4 } (emptied (base calm (flying ∘ chanR .trail recF ∘ unused ∘ driftT) State.reset)), .t0, recF, 3, 1, by decide⟩

theorem meets_DetectorReports_8a :
    ∃ (s : State) (t : Tr) (r : RecordInProgress) (b : Nat) (f : Nat), s.powered = true ∧ s.Settled t ∧ (s.tr t).chan.phase = .trail ∧ (s.tr t).chan.record = some r ∧ 60 ≤ r.low ∧ (s.tr t).chan.activity = .listen ∧ 82 ≤ r.length ∧ r.dir = .forward ∧ (s.tr t).chan.handOver ≠ .handing ∧ (s.tr t).xfer.phase = .idle ∧ (s.tr t).loc.target = none ∧ r.stamp (s.reel t) = .decoded b f .fileMark ∧ (s.reel t).state = .active ∧ (s.reel t).autoFile = true ∧ findBlock (s.reel t).entries b = none ∧ b < 16777215 ∧ 1 ≤ f ∧ f < 65535 ∧ ((s.tr t).reck.anchor = .lost ∨ 15535 < f ∨ (s.reel t).eod.any (· ≤ b) = true) :=
  ⟨reelOf { ReelRecord.none with state := .active, autoFile := true, eod := some 3 } (base calm (flying ∘ chanR .trail recF ∘ unused ∘ midTape) State.reset), .t0, recF, 3, 1, by decide⟩

theorem meets_DetectorReports_8b :
    ∃ (s : State) (t : Tr) (r : RecordInProgress) (b : Nat) (f : Nat), s.powered = true ∧ s.Settled t ∧ (s.tr t).chan.phase = .trail ∧ (s.tr t).chan.record = some r ∧ 60 ≤ r.low ∧ (s.tr t).chan.activity = .listen ∧ 82 ≤ r.length ∧ r.dir = .forward ∧ (s.tr t).chan.handOver ≠ .handing ∧ (s.tr t).xfer.phase = .idle ∧ (s.tr t).loc.target = none ∧ r.stamp (s.reel t) = .decoded b f .fileMark ∧ (s.reel t).state = .active ∧ (s.reel t).autoFile = true ∧ findBlock (s.reel t).entries b = none ∧ b < 16777215 ∧ 1 ≤ f ∧ f < 65535 ∧ ((s.tr t).reck.anchor = .lost ∨ 15535 < f ∨ (s.reel t).eod.any (· ≤ b) = true) :=
  ⟨reelOf { ReelRecord.none with state := .active, autoFile := true } (base calm (flying ∘ chanR .trail recF ∘ unused ∘ lostT) State.reset), .t0, recF, 3, 1, by decide⟩

theorem meets_DetectorReports_9a :
    ∃ (s : State) (t : Tr) (r : RecordInProgress) (nt : Bool) (j : Option Condition), s.powered = true ∧ s.Settled t ∧ (s.tr t).chan.phase = .trail ∧ (s.tr t).chan.record = some r ∧ 60 ≤ r.low ∧ (s.tr t).chan.activity = .listen ∧ 82 ≤ r.length ∧ r.dir = .forward ∧ (s.reel t).state ≠ .active ∧ (s.tr t).loc.target = none ∧ (s.tr t).chan.handOver = (if nt then .off else .handing) ∧ (s.tr t).xfer.order = .read nt ∧ (s.tr t).xfer.phase = .running ∧ (s.tr t).xfer.skipFirst = false ∧ (s.tr t).xfer.held = none ∧ (s.tr t).xfer.quiet = false ∧ 1 ≤ (s.tr t).drive.active.threshold ∧ ((((r.passage (s.reel t)).decoded.map (·.2.2) = some .fileMark ∨
      ((r.passage (s.reel t)).decoded = none ∧ r.length < 84 ∧ (r.passage (s.reel t)).dataLength.getD 0 = 0)) ∧ j = some .fileMark) ∨
      (¬((r.passage (s.reel t)).decoded.map (·.2.2) = some .fileMark ∨
      ((r.passage (s.reel t)).decoded = none ∧ r.length < 84 ∧ (r.passage (s.reel t)).dataLength.getD 0 = 0)) ∧ r.check ≠ .good ∧ j = some .dataCheck) ∨ (¬((r.passage (s.reel t)).decoded.map (·.2.2) = some .fileMark ∨
      ((r.passage (s.reel t)).decoded = none ∧ r.length < 84 ∧ (r.passage (s.reel t)).dataLength.getD 0 = 0)) ∧ r.check = .good ∧ j = none)) ∧ (s.tr t).drive.phase = .run ∧ (s.tr t).drive.stopKind = .none ∧ (s.tr t).drive.active.h ≠ 0 ∧ (s.tr t).chan.blankWatch.all (·.1 = .transfer) = true ∧ (j.isSome = true ∨ (s.tr t).xfer.recordsLeft ≤ 1 ∨ (nt = false ∧ (s.tr t).xfer.roomLeft = 0)) :=
  ⟨reelOf ReelRecord.none (base calm (flying ∘ readOn false recBad 2 ∘ running ∘ ready ∘ midTape) State.reset), .t0, recBad, false, some .dataCheck, by decide⟩

theorem meets_DetectorReports_9b :
    ∃ (s : State) (t : Tr) (r : RecordInProgress) (nt : Bool) (j : Option Condition), s.powered = true ∧ s.Settled t ∧ (s.tr t).chan.phase = .trail ∧ (s.tr t).chan.record = some r ∧ 60 ≤ r.low ∧ (s.tr t).chan.activity = .listen ∧ 82 ≤ r.length ∧ r.dir = .forward ∧ (s.reel t).state ≠ .active ∧ (s.tr t).loc.target = none ∧ (s.tr t).chan.handOver = (if nt then .off else .handing) ∧ (s.tr t).xfer.order = .read nt ∧ (s.tr t).xfer.phase = .running ∧ (s.tr t).xfer.skipFirst = false ∧ (s.tr t).xfer.held = none ∧ (s.tr t).xfer.quiet = false ∧ 1 ≤ (s.tr t).drive.active.threshold ∧ ((((r.passage (s.reel t)).decoded.map (·.2.2) = some .fileMark ∨
      ((r.passage (s.reel t)).decoded = none ∧ r.length < 84 ∧ (r.passage (s.reel t)).dataLength.getD 0 = 0)) ∧ j = some .fileMark) ∨
      (¬((r.passage (s.reel t)).decoded.map (·.2.2) = some .fileMark ∨
      ((r.passage (s.reel t)).decoded = none ∧ r.length < 84 ∧ (r.passage (s.reel t)).dataLength.getD 0 = 0)) ∧ r.check ≠ .good ∧ j = some .dataCheck) ∨ (¬((r.passage (s.reel t)).decoded.map (·.2.2) = some .fileMark ∨
      ((r.passage (s.reel t)).decoded = none ∧ r.length < 84 ∧ (r.passage (s.reel t)).dataLength.getD 0 = 0)) ∧ r.check = .good ∧ j = none)) ∧ (s.tr t).drive.phase = .run ∧ (s.tr t).drive.stopKind = .none ∧ (s.tr t).drive.active.h ≠ 0 ∧ (s.tr t).chan.blankWatch.all (·.1 = .transfer) = true ∧ (j.isSome = true ∨ (s.tr t).xfer.recordsLeft ≤ 1 ∨ (nt = false ∧ (s.tr t).xfer.roomLeft = 0)) :=
  ⟨reelOf ReelRecord.none (base calm (flying ∘ readOn true recF 2 ∘ running ∘ ready ∘ midTape) State.reset), .t0, recF, true, some .fileMark, by decide⟩

theorem meets_DetectorReports_9c :
    ∃ (s : State) (t : Tr) (r : RecordInProgress) (nt : Bool) (j : Option Condition), s.powered = true ∧ s.Settled t ∧ (s.tr t).chan.phase = .trail ∧ (s.tr t).chan.record = some r ∧ 60 ≤ r.low ∧ (s.tr t).chan.activity = .listen ∧ 82 ≤ r.length ∧ r.dir = .forward ∧ (s.reel t).state ≠ .active ∧ (s.tr t).loc.target = none ∧ (s.tr t).chan.handOver = (if nt then .off else .handing) ∧ (s.tr t).xfer.order = .read nt ∧ (s.tr t).xfer.phase = .running ∧ (s.tr t).xfer.skipFirst = false ∧ (s.tr t).xfer.held = none ∧ (s.tr t).xfer.quiet = false ∧ 1 ≤ (s.tr t).drive.active.threshold ∧ ((((r.passage (s.reel t)).decoded.map (·.2.2) = some .fileMark ∨
      ((r.passage (s.reel t)).decoded = none ∧ r.length < 84 ∧ (r.passage (s.reel t)).dataLength.getD 0 = 0)) ∧ j = some .fileMark) ∨
      (¬((r.passage (s.reel t)).decoded.map (·.2.2) = some .fileMark ∨
      ((r.passage (s.reel t)).decoded = none ∧ r.length < 84 ∧ (r.passage (s.reel t)).dataLength.getD 0 = 0)) ∧ r.check ≠ .good ∧ j = some .dataCheck) ∨ (¬((r.passage (s.reel t)).decoded.map (·.2.2) = some .fileMark ∨
      ((r.passage (s.reel t)).decoded = none ∧ r.length < 84 ∧ (r.passage (s.reel t)).dataLength.getD 0 = 0)) ∧ r.check = .good ∧ j = none)) ∧ (s.tr t).drive.phase = .run ∧ (s.tr t).drive.stopKind = .none ∧ (s.tr t).drive.active.h ≠ 0 ∧ (s.tr t).chan.blankWatch.all (·.1 = .transfer) = true ∧ (j.isSome = true ∨ (s.tr t).xfer.recordsLeft ≤ 1 ∨ (nt = false ∧ (s.tr t).xfer.roomLeft = 0)) :=
  ⟨reelOf ReelRecord.none (base calm (flying ∘ readOn false recD 1 ∘ running ∘ ready ∘ midTape) State.reset), .t0, recD, false, none, by decide⟩

theorem meets_DetectorReports_10 :
    ∃ (s : State) (t : Tr) (r : RecordInProgress) (nt : Bool) (j : Option Condition), s.powered = true ∧ s.Settled t ∧ (s.tr t).chan.phase = .trail ∧ (s.tr t).chan.record = some r ∧ 60 ≤ r.low ∧ (s.tr t).chan.activity = .listen ∧ 82 ≤ r.length ∧ r.dir = .forward ∧ (s.reel t).state ≠ .active ∧ (s.tr t).loc.target = none ∧ (s.tr t).chan.handOver = (if nt then .off else .handing) ∧ (s.tr t).xfer.order = .read nt ∧ (s.tr t).xfer.phase = .running ∧ (s.tr t).xfer.skipFirst = false ∧ (s.tr t).xfer.held = none ∧ (s.tr t).xfer.quiet = false ∧ 1 ≤ (s.tr t).drive.active.threshold ∧ ((((r.passage (s.reel t)).decoded.map (·.2.2) = some .fileMark ∨
      ((r.passage (s.reel t)).decoded = none ∧ r.length < 84 ∧ (r.passage (s.reel t)).dataLength.getD 0 = 0)) ∧ j = some .fileMark) ∨
      (¬((r.passage (s.reel t)).decoded.map (·.2.2) = some .fileMark ∨
      ((r.passage (s.reel t)).decoded = none ∧ r.length < 84 ∧ (r.passage (s.reel t)).dataLength.getD 0 = 0)) ∧ r.check ≠ .good ∧ j = some .dataCheck) ∨ (¬((r.passage (s.reel t)).decoded.map (·.2.2) = some .fileMark ∨
      ((r.passage (s.reel t)).decoded = none ∧ r.length < 84 ∧ (r.passage (s.reel t)).dataLength.getD 0 = 0)) ∧ r.check = .good ∧ j = none)) ∧ j = none ∧ 2 ≤ (s.tr t).xfer.recordsLeft ∧ (nt = true ∨ (s.tr t).xfer.roomLeft ≠ 0) :=
  ⟨reelOf ReelRecord.none (base calm (flying ∘ readOn false recD 2 ∘ running ∘ ready ∘ midTape) State.reset), .t0, recD, false, none, by decide⟩

theorem meets_DetectorReports_11 :
    ∃ (s : State) (t : Tr) (n : Nat), s.powered = true ∧ s.Settled t ∧ (s.tr t).chan.blankWatch = some (.transfer, n) ∧ 60000 ≤ n ∧ (s.tr t).xfer.phase = .running ∧ (s.tr t).drive.phase = .run :=
  ⟨base calm (blankT ∘ running ∘ ready ∘ unused) State.reset, .t0, 60000, by decide⟩

theorem meets_WritingSteps_1 :
    ∃ (s : State) (t : Tr) (f : Formation), s.powered = true ∧ s.Settled t ∧ (s.tr t).chan.formation = some f ∧ (s.tr t).chan.activity = .erasing ∧ f.phase = .waiting ∧ f.due = true :=
  ⟨base calm (formT .erasing { formA with phase := .waiting, due := true }) State.reset, .t0, { formA with phase := .waiting, due := true }, by decide⟩

theorem meets_WritingSteps_2 :
    ∃ (s : State) (t : Tr) (f : Formation), s.powered = true ∧ s.Settled t ∧ (s.tr t).chan.formation = some f ∧ f.phase = .postamble ∧ 40 ≤ f.ambleSteps :=
  ⟨base calm (formT .forming { formA with phase := .postamble, ambleSteps := 40 }) State.reset, .t0, { formA with phase := .postamble, ambleSteps := 40 }, by decide⟩

theorem meets_WritingSteps_3a :
    ∃ (s : State) (t : Tr) (f : Formation) (n : Nat), s.powered = true ∧ s.Settled t ∧ (s.tr t).chan.formation = some f ∧ f.phase = .after ∧ 60 ≤ f.ambleSteps ∧ f.fill = false ∧ f.cut = false ∧ (s.tr t).xfer.phase = .writing ∧ (s.tr t).drive.phase = .run ∧ (s.tr t).drive.stopKind = .none ∧ 0 < (s.tr t).drive.active.h ∧ (s.tr t).Working ∧ (s.reel t).state = .active ∧ f.kind = .data ∧ f.file ≤ 65535 ∧ (s.tr t).xfer.order = .write n ∧ (s.tr t).xfer.resultBytes ≤ 65535 :=
  ⟨reelOf { ReelRecord.none with state := .active } (base calm (flying ∘ formT .erasing formA ∘ writingT ∘ running ∘ ready) State.reset), .t0, formA, 80, by decide⟩

theorem meets_WritingSteps_3b :
    ∃ (s : State) (t : Tr) (f : Formation) (n : Nat), s.powered = true ∧ s.Settled t ∧ (s.tr t).chan.formation = some f ∧ f.phase = .after ∧ 60 ≤ f.ambleSteps ∧ f.fill = false ∧ f.cut = false ∧ (s.tr t).xfer.phase = .writing ∧ (s.tr t).drive.phase = .run ∧ (s.tr t).drive.stopKind = .none ∧ 0 < (s.tr t).drive.active.h ∧ (s.tr t).Working ∧ (s.reel t).state = .active ∧ f.kind = .data ∧ f.file ≤ 65535 ∧ (s.tr t).xfer.order = .write n ∧ (s.tr t).xfer.resultBytes ≤ 65535 :=
  ⟨reelOf { ReelRecord.none with state := .active } (base calm (flying ∘ formT .erasing { formA with readBackGood := false } ∘ writingT ∘ running ∘ ready) State.reset), .t0, { formA with readBackGood := false }, 80, by decide⟩

theorem meets_WritingSteps_3c :
    ∃ (s : State) (t : Tr) (f : Formation) (n : Nat), s.powered = true ∧ s.Settled t ∧ (s.tr t).chan.formation = some f ∧ f.phase = .after ∧ 60 ≤ f.ambleSteps ∧ f.fill = false ∧ f.cut = false ∧ (s.tr t).xfer.phase = .writing ∧ (s.tr t).drive.phase = .run ∧ (s.tr t).drive.stopKind = .none ∧ 0 < (s.tr t).drive.active.h ∧ (s.tr t).Working ∧ (s.reel t).state = .active ∧ f.kind = .data ∧ f.file ≤ 65535 ∧ (s.tr t).xfer.order = .write n ∧ (s.tr t).xfer.resultBytes ≤ 65535 :=
  ⟨mapA (base calm (flying ∘ formT .erasing { formA with block := 2 } ∘ writingT ∘ running ∘ ready) State.reset), .t0, { formA with block := 2 }, 80, by decide⟩

theorem meets_WritingSteps_4a :
    ∃ (s : State) (t : Tr) (f : Formation), s.powered = true ∧ s.Settled t ∧ (s.tr t).chan.formation = some f ∧ f.phase = .after ∧ 60 ≤ f.ambleSteps ∧ f.fill = false ∧ f.cut = false ∧ (s.tr t).xfer.phase = .writing ∧ (s.tr t).drive.phase = .run ∧ (s.tr t).drive.stopKind = .none ∧ 0 < (s.tr t).drive.active.h ∧ (s.tr t).Working ∧ (s.reel t).state = .active ∧ f.kind = .fileMark ∧ (s.tr t).xfer.order = .writeFileMark ∧ (∀ g ∈ (s.reel t).entries, g.block < f.block) ∧ (s.reel t).autoFile = true ∧ f.file ≤ 15535 ∧ f.block < 16777215 ∧ f.readBack = .good ∧ (s.tr t).reck.anchor ≠ .lost ∧ 1 ≤ s.store.poolFree ∧ (s.reel t).entries.length < 1024 ∧ 0 ≤ f.start :=
  ⟨reelOf { ReelRecord.none with state := .active, autoFile := true, entries := [fileA, { entryA with position := 4900 }] } (emptied (base calm (flying ∘ formT .erasing markA ∘ markingT ∘ running ∘ ready ∘ midTape) State.reset)), .t0, markA, by decide⟩

theorem meets_WritingSteps_4b :
    ∃ (s : State) (t : Tr) (f : Formation), s.powered = true ∧ s.Settled t ∧ (s.tr t).chan.formation = some f ∧ f.phase = .after ∧ 60 ≤ f.ambleSteps ∧ f.fill = false ∧ f.cut = false ∧ (s.tr t).xfer.phase = .writing ∧ (s.tr t).drive.phase = .run ∧ (s.tr t).drive.stopKind = .none ∧ 0 < (s.tr t).drive.active.h ∧ (s.tr t).Working ∧ (s.reel t).state = .active ∧ f.kind = .fileMark ∧ (s.tr t).xfer.order = .writeFileMark ∧ (∀ g ∈ (s.reel t).entries, g.block < f.block) ∧ (s.reel t).autoFile = true ∧ f.file ≤ 15535 ∧ f.block < 16777215 ∧ f.readBack = .good ∧ (s.tr t).reck.anchor ≠ .lost ∧ 1 ≤ s.store.poolFree ∧ (s.reel t).entries.length < 1024 ∧ 0 ≤ f.start :=
  ⟨reelOf { ReelRecord.none with state := .active, autoFile := true } (emptied (base calm (flying ∘ formT .erasing markA ∘ markingT ∘ running ∘ ready ∘ driftT) State.reset)), .t0, markA, by decide⟩

theorem meets_WritingSteps_5a :
    ∃ (s : State) (t : Tr) (f : Formation), s.powered = true ∧ s.Settled t ∧ (s.tr t).chan.formation = some f ∧ f.phase = .after ∧ 60 ≤ f.ambleSteps ∧ f.fill = false ∧ f.cut = false ∧ (s.tr t).xfer.phase = .writing ∧ (s.tr t).drive.phase = .run ∧ (s.tr t).drive.stopKind = .none ∧ 0 < (s.tr t).drive.active.h ∧ (s.tr t).Working ∧ (s.reel t).state = .active ∧ f.kind = .fileMark ∧ (s.tr t).xfer.order = .writeFileMark ∧ (∀ g ∈ (s.reel t).entries, g.block < f.block) ∧ (s.reel t).autoFile = true ∧ f.file < 65535 ∧ (f.readBack ≠ .good ∨ (s.tr t).reck.anchor = .lost ∨ 15535 < f.file) :=
  ⟨reelOf { ReelRecord.none with state := .active, autoFile := true } (base calm (flying ∘ formT .erasing { markA with readBackGood := false } ∘ markingT ∘ running ∘ ready) State.reset), .t0, { markA with readBackGood := false }, by decide⟩

theorem meets_WritingSteps_5b :
    ∃ (s : State) (t : Tr) (f : Formation), s.powered = true ∧ s.Settled t ∧ (s.tr t).chan.formation = some f ∧ f.phase = .after ∧ 60 ≤ f.ambleSteps ∧ f.fill = false ∧ f.cut = false ∧ (s.tr t).xfer.phase = .writing ∧ (s.tr t).drive.phase = .run ∧ (s.tr t).drive.stopKind = .none ∧ 0 < (s.tr t).drive.active.h ∧ (s.tr t).Working ∧ (s.reel t).state = .active ∧ f.kind = .fileMark ∧ (s.tr t).xfer.order = .writeFileMark ∧ (∀ g ∈ (s.reel t).entries, g.block < f.block) ∧ (s.reel t).autoFile = true ∧ f.file < 65535 ∧ (f.readBack ≠ .good ∨ (s.tr t).reck.anchor = .lost ∨ 15535 < f.file) :=
  ⟨reelOf { ReelRecord.none with state := .active, autoFile := true } (base calm (flying ∘ formT .erasing markA ∘ markingT ∘ running ∘ ready ∘ lostT) State.reset), .t0, markA, by decide⟩

theorem meets_WritingSteps_5c :
    ∃ (s : State) (t : Tr) (f : Formation), s.powered = true ∧ s.Settled t ∧ (s.tr t).chan.formation = some f ∧ f.phase = .after ∧ 60 ≤ f.ambleSteps ∧ f.fill = false ∧ f.cut = false ∧ (s.tr t).xfer.phase = .writing ∧ (s.tr t).drive.phase = .run ∧ (s.tr t).drive.stopKind = .none ∧ 0 < (s.tr t).drive.active.h ∧ (s.tr t).Working ∧ (s.reel t).state = .active ∧ f.kind = .fileMark ∧ (s.tr t).xfer.order = .writeFileMark ∧ (∀ g ∈ (s.reel t).entries, g.block < f.block) ∧ (s.reel t).autoFile = true ∧ f.file < 65535 ∧ (f.readBack ≠ .good ∨ (s.tr t).reck.anchor = .lost ∨ 15535 < f.file) :=
  ⟨reelOf { ReelRecord.none with state := .active, autoFile := true } (base calm (flying ∘ formT .erasing { markA with file := 15536 } ∘ markingT ∘ running ∘ ready) State.reset), .t0, { markA with file := 15536 }, by decide⟩

theorem meets_ReadAndSpaceStart_1a :
    ∃ (s : State) (t : Tr) (c : OrderCopy), (s.tr t).ReadyStanding ∧ (s.tr t).Unused ∧ 0 < (s.tr t).drive.active.threshold ∧ s.Awaits t 6 c ∧ (c.opC ≠ 0 ∨ c.modifier 8 = true) :=
  ⟨orderC { copyC 6 with w6 := 80 } (threshT ∘ ready ∘ unused) State.reset, .t0, { copyC 6 with w6 := 80 }, by decide⟩

theorem meets_ReadAndSpaceStart_1b :
    ∃ (s : State) (t : Tr) (c : OrderCopy), (s.tr t).ReadyStanding ∧ (s.tr t).Unused ∧ 0 < (s.tr t).drive.active.threshold ∧ s.Awaits t 6 c ∧ (c.opC ≠ 0 ∨ c.modifier 8 = true) :=
  ⟨orderC (copyC 0x0106) (threshT ∘ ready ∘ unused) State.reset, .t0, copyC 0x0106, by decide⟩

theorem meets_ReadAndSpaceStart_2 :
    ∃ (s : State) (t : Tr) (c : OrderCopy), (s.tr t).ReadyStanding ∧ (s.tr t).Unused ∧ 0 < (s.tr t).drive.active.threshold ∧ s.Awaits t 10 c ∧ c.opA ≠ 0 :=
  ⟨orderC { copyC 0x010A with w1 := 2 } (threshT ∘ ready ∘ unused) State.reset, .t0, { copyC 0x010A with w1 := 2 }, by decide⟩

theorem meets_ReadAndSpaceStart_3 :
    ∃ (s : State) (t : Tr) (c : OrderCopy), (s.tr t).ReadyStanding ∧ (s.tr t).Unused ∧ 0 < (s.tr t).drive.active.threshold ∧ s.Awaits t 11 c ∧ c.opA ≠ 0 ∧ (s.tr t).reck.atLoadPoint = false :=
  ⟨orderC { copyC 11 with w1 := 2 } (threshT ∘ ready ∘ unused ∘ midTape) State.reset, .t0, { copyC 11 with w1 := 2 }, by decide⟩

theorem meets_WritesStart_1 :
    ∃ (s : State) (t : Tr) (c : OrderCopy), (s.tr t).ReadyStanding ∧ (s.tr t).Unused ∧ (s.tr t).sense.writeRing.level = true ∧ s.dataBusy t = false ∧ s.Awaits t 7 c ∧ 1 ≤ c.opC ∧ (s.reel t).state = .active ∧ (s.tr t).reck.nextKnown = true ∧ (s.tr t).reck.nextBlock ≠ 16777215 :=
  ⟨free0 (reelOf { ReelRecord.none with state := .active, entries := [{ entryA with block := 8 }] } (orderC { copyC 7 with w6 := 80 } (ready ∘ unused ∘ midTape ∘ sw true) State.reset)), .t0, { copyC 7 with w6 := 80 }, by decide⟩

theorem meets_WritesStart_2 :
    ∃ (s : State) (t : Tr) (c : OrderCopy), (s.tr t).ReadyStanding ∧ (s.tr t).Unused ∧ (s.tr t).sense.writeRing.level = true ∧ s.dataBusy t = false ∧ s.Awaits t 8 c ∧ (s.reel t).state = .active ∧ (s.tr t).reck.nextKnown = true ∧ (s.tr t).reck.nextBlock ≠ 16777215 :=
  ⟨free0 (reelOf { ReelRecord.none with state := .active, entries := [entryA] } (order 8 (ready ∘ unused ∘ midTape ∘ sw true) State.reset)), .t0, copyC 8, by decide⟩

theorem meets_WritesStart_3 :
    ∃ (s : State) (t : Tr) (c : OrderCopy), (s.tr t).ReadyStanding ∧ (s.tr t).Unused ∧ (s.tr t).sense.writeRing.level = true ∧ s.dataBusy t = false ∧ s.Awaits t 9 c ∧ (s.reel t).state = .active ∧ (s.tr t).reck.nextKnown = true ∧ (s.tr t).reck.nextBlock ≠ 16777215 ∧ 1 ≤ c.opB ∧ c.opB ≤ 200000 :=
  ⟨free0 (reelOf { ReelRecord.none with state := .active } (orderC { copyC 9 with w2 := 3, w3 := 3392 } (ready ∘ unused ∘ midTape ∘ sw true) State.reset)), .t0, { copyC 9 with w2 := 3, w3 := 3392 }, by decide⟩

theorem meets_WritesStart_4 :
    ∃ (s : State) (t : Tr) (c : OrderCopy), (s.tr t).ReadyStanding ∧ (s.tr t).Unused ∧ (s.tr t).sense.writeRing.level = true ∧ s.dataBusy t = false ∧ s.Awaits t 9 c ∧ (s.reel t).state = .active ∧ (s.tr t).reck.nextKnown = false ∧ 1 ≤ c.opB ∧ c.opB ≤ 200000 :=
  ⟨free0 (reelOf { ReelRecord.none with state := .active, entries := [entryA] } (orderC { copyC 9 with w3 := 1 } (ready ∘ unused ∘ noSeq ∘ sw true) State.reset)), .t0, { copyC 9 with w3 := 1 }, by decide⟩

theorem meets_WritesStart_5a :
    ∃ (s : State) (t : Tr) (c : OrderCopy), (s.tr t).ReadyStanding ∧ (s.tr t).Unused ∧ (s.tr t).sense.writeRing.level = true ∧ s.dataBusy t = false ∧ s.Awaits t 7 c ∧ 1 ≤ c.opC ∧ (s.reel t).state ≠ .active ∧ (s.tr t).reck.nextKnown = true ∧ (s.tr t).reck.nextBlock ≠ 16777215 :=
  ⟨free0 (reelOf { ReelRecord.none with state := .held, entries := [entryA] } (orderC { copyC 7 with w6 := 80 } (ready ∘ unused ∘ midTape ∘ sw true) State.reset)), .t0, { copyC 7 with w6 := 80 }, by decide⟩

theorem meets_WritesStart_5b :
    ∃ (s : State) (t : Tr) (c : OrderCopy), (s.tr t).ReadyStanding ∧ (s.tr t).Unused ∧ (s.tr t).sense.writeRing.level = true ∧ s.dataBusy t = false ∧ s.Awaits t 7 c ∧ 1 ≤ c.opC ∧ (s.reel t).state ≠ .active ∧ (s.tr t).reck.nextKnown = true ∧ (s.tr t).reck.nextBlock ≠ 16777215 :=
  ⟨free0 (reelOf .none (orderC { copyC 7 with w6 := 80 } (ready ∘ unused ∘ midTape ∘ sw true) State.reset)), .t0, { copyC 7 with w6 := 80 }, by decide⟩

theorem meets_WritesStart_6 :
    ∃ (s : State) (t : Tr) (c : OrderCopy), (s.tr t).ReadyStanding ∧ (s.tr t).Unused ∧ (s.tr t).sense.writeRing.level = true ∧ s.dataBusy t = false ∧ s.Awaits t 8 c ∧ (s.reel t).state ≠ .active ∧ (s.tr t).reck.nextKnown = true ∧ (s.tr t).reck.nextBlock ≠ 16777215 :=
  ⟨free0 (reelOf { ReelRecord.none with state := .held, entries := [entryA] } (order 8 (ready ∘ unused ∘ midTape ∘ sw true) State.reset)), .t0, copyC 8, by decide⟩

theorem meets_WritesStart_7a :
    ∃ (s : State) (t : Tr) (c : OrderCopy), (s.tr t).ReadyStanding ∧ (s.tr t).Unused ∧ (s.tr t).sense.writeRing.level = true ∧ s.dataBusy t = false ∧ s.Awaits t 9 c ∧ (s.reel t).state ≠ .active ∧ 1 ≤ c.opB ∧ c.opB ≤ 200000 :=
  ⟨free0 (reelOf { ReelRecord.none with state := .held } (orderC { copyC 9 with w3 := 1 } (ready ∘ unused ∘ noSeq ∘ sw true) State.reset)), .t0, { copyC 9 with w3 := 1 }, by decide⟩

theorem meets_WritesStart_7b :
    ∃ (s : State) (t : Tr) (c : OrderCopy), (s.tr t).ReadyStanding ∧ (s.tr t).Unused ∧ (s.tr t).sense.writeRing.level = true ∧ s.dataBusy t = false ∧ s.Awaits t 9 c ∧ (s.reel t).state ≠ .active ∧ 1 ≤ c.opB ∧ c.opB ≤ 200000 :=
  ⟨free0 (reelOf .none (orderC { copyC 9 with w3 := 1 } (ready ∘ unused ∘ midTape ∘ sw true) State.reset)), .t0, { copyC 9 with w3 := 1 }, by decide⟩

theorem meets_DataBursts_1 :
    ∃ (s : State) (t : Tr) (x : BusTransfer), (s.tr t).xfer.quiet = false ∧ s.Writes t x .readBurst ∧ (s.tr t).xfer.order = .read false ∧ (s.tr t).xfer.fifo = [] ∧ 0 < (s.tr t).drive.active.threshold :=
  ⟨busy { termX with kind := .readBurst, sizes := [2, 2, 2, 2, 1] } (base calm (threshT ∘ xferT (.read false)) State.reset), .t0, { termX with kind := .readBurst, sizes := [2, 2, 2, 2, 1] }, by decide⟩

theorem meets_DataBursts_2 :
    ∃ (s : State) (t : Tr) (x : BusTransfer) (n : Nat) (ws : List Word), (s.tr t).xfer.quiet = false ∧ s.Reads t x .writeBurst ws ∧ (s.tr t).xfer.order = .write n ∧ (s.tr t).xfer.spilling = false ∧ (s.tr t).xfer.roomLeft ≤ 2 * ws.length :=
  ⟨busy { fetchX with kind := .writeBurst, length := 2 } (base calm (xferT (.write 3)) State.reset), .t0, { fetchX with kind := .writeBurst, length := 2 }, 3, [0x0102, 0x0300], by decide⟩

theorem meets_TransferEnds_1 :
    ∃ (s : State) (t : Tr) (b : Bool), s.powered = true ∧ s.Settled t ∧ (s.tr t).Working ∧ (s.tr t).xfer.order = .read b ∧ (s.tr t).xfer.phase = .draining ∧ (s.tr t).xfer.fifo = [] ∧ s.dataBusy t = false ∧ (s.tr t).xfer.resultBytes ≤ 65535 :=
  ⟨free0 (base calm (drainT ∘ xferT (.read false) ∘ flying) State.reset), .t0, false, by decide⟩

theorem meets_TransferEnds_2 :
    ∃ (s : State) (t : Tr) (n : Nat) (f : Formation), s.powered = true ∧ s.Settled t ∧ (s.tr t).Working ∧ (s.tr t).xfer.order = .write n ∧ (s.tr t).xfer.phase = .writing ∧ 3000 ≤ (s.tr t).xfer.gapExtension ∧ (s.tr t).chan.formation = some f ∧ f.phase = .waiting ∧ f.due = false ∧ (s.tr t).drive.phase = .run ∧ (s.tr t).drive.stopKind = .none ∧ 0 < (s.tr t).drive.active.h ∧ (s.tr t).xfer.resultBytes ≤ 65535 :=
  ⟨base calm (flying ∘ formT .erasing { formA with phase := .waiting } ∘ gapT ∘ writingT ∘ running ∘ ready) State.reset, .t0, 80, { formA with phase := .waiting }, by decide⟩

theorem meets_TransferEnds_3 :
    ∃ (s : State) (t : Tr) (n : Nat), s.powered = true ∧ s.Settled t ∧ (s.tr t).Working ∧ (s.tr t).xfer.order = .erase n ∧ (s.tr t).xfer.phase = .running ∧ n ≤ (s.tr t).xfer.erased ∧ (s.tr t).xfer.erased ≤ 65535 ∧ (s.tr t).chan.activity = .erasing ∧ (s.tr t).drive.phase = .run ∧ (s.tr t).drive.stopKind = .none ∧ 0 < (s.tr t).drive.active.h :=
  ⟨base calm (flying ∘ erasedT ∘ running ∘ ready) State.reset, .t0, 9, by decide⟩

theorem meets_LocateStarts_1a :
    ∃ (s : State) (t : Tr) (c : OrderCopy) (e : Entry), s.Awaits t 16 c ∧ (s.tr t).ReadyStanding ∧ (s.tr t).Unused ∧ c.opA ≠ 0 ∧ c.opA ≠ 50000 ∧ (s.reel t).state = .active ∧ (s.tr t).reck.anchor ≠ .lost ∧ findMark (s.reel t).entries c.opA = some e ∧ (s.tr t).reck.position ≤ e.position - 160 ∧ e.position - 160 - (4000 + ((s.tr t).reck.bound.getD 0 + e.bound.getD 0) : Nat) ≤ (s.tr t).reck.position :=
  ⟨reelOf { ReelRecord.none with state := .active, entries := [{ entryA with position := 9160 }] } (orderC { copyC 16 with w1 := 1 } (ready ∘ unused ∘ midTape) State.reset), .t0, { copyC 16 with w1 := 1 }, { entryA with position := 9160 }, by decide⟩

theorem meets_LocateStarts_1b :
    ∃ (s : State) (t : Tr) (c : OrderCopy) (e : Entry), s.Awaits t 16 c ∧ (s.tr t).ReadyStanding ∧ (s.tr t).Unused ∧ c.opA ≠ 0 ∧ c.opA ≠ 50000 ∧ (s.reel t).state = .active ∧ (s.tr t).reck.anchor ≠ .lost ∧ findMark (s.reel t).entries c.opA = some e ∧ (s.tr t).reck.position ≤ e.position - 160 ∧ e.position - 160 - (4000 + ((s.tr t).reck.bound.getD 0 + e.bound.getD 0) : Nat) ≤ (s.tr t).reck.position :=
  ⟨reelOf { ReelRecord.none with state := .active, entries := [{ entryA with position := 5160 }] } (orderC { copyC 16 with w1 := 1 } (ready ∘ unused ∘ midTape) State.reset), .t0, { copyC 16 with w1 := 1 }, { entryA with position := 5160 }, by decide⟩

theorem meets_LocateStarts_2 :
    ∃ (s : State) (t : Tr) (c : OrderCopy), s.Awaits t 16 c ∧ (s.tr t).ReadyStanding ∧ (s.tr t).Unused ∧ c.opA ≠ 0 ∧ c.opA ≠ 50000 ∧ (s.reel t).state = .active ∧ (s.tr t).reck.anchor ≠ .lost ∧ findMark (s.reel t).entries c.opA = none :=
  ⟨reelOf { ReelRecord.none with state := .active } (orderC { copyC 16 with w1 := 1 } (ready ∘ unused ∘ midTape) State.reset), .t0, { copyC 16 with w1 := 1 }, by decide⟩

theorem meets_LocateStarts_3a :
    ∃ (s : State) (t : Tr) (c : OrderCopy), s.Awaits t 17 c ∧ (s.tr t).ReadyStanding ∧ (s.tr t).Unused ∧ c.opB ≤ 16777214 ∧ (s.reel t).state ≠ .active ∧ (s.tr t).reck.anchor ≠ .lost ∧ (s.tr t).reck.nextKnown = true ∧ (s.tr t).reck.nextBlock ≤ c.opB :=
  ⟨reelOf .none (orderC { copyC 17 with w3 := 71 } (ready ∘ unused ∘ midTape) State.reset), .t0, { copyC 17 with w3 := 71 }, by decide⟩

theorem meets_LocateStarts_3b :
    ∃ (s : State) (t : Tr) (c : OrderCopy), s.Awaits t 17 c ∧ (s.tr t).ReadyStanding ∧ (s.tr t).Unused ∧ c.opB ≤ 16777214 ∧ (s.reel t).state ≠ .active ∧ (s.tr t).reck.anchor ≠ .lost ∧ (s.tr t).reck.nextKnown = true ∧ (s.tr t).reck.nextBlock ≤ c.opB :=
  ⟨reelOf .none (orderC { copyC 17 with w3 := 72 } (ready ∘ unused ∘ midTape) State.reset), .t0, { copyC 17 with w3 := 72 }, by decide⟩

theorem meets_LocateStarts_4 :
    ∃ (s : State) (t : Tr) (c : OrderCopy), s.Awaits t 18 c ∧ (s.tr t).ReadyStanding ∧ (s.tr t).Unused ∧ (s.tr t).reck.atLoadPoint = true :=
  ⟨order 18 (ready ∘ unused ∘ atLoad) State.reset, .t0, copyC 18, by decide⟩

theorem meets_LocateStarts_5 :
    ∃ (s : State) (t : Tr) (c : OrderCopy), s.Awaits t 18 c ∧ (s.tr t).ReadyStanding ∧ (s.tr t).Unused ∧ (s.tr t).reck.anchor ≠ .lost ∧ 100 < (s.tr t).reck.position ∧ (s.tr t).reck.position ≤ 200000 :=
  ⟨order 18 (ready ∘ unused ∘ midTape) State.reset, .t0, copyC 18, by decide⟩

theorem meets_LocateStarts_6 :
    ∃ (s : State) (t : Tr) (b : Nat), s.powered = true ∧ (s.tr t).loc.phase = .decode ∧ (s.tr t).loc.budget = some b ∧ b < (s.tr t).loc.travel ∧ (s.tr t).loc.failing = none ∧ (s.tr t).ctl.permission = .full ∧ (s.tr t).ctl.stopUnderWay = false ∧ (s.tr t).drive.phase = .run :=
  ⟨base calm (budgetT ∘ running ∘ ready) State.reset, .t0, 40000, by decide⟩

theorem meets_EnterMark_1a :
    ∃ (s : State) (t : Tr) (c : OrderCopy) (k : EntryKind) (l : LastBlock) (b : Nat), s.Awaits t 12 c ∧ s.Settled t ∧ (s.reel t).state = .active ∧ 1 ≤ c.opA ∧ c.opA ≤ 49999 ∧ kindOfField c.kindField = some k ∧ c.opB ≤ 65535 ∧ c.opC = 0 ∧ (s.tr t).reck.anchor ≠ .lost ∧ (s.tr t).reck.lastBlock = some l ∧ l.block = some b ∧ b ≠ 16777215 ∧ (s.reel t).eod.all (b < ·) = true ∧ lengthFits l c.opB = true ∧ findMark (s.reel t).entries c.opA = none ∧ (∀ e ∈ (s.reel t).entries, e.block ≠ b) ∧ 1 ≤ s.store.poolFree ∧ (s.reel t).entries.length < 1024 :=
  ⟨emptied (reelOf { ReelRecord.none with state := .active, entries := [entryA] } (orderC copyE (lastT 5000 ∘ ready ∘ midTape) State.reset)), .t0, copyE, .checkpoint, lastA 5000, 6, by decide⟩

theorem meets_EnterMark_1b :
    ∃ (s : State) (t : Tr) (c : OrderCopy) (k : EntryKind) (l : LastBlock) (b : Nat), s.Awaits t 12 c ∧ s.Settled t ∧ (s.reel t).state = .active ∧ 1 ≤ c.opA ∧ c.opA ≤ 49999 ∧ kindOfField c.kindField = some k ∧ c.opB ≤ 65535 ∧ c.opC = 0 ∧ (s.tr t).reck.anchor ≠ .lost ∧ (s.tr t).reck.lastBlock = some l ∧ l.block = some b ∧ b ≠ 16777215 ∧ (s.reel t).eod.all (b < ·) = true ∧ lengthFits l c.opB = true ∧ findMark (s.reel t).entries c.opA = none ∧ (∀ e ∈ (s.reel t).entries, e.block ≠ b) ∧ 1 ≤ s.store.poolFree ∧ (s.reel t).entries.length < 1024 :=
  ⟨emptied (reelOf { ReelRecord.none with state := .active, entries := [entryA], eod := some 7 } (orderC copyE (lastT (-5) ∘ ready ∘ midTape) State.reset)), .t0, copyE, .checkpoint, lastA (-5), 6, by decide⟩

theorem meets_EnterMark_2 :
    ∃ (s : State) (t : Tr) (c : OrderCopy) (k : EntryKind), s.Awaits t 12 c ∧ s.Settled t ∧ (s.reel t).state = .active ∧ 1 ≤ c.opA ∧ c.opA ≤ 49999 ∧ kindOfField c.kindField = some k ∧ c.opB ≤ 65535 ∧ c.opC = 0 ∧ (s.tr t).reck.anchor = .lost :=
  ⟨reelOf { ReelRecord.none with state := .active } (orderC copyE (ready ∘ lostT) State.reset), .t0, copyE, .checkpoint, by decide⟩

theorem meets_EnterMark_3 :
    ∃ (s : State) (t : Tr) (c : OrderCopy) (k : EntryKind), s.Awaits t 12 c ∧ s.Settled t ∧ (s.reel t).state = .active ∧ 1 ≤ c.opA ∧ c.opA ≤ 49999 ∧ kindOfField c.kindField = some k ∧ c.opB ≤ 65535 ∧ c.opC = 0 ∧ (s.tr t).reck.anchor ≠ .lost ∧ (s.tr t).reck.lastBlock = none :=
  ⟨reelOf { ReelRecord.none with state := .active } (orderC copyE (noLast ∘ ready ∘ midTape) State.reset), .t0, copyE, .checkpoint, by decide⟩

theorem meets_EnterMark_4 :
    ∃ (s : State) (t : Tr) (c : OrderCopy) (k : EntryKind) (l : LastBlock) (b : Nat), s.Awaits t 12 c ∧ s.Settled t ∧ (s.reel t).state = .active ∧ 1 ≤ c.opA ∧ c.opA ≤ 49999 ∧ kindOfField c.kindField = some k ∧ c.opB ≤ 65535 ∧ c.opC = 0 ∧ (s.tr t).reck.anchor ≠ .lost ∧ (s.tr t).reck.lastBlock = some l ∧ l.block = some b ∧ b ≠ 16777215 ∧ (s.reel t).eod.all (b < ·) = true ∧ lengthFits l c.opB = true ∧ c.modifier 8 = false ∧ (findMark (s.reel t).entries c.opA).isSome = true :=
  ⟨reelOf { ReelRecord.none with state := .active, entries := [{ entryA with mark := 9 }] } (orderC copyE (lastT 5000 ∘ ready ∘ midTape) State.reset), .t0, copyE, .checkpoint, lastA 5000, 6, by decide⟩

theorem meets_EnterMark_5 :
    ∃ (s : State) (t : Tr) (c : OrderCopy) (k : EntryKind), s.Awaits t 12 c ∧ s.Settled t ∧ (s.reel t).state = .active ∧ 1 ≤ c.opA ∧ c.opA ≤ 49999 ∧ kindOfField c.kindField = some k ∧ c.opB ≤ 65535 ∧ 1 ≤ c.opC ∧ c.opC ≤ 4 :=
  ⟨reelOf { ReelRecord.none with state := .active } (orderC { copyE with w6 := 4 } ready State.reset), .t0, { copyE with w6 := 4 }, .checkpoint, by decide⟩

theorem meets_AmendAndRetire_1a :
    ∃ (s : State) (t : Tr) (c : OrderCopy) (e : Entry), (s.reel t).state ≠ .none ∧ c.opA ≠ 0 ∧ c.opA ≠ 50000 ∧ findMark (s.reel t).entries c.opA = some e ∧ s.Awaits t 13 c ∧ s.Settled t ∧ c.kindField ≠ 3 ∧ (e.kind ≠ .file ∨ c.kindField = 0) ∧ (c.modifier 11 = false ∨ c.opC = 0) :=
  ⟨mapA (orderC { copyC 0x020D with w1 := 1 } ready State.reset), .t0, { copyC 0x020D with w1 := 1 }, entryA, by decide⟩

theorem meets_AmendAndRetire_1b :
    ∃ (s : State) (t : Tr) (c : OrderCopy) (e : Entry), (s.reel t).state ≠ .none ∧ c.opA ≠ 0 ∧ c.opA ≠ 50000 ∧ findMark (s.reel t).entries c.opA = some e ∧ s.Awaits t 13 c ∧ s.Settled t ∧ c.kindField ≠ 3 ∧ (e.kind ≠ .file ∨ c.kindField = 0) ∧ (c.modifier 11 = false ∨ c.opC = 0) :=
  ⟨mapA (orderC { copyC 0x080D with w1 := 1 } ready State.reset), .t0, { copyC 0x080D with w1 := 1 }, entryA, by decide⟩

theorem meets_AmendAndRetire_2 :
    ∃ (s : State) (t : Tr) (c : OrderCopy) (e : Entry), (s.reel t).state ≠ .none ∧ c.opA ≠ 0 ∧ c.opA ≠ 50000 ∧ findMark (s.reel t).entries c.opA = some e ∧ s.Awaits t 13 c ∧ s.Settled t ∧ c.kindField ≠ 3 ∧ c.modifier 11 = true ∧ 1 ≤ c.opC ∧ c.opC ≤ 4 :=
  ⟨mapA (orderC { copyC 0x080D with w1 := 1, w6 := 2 } ready State.reset), .t0, { copyC 0x080D with w1 := 1, w6 := 2 }, entryA, by decide⟩

theorem meets_AmendAndRetire_3 :
    ∃ (s : State) (t : Tr) (c : OrderCopy) (e : Entry) (x : BusTransfer) (ws : List Word), (s.reel t).state ≠ .none ∧ c.opA ≠ 0 ∧ c.opA ≠ 50000 ∧ findMark (s.reel t).entries c.opA = some e ∧ s.Reads t x .tagWords ws ∧ ws.length ≤ 4 ∧ (s.tr t).Working ∧ (s.tr t).port.copy = some c ∧ c.code = 13 ∧ ws.length = c.opC ∧ c.modifier 11 = true ∧ c.kindField ≠ 3 ∧ (e.kind ≠ .file ∨ c.kindField = 0) :=
  ⟨busy { fetchX with kind := .tagWords, length := 2 } (mapA (orderC { copyC 0x080D with w1 := 1, w6 := 2 } ready State.reset)), .t0, { copyC 0x080D with w1 := 1, w6 := 2 }, entryA, { fetchX with kind := .tagWords, length := 2 }, [1, 2], by decide⟩

theorem meets_AmendAndRetire_4a :
    ∃ (s : State) (t : Tr) (c : OrderCopy) (e : Entry), (s.reel t).state ≠ .none ∧ c.opA ≠ 0 ∧ c.opA ≠ 50000 ∧ findMark (s.reel t).entries c.opA = some e ∧ s.Awaits t 14 c ∧ s.Settled t ∧ (s.reel t).entries.length ≤ 1024 :=
  ⟨mapA (orderC { copyC 14 with w1 := 1 } ready State.reset), .t0, { copyC 14 with w1 := 1 }, entryA, by decide⟩

theorem meets_AmendAndRetire_4b :
    ∃ (s : State) (t : Tr) (c : OrderCopy) (e : Entry), (s.reel t).state ≠ .none ∧ c.opA ≠ 0 ∧ c.opA ≠ 50000 ∧ findMark (s.reel t).entries c.opA = some e ∧ s.Awaits t 14 c ∧ s.Settled t ∧ (s.reel t).entries.length ≤ 1024 :=
  ⟨mapA (orderC { copyC 0x010E with w1 := 1 } ready State.reset), .t0, { copyC 0x010E with w1 := 1 }, entryA, by decide⟩

theorem meets_RecordWrites_1a :
    ∃ (s : State) (t : Tr) (c : OrderCopy) (e : Entry), s.Awaits t 15 c ∧ s.Settled t ∧ (s.reel t).state ≠ .none ∧ (if c.modifier 8 then nearestBelow (s.reel t).entries c.opB = some e ∧ c.opB ≤ 16777215 else findMark (s.reel t).entries c.opA = some e ∧ c.opA ≠ 0 ∧ c.opA ≠ 50000) :=
  ⟨mapA (orderC { copyC 15 with w1 := 1 } ready State.reset), .t0, { copyC 15 with w1 := 1 }, entryA, by decide⟩

theorem meets_RecordWrites_1b :
    ∃ (s : State) (t : Tr) (c : OrderCopy) (e : Entry), s.Awaits t 15 c ∧ s.Settled t ∧ (s.reel t).state ≠ .none ∧ (if c.modifier 8 then nearestBelow (s.reel t).entries c.opB = some e ∧ c.opB ≤ 16777215 else findMark (s.reel t).entries c.opA = some e ∧ c.opA ≠ 0 ∧ c.opA ≠ 50000) :=
  ⟨mapA (orderC { copyC 0x010F with w3 := 3 } ready State.reset), .t0, { copyC 0x010F with w3 := 3 }, entryA, by decide⟩

theorem meets_RecordWrites_2a :
    ∃ (s : State) (t : Tr) (c : OrderCopy), s.Awaits t 15 c ∧ s.Settled t ∧ (s.reel t).state ≠ .none ∧ (if c.modifier 8 then nearestBelow (s.reel t).entries c.opB = none ∧ c.opB ≤ 16777215 else findMark (s.reel t).entries c.opA = none ∧ c.opA ≠ 0 ∧ c.opA ≠ 50000) :=
  ⟨mapA (orderC { copyC 15 with w1 := 2 } ready State.reset), .t0, { copyC 15 with w1 := 2 }, by decide⟩

theorem meets_RecordWrites_2b :
    ∃ (s : State) (t : Tr) (c : OrderCopy), s.Awaits t 15 c ∧ s.Settled t ∧ (s.reel t).state ≠ .none ∧ (if c.modifier 8 then nearestBelow (s.reel t).entries c.opB = none ∧ c.opB ≤ 16777215 else findMark (s.reel t).entries c.opA = none ∧ c.opA ≠ 0 ∧ c.opA ≠ 50000) :=
  ⟨mapA (orderC { copyC 0x010F with w3 := 2 } ready State.reset), .t0, { copyC 0x010F with w3 := 2 }, by decide⟩

theorem meets_RecordWrites_3 :
    ∃ (s : State) (t : Tr) (x : BusTransfer), s.Writes t x .entryRecord ∧ (s.tr t).Working :=
  ⟨busy { termX with kind := .entryRecord, length := 8, words := entryWords entryA } (order 15 ready State.reset), .t0, { termX with kind := .entryRecord, length := 8, words := entryWords entryA }, by decide⟩

theorem meets_RecordWrites_4 :
    ∃ (s : State) (t : Tr) (x : BusTransfer), s.Writes t x .senseRecord ∧ (s.tr t).Working :=
  ⟨busy { termX with kind := .senseRecord } (order 21 ready State.reset), .t0, { termX with kind := .senseRecord }, by decide⟩

theorem meets_ExchangeTaken_1 :
    ∃ (s : State) (t : Tr) (c : OrderCopy), s.Awaits t 19 c ∧ s.Settled t ∧ (s.reel t).state ≠ .none ∧ s.exchange.holder = none ∧ s.exchange.anyWaiting = false ∧ tableLength (s.reel t).entries ≤ c.opC :=
  ⟨areaS none (.all false) (mapA (orderC { copyC 19 with w6 := 16 } ready State.reset)), .t0, { copyC 19 with w6 := 16 }, by decide⟩

theorem meets_ExchangeTaken_2 :
    ∃ (s : State) (t : Tr) (c : OrderCopy), s.Awaits t 19 c ∧ s.Settled t ∧ (s.reel t).state ≠ .none ∧ s.exchange.holder = none ∧ s.exchange.anyWaiting = false ∧ c.opC < tableLength (s.reel t).entries ∧ tableLength (s.reel t).entries ≤ 65535 :=
  ⟨areaS none (.all false) (mapA (orderC { copyC 19 with w6 := 15 } ready State.reset)), .t0, { copyC 19 with w6 := 15 }, by decide⟩

theorem meets_ExchangeTaken_3a :
    ∃ (s : State) (t : Tr) (c : OrderCopy), s.Awaits t 19 c ∧ s.Settled t ∧ (s.reel t).state ≠ .none ∧ (s.exchange.holder ≠ none ∨ s.exchange.anyWaiting = true) :=
  ⟨areaS (some .t2) (.all false) (mapA (order 19 ready State.reset)), .t0, copyC 19, by decide⟩

theorem meets_ExchangeTaken_3b :
    ∃ (s : State) (t : Tr) (c : OrderCopy), s.Awaits t 19 c ∧ s.Settled t ∧ (s.reel t).state ≠ .none ∧ (s.exchange.holder ≠ none ∨ s.exchange.anyWaiting = true) :=
  ⟨areaS none (.all true) (mapA (order 19 ready State.reset)), .t0, copyC 19, by decide⟩

theorem meets_ExchangeTaken_4a :
    ∃ (s : State) (t : Tr) (c : OrderCopy), s.Awaits t 20 c ∧ s.Settled t ∧ 8 ≤ c.opC ∧ c.opC ≤ 12296 ∧ s.exchange.holder = none ∧ s.exchange.anyWaiting = false :=
  ⟨areaS none (.all false) (orderC { copyC 20 with w6 := 8 } ready State.reset), .t0, { copyC 20 with w6 := 8 }, by decide⟩

theorem meets_ExchangeTaken_4b :
    ∃ (s : State) (t : Tr) (c : OrderCopy), s.Awaits t 20 c ∧ s.Settled t ∧ 8 ≤ c.opC ∧ c.opC ≤ 12296 ∧ s.exchange.holder = none ∧ s.exchange.anyWaiting = false :=
  ⟨areaS none (.all false) (orderC { copyC 20 with w6 := 12296 } ready State.reset), .t0, { copyC 20 with w6 := 12296 }, by decide⟩

theorem meets_ExchangeTaken_5 :
    ∃ (s : State) (t : Tr) (c : OrderCopy), s.Awaits t 20 c ∧ s.Settled t ∧ 8 ≤ c.opC ∧ c.opC ≤ 12296 ∧ (s.exchange.holder ≠ none ∨ s.exchange.anyWaiting = true) :=
  ⟨areaS (some .t2) (.all false) (orderC { copyC 20 with w6 := 8 } ready State.reset), .t0, { copyC 20 with w6 := 8 }, by decide⟩

theorem meets_ExchangeTaken_6a :
    ∃ (s : State) (t : Tr) (c : OrderCopy), s.powered = true ∧ s.AllSettled ∧ s.exchange.holder = none ∧ firstAfter (fun u => s.exchange.waiting.get u) s.exchange.last = some t ∧ (s.tr t).port.copy = some c ∧ ((c.code = 19 ∧ (s.reel t).state ≠ .none ∧ tableLength (s.reel t).entries ≤ c.opC) ∨ c.code = 20) :=
  ⟨waits0 (mapA (orderC { copyC 19 with w6 := 16 } ready State.reset)), .t0, { copyC 19 with w6 := 16 }, by decide⟩

theorem meets_ExchangeTaken_6b :
    ∃ (s : State) (t : Tr) (c : OrderCopy), s.powered = true ∧ s.AllSettled ∧ s.exchange.holder = none ∧ firstAfter (fun u => s.exchange.waiting.get u) s.exchange.last = some t ∧ (s.tr t).port.copy = some c ∧ ((c.code = 19 ∧ (s.reel t).state ≠ .none ∧ tableLength (s.reel t).entries ≤ c.opC) ∨ c.code = 20) :=
  ⟨waits0 (mapA (order 20 ready State.reset)), .t0, copyC 20, by decide⟩

theorem meets_ExchangeBursts_1 :
    ∃ (s : State) (t : Tr) (x : BusTransfer), s.exchange.holder = some t ∧ s.Writes t x .dumpBurst ∧ s.exchange.written + x.length < s.exchange.table.length :=
  ⟨tableS .t0 20 8 (busy { termX with kind := .dumpBurst } (order 19 ready State.reset)), .t0, { termX with kind := .dumpBurst }, by decide⟩

theorem meets_ExchangeBursts_2 :
    ∃ (s : State) (t : Tr) (x : BusTransfer), s.exchange.holder = some t ∧ s.Writes t x .dumpBurst ∧ s.exchange.table.length ≤ s.exchange.written + x.length ∧ s.exchange.table.length ≤ 65535 ∧ (s.tr t).Working :=
  ⟨tableS .t0 13 8 (busy { termX with kind := .dumpBurst } (order 19 ready State.reset)), .t0, { termX with kind := .dumpBurst }, by decide⟩

theorem meets_ExchangeBursts_3 :
    ∃ (s : State) (t : Tr) (x : BusTransfer) (ws : List Word) (n : Nat) (v : Nat), s.exchange.holder = some t ∧ s.Reads t x .loadBurst ws ∧ importStatus (s.exchange.table ++ ws) (s.orderC t) = .more n v :=
  ⟨tableS .t0 0 0 (busy { fetchX with kind := .loadBurst, length := 7 } (orderC { copyC 20 with w6 := 8 } ready State.reset)), .t0, { fetchX with kind := .loadBurst, length := 7 }, [0, 0, 0, 0, 0, 0, 0], 1, 0, by decide⟩

theorem meets_ExchangeBursts_4 :
    ∃ (s : State) (t : Tr) (x : BusTransfer) (ws : List Word) (v : Nat) (o : Nat), s.exchange.holder = some t ∧ s.Reads t x .loadBurst ws ∧ (s.tr t).Working ∧ importStatus (s.exchange.table ++ ws) (s.orderC t) = .invalid v o ∧ v ≤ 65535 :=
  ⟨tableS .t0 0 0 (busy { fetchX with kind := .loadBurst, length := 8 } (orderC { copyC 20 with w6 := 8 } ready State.reset)), .t0, { fetchX with kind := .loadBurst, length := 8 }, [0, 0, 0, 0, 0, 0, 1, 0], 0, 0, by decide⟩

theorem meets_ExchangeBursts_5a :
    ∃ (s : State) (t : Tr) (x : BusTransfer) (ws : List Word) (es : List Entry), s.exchange.holder = some t ∧ s.Reads t x .loadBurst ws ∧ (s.tr t).Working ∧ importStatus (s.exchange.table ++ ws) (s.orderC t) = .whole es ∧ ((s.reel t).state = .none ∨ tableTag (s.exchange.table ++ ws) = none ∨ (s.reel t).tag = none ∨ tableTag (s.exchange.table ++ ws) = (s.reel t).tag) ∧ es.length ≤ s.store.poolFree + (s.reel t).entries.length ∧ es.length ≤ 65535 :=
  ⟨mapA (tableS .t0 0 0 (busy { fetchX with kind := .loadBurst, length := 8 } (orderC { copyC 20 with w6 := 8 } ready State.reset))), .t0, { fetchX with kind := .loadBurst, length := 8 }, [0, 0, 0, 0, 0, 0, 0, 1], [], by decide⟩

theorem meets_ExchangeBursts_5b :
    ∃ (s : State) (t : Tr) (x : BusTransfer) (ws : List Word) (es : List Entry), s.exchange.holder = some t ∧ s.Reads t x .loadBurst ws ∧ (s.tr t).Working ∧ importStatus (s.exchange.table ++ ws) (s.orderC t) = .whole es ∧ ((s.reel t).state = .none ∨ tableTag (s.exchange.table ++ ws) = none ∨ (s.reel t).tag = none ∨ tableTag (s.exchange.table ++ ws) = (s.reel t).tag) ∧ es.length ≤ s.store.poolFree + (s.reel t).entries.length ∧ es.length ≤ 65535 :=
  ⟨mapA (tableS .t0 8 0 (busy { fetchX with kind := .loadBurst, length := 8 } (orderC { copyC 20 with w6 := 16 } ready State.reset))), .t0, { fetchX with kind := .loadBurst, length := 8 }, [1, 1, 0, 3, 0, 4000, 80, 0], [{ entryA with bound := some 400 }], by decide⟩

end Sys2Proof.Tests
end

section
/-! PROOF. The words of the host bus bit by bit (R136), INTR and the summary word after every step (R145), and
SET NOTICE MASK (R148). -/
namespace Sys2Proof.Machine

/-! ### The bits of the pointer word and of the summary word -/

@[simp] theorem getElem_bitIf (b : Bool) (i : Nat) {j : Nat} (hj : j < 16) :
    (bitIf b i)[j] = (b && decide (i = j)) := by
  have hpow : BitVec.ofNat 16 (2 ^ i) = BitVec.twoPow 16 i := by
    apply BitVec.eq_of_toNat_eq
    simp [BitVec.toNat_twoPow]
  cases b <;> simp [bitIf, hpow, BitVec.getElem_twoPow, eq_comm]

theorem Port.complete_eq (p : Port) : p.complete = decide (p.pointer = .completePending) := rfl

theorem Port.unmasked_eq (p : Port) : p.unmasked = decide (p.attention &&& p.noticeMask ≠ 0) := by
  simp only [Port.unmasked, bne_eq, decide_not, beq_eq_decide]

theorem pointerWord_bit15 (p : Port) : (pointerWord p).getLsbD 15 = p.complete := by
  simp [pointerWord]

theorem pointerWord_bit14 (p : Port) : (pointerWord p).getLsbD 14 = p.unmasked := by
  simp [pointerWord]

theorem pointerWord_bit13 (p : Port) : (pointerWord p).getLsbD 13 = p.terminationLost := by
  simp [pointerWord]

/-- The flags of the pointer word stand above its index. -/
theorem pointerWord_index (p : Port) : (pointerWord p).setWidth 13 = p.index := by
  apply BitVec.eq_of_getLsbD_eq
  intro i hi
  have h15 : ¬ 15 = i := by omega
  have h14 : ¬ 14 = i := by omega
  have h13 : ¬ 13 = i := by omega
  have h16 : i < 16 := by omega
  simp [pointerWord, BitVec.getLsbD_eq_getElem, hi, h13, h14, h15, h16]

theorem summaryOf_complete (trs : Four Transport) (power : PowerMonitor) (t : Tr) :
    (summaryOf trs power).getLsbD (trNumber t) = (trs.get t).port.complete := by
  cases t <;> simp [summaryOf, trNumber, Four.get]

theorem summaryOf_unmasked (trs : Four Transport) (power : PowerMonitor) (t : Tr) :
    (summaryOf trs power).getLsbD (4 + trNumber t) = (trs.get t).port.unmasked := by
  cases t <;> simp [summaryOf, trNumber, Four.get]

theorem summaryOf_pwarn (trs : Four Transport) (power : PowerMonitor) :
    (summaryOf trs power).getLsbD 8 = power.pwarn.level := by
  simp [summaryOf]

theorem summaryOf_verdict (trs : Four Transport) (power : PowerMonitor) :
    (summaryOf trs power).getLsbD 9 = power.verdict := by
  simp [summaryOf]

theorem exists_tr_iff {p : Tr → Prop} : (∃ t, p t) ↔ p .t0 ∨ p .t1 ∨ p .t2 ∨ p .t3 := by
  constructor
  · rintro ⟨t, h⟩
    cases t <;> simp [h]
  · rintro (h | h | h | h) <;> exact ⟨_, h⟩

theorem intrOf_iff (trs : Four Transport) :
    intrOf trs = true ↔ ∃ t, (trs.get t).port.complete = true ∨ (trs.get t).port.unmasked = true := by
  simp only [exists_tr_iff, intrOf, Four.get, Bool.or_eq_true]
  tauto

/-! ### INTR and the summary word in step with the state (R145, R180) -/

/-- A command that finishes leaves the outputs in step, whatever it did before. -/
theorem State.finish_outputsAgree (s : State) : s.finish.OutputsAgree := fun _ =>
  ⟨by simp, by simp [summaryOf], by simp⟩

theorem State.withPending_outputsAgree {s : State} (q : List Instr) (h : s.OutputsAgree) :
    (s.withPending q).OutputsAgree := h

theorem State.outputsAgree_of_unpowered {s : State} (h : s.powered = false) : s.OutputsAgree :=
  fun hp => absurd (h.symm.trans hp) Bool.false_ne_true

section
variable {s s' : State}

theorem runOn_outputsAgree {t : Tr} {f : State → State} (hs : s.OutputsAgree) (h : runOn t s f = .next s') :
    s'.OutputsAgree := by
  rcases runOn_next h with ⟨-, rfl⟩ | ⟨-, rfl⟩
  · exact hs
  · exact State.finish_outputsAgree _

theorem runTr_outputsAgree {t : Tr} {f : State → State} (hs : s.OutputsAgree) (h : runTr t s f = .next s') :
    s'.OutputsAgree :=
  runOn_outputsAgree hs h

theorem runEach_outputsAgree {f : State → State} (hs : s.OutputsAgree) (h : runEach s f = .next s') :
    s'.OutputsAgree := by
  rcases runAll_next h with ⟨-, rfl⟩ | ⟨-, rfl⟩
  · exact hs
  · exact State.finish_outputsAgree _

theorem endRead_outputsAgree {k : TransferKind} {ws : List Word} {f : Tr → State → State} (hs : s.OutputsAgree)
    (h : endRead k ws s f = .next s') : s'.OutputsAgree := by
  rcases endRead_next h with rfl | ⟨_, _, _, _, _, hrun⟩
  · exact hs
  · exact runEach_outputsAgree hs hrun

theorem endWrite_outputsAgree {k : TransferKind} {f : Tr → BusTransfer → State → State} (hs : s.OutputsAgree)
    (h : endWrite k s f = .next s') : s'.OutputsAgree := by
  rcases endWrite_next h with rfl | ⟨_, _, _, _, hrun⟩
  · exact hs
  · exact runEach_outputsAgree hs hrun

theorem execBusTimeout_outputsAgree {done : Nat} {ws : List Word} (hs : s.OutputsAgree)
    (h : execBusTimeout done ws s = .next s') : s'.OutputsAgree := by
  unfold execBusTimeout at h
  split at h
  · split at h
    · exact runEach_outputsAgree hs h
    · cases h
  · cases h
    exact hs

theorem execMainPowerLoss_outputsAgree {cut : Option Word} (hs : s.OutputsAgree)
    (h : execMainPowerLoss cut s = .next s') : s'.OutputsAgree := by
  cases h
  split
  · exact State.outputsAgree_of_unpowered rfl
  · exact hs

theorem execBackupFailure_outputsAgree (hs : s.OutputsAgree) (h : execBackupFailure s = .next s') :
    s'.OutputsAgree := by
  cases h
  split
  · exact hs
  · exact State.outputsAgree_of_unpowered (eq_false_of_ne_true ‹_›)

theorem tick_outputsAgree (hs : s.OutputsAgree) : s.tick.OutputsAgree := by
  unfold State.tick
  split
  · exact State.finish_outputsAgree _
  · exact hs

/-- Every command keeps the outputs in step: by the shared way it is run, or because it leaves main power out. -/
theorem exec_outputsAgree {c : Instr} (hs : s.OutputsAgree) (h : exec c s = .next s') : s'.OutputsAgree := by
  cases c <;> dsimp only [exec] at h
  case powerOn =>
    cases h
    exact State.finish_outputsAgree _
  case mainPowerLoss => exact execMainPowerLoss_outputsAgree hs h
  case backupFailure => exact execBackupFailure_outputsAgree hs h
  case ignoredBusWrite =>
    cases h
    exact hs
  case busTimeout => exact execBusTimeout_outputsAgree hs h
  case pwarnAssertion | pwarnRelease | controllerClear | clearRelease | arbiterGrant | exchangeAreaGrant =>
    exact runEach_outputsAgree hs h
  case orderFetchComplete | profileRecordRead | detectorRecordRead | tagWordsRead | loadMapBurstComplete
  | writeBurstComplete => exact endRead_outputsAgree hs h
  case terminationWriteComplete | mapEntryRecordWritten | dumpMapBurstComplete | senseRecordWritten
  | readBurstComplete => exact endWrite_outputsAgree hs h
  case orderPointerWrite | load | unload | clearFault | setProfile | setDetector | read | write | writeFileMark | erase
  | spaceForward | spaceBackward | enterMark | amendMark | retireMark | lookUpMark | locateMark | locateBlock
  | rewind | dumpMap | loadMap | sense | setNoticeMask | tachometerCount | pitchMeasured | zoneEvent
  | columnSensorFault | sensorRestored | vacuumEvent | tapePresentEvent | markerEdge | writeRingChange | onlineEvent
  | loadPressed | unloadPressed | buttonReleased | loadPhaseTimeout | unloadPhaseTimeout | stall
  | capstanTargetSpeedReached | stopPointReached | holdOverExpiry | capstanStandstill | shuttleLimitReached
  | shuttleBrakePoint | shuttleEnd | unthreadWindStopped | recordQualified | recordEndDetected | blank
  | scanBudgetExceeded | formationStart | postambleComplete | writtenRecordReport | writeStartTimeout
  | eraseLengthReached | readDrainComplete => exact runTr_outputsAgree hs h

theorem step_outputsAgree (hs : s.OutputsAgree) (h : step s = .next s') : s'.OutputsAgree := by
  unfold step at h
  split at h
  · cases h
    exact tick_outputsAgree hs
  · exact exec_outputsAgree (State.withPending_outputsAgree _ hs) h

end

/-- Settles O4: every command and the clock end by working the outputs out again, leave the state as it was, or leave
main power out; the bits are then those of `intrOf` and `summaryOf`. -/
theorem interruptAndSummary : Obligations.InterruptAndSummary := by
  intro s s' hs hstep hp
  have hagree : s'.OutputsAgree := step_outputsAgree hs hstep
  obtain ⟨hintr, hsummary, -⟩ := hagree hp
  refine ⟨hagree, ?_, fun t => ⟨?_, ?_, ?_⟩, ?_, ?_⟩
  · simp only [hintr, intrOf_iff, Port.complete_eq, Port.unmasked_eq, decide_eq_true_eq, State.tr]
  · rw [hsummary, summaryOf_complete, Port.complete_eq, State.tr]
  · rw [hsummary, summaryOf_unmasked, Port.unmasked_eq, State.tr]
  · rw [hsummary, summaryOf_unmasked, pointerWord_bit14, State.tr]
  · rw [hsummary, summaryOf_pwarn]
  · rw [hsummary, summaryOf_verdict]

/-! ### Reads and writes of the host bus (R136) -/

theorem busRead_trNumber (s : State) (t : Tr) : busRead s (trNumber t) = pointerWord (s.tr t).port := by
  cases t <;> rfl

theorem busRead_beyond (s : State) : ∀ {o : Nat}, 5 ≤ o → busRead s o = 0
  | _ + 5, _ => rfl

/-- Bits 15 to 13 of a value written to a pointer are ignored. -/
theorem writtenIndex_congr {v w : Word} (h : ∀ i, i < 13 → v.getLsbD i = w.getLsbD i) :
    writtenIndex v = writtenIndex w := by
  apply BitVec.eq_of_getLsbD_eq
  intro i hi
  simp [writtenIndex, hi, h i hi]

theorem exec_orderPointerWrite_congr (s : State) (t : Tr) {v w : Word} (h : writtenIndex v = writtenIndex w) :
    exec (.orderPointerWrite t v) s = exec (.orderPointerWrite t w) s := by
  simp only [exec, execOrderPointerWrite, h]

/-- Settles O29, bit by bit of the pointer word and offset by offset of the bus. -/
theorem busAccesses : Obligations.BusAccesses := by
  intro s
  refine ⟨fun t => ⟨busRead_trNumber s t, ?_, ?_, pointerWord_bit13 _, pointerWord_index _⟩, rfl,
    fun _ ho => busRead_beyond s ho, fun _ _ _ => rfl,
    fun t _ _ h => exec_orderPointerWrite_congr s t (writtenIndex_congr h)⟩
  · rw [pointerWord_bit15, Port.complete_eq]
  · rw [pointerWord_bit14, Port.unmasked_eq]

/-! ### An order that ends at once, as its owner takes it -/

/-- Ending an order brings nothing about by itself. -/
theorem State.settled_endOrder {s : State} {t : Tr} {r : OrderResult} (hw : (s.tr t).Working) (hc : r.count ≤ 65535)
    (hs : s.Settled t) : (s.endOrder t r).settled t = s.endOrder t r := by
  apply State.settled_rest
  apply State.settled_congr (s := s) <;> simp [State.endOrder_working hw hc, Transport.ended]
  exact Option.isNone_iff_eq_none.mp hs

/-- What a command of one transport has done whose last act was to end the order in flight, when before that it has
made the transport's record `y` and changed nothing else (R141, R142, R145). -/
theorem State.ended_only {s s' : State} {t : Tr} {y : Transport} {r : OrderResult} (hw : y.Working)
    (hi : y.port.index = (s.tr t).port.index) (hc : r.count ≤ 65535) (hm : r.markBlock = none)
    (hset : (s.setTr t y).Settled t)
    (hs' : s' = ((((s.setTr t y).endOrder t r).settled t).refresh t).finish) :
    s.OnlyAt s' t ∧ s'.store = s.store ∧ s'.exchange = s.exchange ∧ s.OnlyControl s' t ∧
      s'.tr t = Transport.refresh { y with
        port := { y.port with pointer := .terminating, result := (s'.tr t).port.result } } ∧
      s'.intr = intrOf s'.trs ∧ s.Terminates s' t r.condition r.count r.value y.port.indicators := by
  have hy : ((s.setTr t y).tr t).Working := by simpa using hw
  have hterm : s.Terminates s' t r.condition r.count r.value y.port.indicators := by
    simpa [hs'] using State.terminates_after (s := s) hy (by simpa using hi) hc hm hset
  obtain ⟨-, hheld, -⟩ := hw
  rw [State.settled_endOrder hy hc hset, State.endOrder_working hy hc] at hs'
  refine ⟨⟨fun u hu => ⟨?_, ?_⟩, ?_, ?_, ?_, ?_⟩, ?_, ?_, ?_, ?_, ?_, hterm⟩
  · simp [hs', State.tr_refresh_other _ hu, State.tr_setTr_other _ _ hu]
  all_goals simp [hs', State.OnlyControl, Transport.ended, Transport.refresh, hheld]

/-! ### SET NOTICE MASK (R18, R148) -/

/-- No test of R18 refuses a SET NOTICE MASK. -/
theorem State.admission_setNoticeMask (s : State) (t : Tr) : s.admission t 22 = none := by
  simp [State.admission, motionGroup, motionCode, mapChangingCode]

section
variable {s : State} {t : Tr} {c : OrderCopy}

theorem exec_setNoticeMask_waits (h : s.Waits t 22 c) :
    exec (.setNoticeMask t) s = .next (((((s.withTaken t).takeMask t c).settled t).refresh t).finish) := by
  have hawaits : s.Awaits t 22 c := ⟨h, s.admission_setNoticeMask t⟩
  obtain ⟨hpowered, -⟩ := h
  dsimp only [exec, execSetNoticeMask]
  rw [runTr_powered hpowered, State.takeOrder_awaits hawaits]

/-- The record of a transport that has taken the order dispatched to it, with another notice mask. -/
def Transport.withMask (x : Transport) (m : BitVec 5) : Transport :=
  { x with port := { x.port with stage := .taken, noticeMask := m } }

theorem Transport.withMask_working {x : Transport} (m : BitVec 5) (h : x.Working) : (x.withMask m).Working := h

theorem State.takeMask_accepted (h : c.opA < 32) :
    (s.withTaken t).takeMask t c =
      (s.setTr t ((s.tr t).withMask (c.w1.setWidth 5))).endOrder t
        { condition := .normal, count := 0, value := (s.tr t).port.noticeMask.setWidth 32, markBlock := none } := by
  have hlow : ¬ 32 ≤ c.opA := by omega
  rw [State.takeMask, if_neg hlow, ← BitVec.setWidth_eq_extractLsb' (by decide)]
  simp [State.withTaken, State.modPort_eq, State.modTr, Transport.withMask]

theorem State.takeMask_refused (h : 32 ≤ c.opA) :
    (s.withTaken t).takeMask t c =
      (s.setTr t ((s.tr t).withMask (s.tr t).port.noticeMask)).endOrder t
        { condition := .parameter, count := 0, value := 0, markBlock := none } := by
  rw [State.takeMask, if_pos h]
  rfl

/-- Another notice mask makes nothing come about by itself. -/
theorem State.settled_withMask (m : BitVec 5) (hs : s.Settled t) : (s.setTr t ((s.tr t).withMask m)).Settled t := by
  rw [State.Settled, Option.isNone_iff_eq_none]
  apply State.settled_congr (s := s) (h := hs) <;> simp [Transport.withMask]

end

/-- Settles O43: the order is admitted, takes the mask or refuses it, and ends at once. -/
theorem noticeMask : Obligations.NoticeMask := by
  intro s t c hwaits hset
  have hexec := exec_setNoticeMask_waits hwaits
  obtain ⟨-, hworking, -⟩ := hwaits
  refine ⟨fun hlow => ⟨_, hexec, ?_⟩, fun hhigh => ⟨_, hexec, ?_⟩⟩
  · rw [State.takeMask_accepted hlow]
    exact State.ended_only (Transport.withMask_working _ hworking) rfl (Nat.zero_le _) rfl
      (State.settled_withMask _ hset) rfl
  · rw [State.takeMask_refused hhigh]
    exact State.ended_only (Transport.withMask_working _ hworking) rfl (Nat.zero_le _) rfl
      (State.settled_withMask _ hset) rfl

end Sys2Proof.Machine
end

section
/-! PROOF. Maps in order and the pool counted (R93, R95, R97): what each change of a reel record keeps. -/
namespace Sys2Proof.Machine

/-! ### Lists of entries (R95, R97) -/

/-- One entry stands below another in block and in position (R95). -/
abbrev Entry.Below (a b : Entry) : Prop := a.block < b.block ∧ a.position < b.position

/-- The entries of a list rise strictly together and no two share a mark number (R95). -/
def EntriesOrdered (es : List Entry) : Prop :=
  es.Pairwise Entry.Below ∧ (es.Pairwise fun a b => a.mark ≠ b.mark) ∧ ∀ e ∈ es, markFits e = true

theorem entriesRise_iff (es : List Entry) : entriesRise es = true ↔ es.Pairwise Entry.Below := by
  have : IsTrans Entry Entry.Below := ⟨fun _ _ _ h h' => ⟨h.1.trans h'.1, h.2.trans h'.2⟩⟩
  rw [← List.isChain_iff_pairwise]
  induction es with
  | nil => simp [entriesRise]
  | cons a rest ih =>
    cases rest with
    | nil => simp [entriesRise]
    | cons b rest => simp [entriesRise, ih, Entry.Below]

theorem marksDiffer_iff (es : List Entry) : marksDiffer es = true ↔ es.Pairwise fun a b => a.mark ≠ b.mark := by
  induction es with
  | nil => simp [marksDiffer]
  | cons e rest ih => simp only [marksDiffer, Bool.and_eq_true, ih, List.all_eq_true, bne_iff_ne, List.pairwise_cons, ne_comm]

theorem reelOrdered_iff (r : ReelRecord) : reelOrdered r = true ↔ EntriesOrdered r.entries ∧ r.entries.length ≤ 1024 := by
  simp [reelOrdered, EntriesOrdered, entriesRise_iff, marksDiffer_iff, and_assoc]

theorem EntriesOrdered.nil : EntriesOrdered [] := by simp [EntriesOrdered]

theorem EntriesOrdered.filter {es : List Entry} (h : EntriesOrdered es) (p : Entry → Bool) :
    EntriesOrdered (es.filter p) :=
  ⟨h.1.filter p, h.2.1.filter p, fun e he => h.2.2 e (List.mem_of_mem_filter he)⟩

/-- Entries changed in kind and tag alone stay in order when their marks go with their kinds. -/
theorem EntriesOrdered.map {es : List Entry} (h : EntriesOrdered es) {f : Entry → Entry}
    (hb : ∀ e, (f e).block = e.block ∧ (f e).position = e.position ∧ (f e).mark = e.mark)
    (hf : ∀ e ∈ es, markFits (f e) = true) : EntriesOrdered (es.map f) := by
  refine ⟨?_, ?_, by simpa using hf⟩
  · simpa [List.pairwise_map, Entry.Below, hb] using h.1
  · simpa [List.pairwise_map, hb] using h.2.1

/-- An entry placed by its block keeps the order when no entry that stays shares its mark (R97). -/
theorem EntriesOrdered.place {es : List Entry} (h : EntriesOrdered es) {e : Entry} (hfit : markFits e = true)
    (hmark : ∀ f ∈ es, f.block ≠ e.block → f.mark ≠ e.mark) : EntriesOrdered (placeEntry es e) := by
  obtain ⟨hrise, hdiff, hfits⟩ := h
  have hlow : ∀ f, (f.block < e.block && keepsPlace e f) = true → Entry.Below f e := by
    intro f hf
    simp only [keepsPlace, Bool.and_eq_true, Bool.or_eq_true, decide_eq_true_eq] at hf
    exact ⟨hf.1, by omega⟩
  have hhigh : ∀ f, (e.block < f.block && keepsPlace e f) = true → Entry.Below e f := by
    intro f hf
    simp only [keepsPlace, Bool.and_eq_true, Bool.or_eq_true, decide_eq_true_eq] at hf
    exact ⟨hf.1, by omega⟩
  refine ⟨?_, ?_, ?_⟩
  · refine List.pairwise_append.mpr ⟨hrise.filter _, List.pairwise_cons.mpr ⟨?_, hrise.filter _⟩, ?_⟩
    · intro f hf
      exact hhigh f (List.mem_filter.mp hf).2
    · intro a ha b hb
      have hae := hlow a (List.mem_filter.mp ha).2
      rcases List.mem_cons.mp hb with rfl | hb
      · exact hae
      · have heb := hhigh b (List.mem_filter.mp hb).2
        exact ⟨hae.1.trans heb.1, hae.2.trans heb.2⟩
  · refine List.pairwise_append.mpr ⟨hdiff.filter _, List.pairwise_cons.mpr ⟨?_, hdiff.filter _⟩, ?_⟩
    · intro f hf
      obtain ⟨hmem, hf⟩ := List.mem_filter.mp hf
      exact (hmark f hmem (hhigh f hf).1.ne').symm
    · intro a ha b hb
      obtain ⟨hmem, ha⟩ := List.mem_filter.mp ha
      rcases List.mem_cons.mp hb with rfl | hb
      · exact hmark a hmem (hlow a ha).1.ne
      · obtain ⟨hmem', hb⟩ := List.mem_filter.mp hb
        have hlt : a.block < b.block := (hlow a ha).1.trans (hhigh b hb).1
        have hne : a ≠ b := fun hab => by simp [hab] at hlt
        have : Std.Symm fun a b : Entry => a.mark ≠ b.mark := ⟨fun _ _ => Ne.symm⟩
        exact hdiff.forall hmem hmem' hne
  · intro f hf
    simp only [placeEntry, List.mem_append, List.mem_cons, List.mem_filter] at hf
    rcases hf with ⟨hf, -⟩ | rfl | ⟨hf, -⟩
    · exact hfits f hf
    · exact hfit
    · exact hfits f hf

/-- The neighbours that stay beside an entry placed are entries of other blocks. -/
theorem placeEntry_length_le (es : List Entry) (e : Entry) :
    (placeEntry es e).length ≤ (es.filter (·.block ≠ e.block)).length + 1 := by
  have h : (es.filter fun f => f.block < e.block && keepsPlace e f).length +
      (es.filter fun f => e.block < f.block && keepsPlace e f).length ≤ (es.filter (·.block ≠ e.block)).length := by
    induction es with
    | nil => simp
    | cons a l ih =>
      rcases Nat.lt_trichotomy a.block e.block with hlt | heq | hgt
      · cases hk : keepsPlace e a <;> simp [hlt, hlt.ne, hlt.not_gt, hk] at ih ⊢ <;> omega
      · simpa [List.filter_cons, heq] using ih
      · cases hk : keepsPlace e a <;> simp [hgt, hgt.ne', hgt.not_gt, hk] at ih ⊢ <;> omega
  simp only [placeEntry, List.length_append, List.length_cons]
  omega

/-- Placing an entry in the stead of one of its block makes a list no longer. -/
theorem placeEntry_length_le_of_mem {es : List Entry} {e f : Entry} (hf : f ∈ es) (hb : f.block = e.block) :
    (placeEntry es e).length ≤ es.length := by
  have hshort : (es.filter (·.block ≠ e.block)).length < es.length :=
    List.length_filter_lt_length_iff_exists.mpr ⟨f, hf, by simp [hb]⟩
  exact (placeEntry_length_le _ _).trans hshort

@[simp] theorem clampEntry_mark (e : Entry) : (clampEntry e).mark = e.mark := by
  unfold clampEntry; split <;> rfl
@[simp] theorem clampEntry_kind (e : Entry) : (clampEntry e).kind = e.kind := by
  unfold clampEntry; split <;> rfl
@[simp] theorem clampEntry_block (e : Entry) : (clampEntry e).block = e.block := by
  unfold clampEntry; split <;> rfl
@[simp] theorem markFits_clampEntry (e : Entry) : markFits (clampEntry e) = markFits e := by
  simp [markFits]

/-- A mark of a FILE entry is above 49,999, and no other is. -/
theorem markFits_iff (e : Entry) : markFits e = true ↔ (e.kind = .file ↔ 49999 < e.mark) := by
  simp only [markFits, beq_iff_eq, decide_eq_decide]

/-! ### The store (R93) -/

/-- The four maps in order and the pool counted, as one condition on the Map Store (R93, R95). -/
def MapStore.Ordered (m : MapStore) : Prop :=
  (∀ t, EntriesOrdered (m.reels.get t).entries ∧ (m.reels.get t).entries.length ≤ 1024) ∧
    m.poolFree + entryTotal m = 2048

theorem State.mapsOrdered_iff (s : State) : s.MapsOrdered ↔ s.store.Ordered := by
  simp only [State.MapsOrdered, MapStore.Ordered, reelOrdered_iff, State.reel]

/-- The entries of all records after one record has been replaced. -/
theorem entryTotal_set (m : MapStore) (t : Tr) (r : ReelRecord) (n : Nat) :
    entryTotal { reels := m.reels.set t r, poolFree := n } + (m.reels.get t).entries.length =
      entryTotal m + r.entries.length := by
  cases t <;> simp only [entryTotal, Four.set, Four.get] <;> omega

theorem entries_le_entryTotal (m : MapStore) (t : Tr) : (m.reels.get t).entries.length ≤ entryTotal m := by
  cases t <;> simp only [entryTotal, Four.get] <;> omega

/-- A record replaced by one in order, for whose entries the pool has room. -/
theorem MapStore.Ordered.set {m : MapStore} (h : m.Ordered) (t : Tr) {r : ReelRecord} (hr : EntriesOrdered r.entries)
    (hlen : r.entries.length ≤ 1024) (hroom : r.entries.length ≤ m.poolFree + (m.reels.get t).entries.length) :
    MapStore.Ordered
      { reels := m.reels.set t r, poolFree := m.poolFree + (m.reels.get t).entries.length - r.entries.length } := by
  obtain ⟨hreels, hpool⟩ := h
  refine ⟨fun u => ?_, ?_⟩
  · by_cases hu : u = t
    · subst hu
      simpa using ⟨hr, hlen⟩
    · simpa [Four.get_set_other _ _ hu] using hreels u
  · have := entryTotal_set m t r (m.poolFree + (m.reels.get t).entries.length - r.entries.length)
    have := entries_le_entryTotal m t
    simp only at *
    omega

end Sys2Proof.Machine
end

section
/-! PROOF. What every shared operation of one transport keeps of its Sensing Interface: PATH GOOD stays what the levels
make it (R8), and the maps stay in order with the pool counted (R93, R95). -/
namespace Sys2Proof.Machine

/-! ### Operations on a transport's record that leave its Sensing Interface alone -/

section
variable (x : Transport)

@[simp] theorem Transport.applyOffline_sense : x.applyOffline.sense = x.sense := by
  unfold Transport.applyOffline; split <;> rfl

@[simp] theorem Transport.locateLost_sense : x.locateLost.sense = x.sense := by
  unfold Transport.locateLost; split <;> rfl

@[simp] theorem Transport.setReck_sense (r : Reckoning) : (x.setReck r).sense = x.sense := by
  unfold Transport.setReck; split <;> simp

@[simp] theorem Transport.run_sense (who : Requester) (dir : Dir) (v : RunSpeed) (target : Option Int) :
    (x.run who dir v target).sense = x.sense := by
  unfold Transport.run; dsimp only; split_ifs <;> rfl

@[simp] theorem Transport.shuttle_sense (dir : Dir) (target : Int) : (x.shuttle dir target).sense = x.sense := by
  unfold Transport.shuttle; dsimp only; split_ifs <;> rfl

@[simp] theorem Transport.creep_sense (dir : Dir) (limit : Option Int) (unload : Bool) :
    (x.creep dir limit unload).sense = x.sense := by
  unfold Transport.creep; dsimp only; split_ifs <;> rfl

@[simp] theorem Transport.stop_sense (who : Requester) : (x.stop who).sense = x.sense := rfl

@[simp] theorem Transport.recordEnd_sense : x.recordEnd.sense = x.sense := rfl

@[simp] theorem Transport.waitStep_sense (f : Formation) : (x.waitStep f).sense = x.sense := rfl

@[simp] theorem Transport.beginForming_sense : x.beginForming.sense = x.sense := rfl

@[simp] theorem Transport.writeStep_sense : x.writeStep.sense = x.sense := by
  unfold Transport.writeStep; dsimp only; repeat' split
  all_goals rfl

@[simp] theorem Transport.xferRun_sense : x.xferRun.sense = x.sense := Transport.run_sense ..

@[simp] theorem Transport.goRead_sense (joined : Bool) : (x.goRead joined).sense = x.sense := rfl

@[simp] theorem Transport.goErase_sense : x.goErase.sense = x.sense := rfl

@[simp] theorem Transport.goWrite_sense (kind : RecordKind) (declared : Nat) (volumeCheck : Byte) :
    (x.goWrite kind declared volumeCheck).sense = x.sense := rfl

@[simp] theorem Transport.locateIdle_sense : x.locateIdle.sense = x.sense := by
  unfold Transport.locateIdle; split <;> rfl

@[simp] theorem Transport.supersedeUnload_sense : x.supersedeUnload.sense = x.sense := by
  unfold Transport.supersedeUnload; split <;> simp

@[simp] theorem Transport.xferStopWith_sense (c : Condition) : (x.xferStopWith c).sense = x.sense := rfl

@[simp] theorem Transport.xferBlank_sense : x.xferBlank.sense = x.sense := by
  unfold Transport.xferBlank; split <;> rfl

@[simp] theorem Transport.xferMarker_sense (e : EdgeEvent) : (x.xferMarker e).sense = x.sense := by
  unfold Transport.xferMarker; repeat' split
  all_goals rfl

@[simp] theorem Transport.decodeApproach_sense : x.decodeApproach.sense = x.sense := Transport.run_sense ..

@[simp] theorem Transport.countSpace_sense : x.countSpace.sense = x.sense := Transport.run_sense ..

@[simp] theorem Transport.countSpaceOn_sense : x.countSpaceOn.sense = x.sense := Transport.run_sense ..

@[simp] theorem Transport.countSpaceEnds_sense : x.countSpaceEnds.sense = x.sense := Transport.run_sense ..

@[simp] theorem Transport.approachOver_sense (left : Option Nat) : (x.approachOver left).sense = x.sense := by
  unfold Transport.approachOver; split <;> simp

@[simp] theorem Transport.fastSpaceTo_sense (p : Int) : (x.fastSpaceTo p).sense = x.sense := Transport.run_sense ..

@[simp] theorem Transport.shuttleLeg_sense (dir : Dir) (target : Int) : (x.shuttleLeg dir target).sense = x.sense :=
  Transport.shuttle_sense ..

@[simp] theorem Transport.rewindShuttle_sense : x.rewindShuttle.sense = x.sense := Transport.shuttle_sense ..

@[simp] theorem Transport.rewindBack_sense (d : Int) : (x.rewindBack d).sense = x.sense := Transport.run_sense ..

@[simp] theorem Transport.rewindForward_sense : x.rewindForward.sense = x.sense := Transport.run_sense ..

@[simp] theorem Transport.rewindCorrect_sense : x.rewindCorrect.sense = x.sense := Transport.run_sense ..

@[simp] theorem Transport.rewindRow_sense : x.rewindRow.sense = x.sense := by
  unfold Transport.rewindRow; split <;> simp

@[simp] theorem Transport.takeLeg_sense (leg : LocateLeg) : (x.takeLeg leg).sense = x.sense := by
  unfold Transport.takeLeg; cases leg <;> simp

@[simp] theorem Transport.planAim_sense : x.planAim.sense = x.sense := by
  unfold Transport.planAim; dsimp only; repeat' split
  all_goals simp

@[simp] theorem Transport.planPresent_sense : x.planPresent.sense = x.sense := Transport.approachOver_sense ..

@[simp] theorem Transport.planFromLoadPoint_sense : x.planFromLoadPoint.sense = x.sense :=
  Transport.approachOver_sense ..

@[simp] theorem Transport.planBlock_sense (w : Waypoint) : (x.planBlock w).sense = x.sense := by
  unfold Transport.planBlock; repeat' split
  all_goals simp

@[simp] theorem Transport.standOffBegins_sense (accepted : Bool) : (x.standOffBegins accepted).sense = x.sense := rfl

@[simp] theorem Transport.maybeCountSpace_sense : x.maybeCountSpace.sense = x.sense := by
  unfold Transport.maybeCountSpace; split <;> simp

@[simp] theorem Transport.passageCount_sense (n : Nat) : (x.passageCount n).sense = x.sense := by
  unfold Transport.passageCount; split <;> simp

@[simp] theorem Transport.passageBack_sense (n : Nat) : (x.passageBack n).sense = x.sense := by
  unfold Transport.passageBack; dsimp only; split <;> rfl

@[simp] theorem Transport.standOffMeasured_sense (start : Int) : (x.standOffMeasured start).sense = x.sense :=
  Transport.run_sense ..

@[simp] theorem Transport.locateMarker_sense (e : EdgeEvent) : (x.locateMarker e).sense = x.sense := by
  unfold Transport.locateMarker; dsimp only; repeat' split
  all_goals rfl

@[simp] theorem Transport.backUp_sense : x.backUp.sense = x.sense := Transport.run_sense ..

@[simp] theorem Transport.standOffCorrect_sense (start : Int) : (x.standOffCorrect start).sense = x.sense :=
  Transport.run_sense ..

@[simp] theorem Transport.skipOver_sense : x.skipOver.sense = x.sense := by
  unfold Transport.skipOver; split <;> rfl

@[simp] theorem Transport.handOverBytes_sense : x.handOverBytes.sense = x.sense := by
  unfold Transport.handOverBytes; dsimp only; split <;> rfl

@[simp] theorem Transport.detectorStep_sense (h : HeadSample) : (x.detectorStep h).sense = x.sense := by
  simp [Transport.detectorStep]

@[simp] theorem Transport.eraseStep_sense : x.eraseStep.sense = x.sense := by
  unfold Transport.eraseStep; repeat' split
  all_goals rfl

@[simp] theorem Transport.beginSeek_sense : x.beginSeek.sense = x.sense := by
  unfold Transport.beginSeek; split <;> simp

@[simp] theorem Transport.botMet_sense (e : EdgeEvent) : (x.botMet e).sense = x.sense := by
  unfold Transport.botMet; split <;> rfl

@[simp] theorem Transport.offEvent_sense : x.offEvent.sense = x.sense := by
  unfold Transport.offEvent; split <;> rfl

@[simp] theorem Transport.locateAbandon_sense (code : Nat) : (x.locateAbandon code).sense = x.sense := by
  unfold Transport.locateAbandon; split <;> simp

@[simp] theorem Transport.shuttleReached_sense : x.shuttleReached.sense = x.sense := by
  unfold Transport.shuttleReached; split <;> rfl

end

end Sys2Proof.Machine
end

section
/-! PROOF. What every operation of one transport keeps: what holds of its Sensing Interface, where the operation does not
sample an input, and the maps in order with the pool counted (R93, R95); PATH GOOD follows its levels (R8). -/
namespace Sys2Proof.Machine

/-- What is watched while an operation runs: a property of the Sensing Interface of its transport, and whether the maps
are to be in order. -/
structure Watch where
  sensing : Sensing → Prop
  maps : Prop

/-- What is watched holds at transport `t`. -/
def State.SoundAt (W : Watch) (s : State) (t : Tr) : Prop :=
  W.sensing (s.tr t).sense ∧ (W.maps → s.store.Ordered)

/-- PATH GOOD is what the levels make it (R8). -/
def Sensing.PathFollows (x : Sensing) : Prop := x.pathGood = pathGoodOf x

/-- Watching that PATH GOOD follows the levels where `q` holds, and the maps where `b` does. -/
def Watch.path (q b : Prop) : Watch := { sensing := fun x => q → x.PathFollows, maps := b }

section
variable {W : Watch} {q b : Prop} {s s' : State} {t : Tr}

/-! ### Changes of the records -/

theorem State.SoundAt.congr (h : s.SoundAt W t) (hsense : (s'.tr t).sense = (s.tr t).sense) (hstore : s'.store = s.store) :
    s'.SoundAt W t := by
  rwa [State.SoundAt, hsense, hstore]

theorem State.SoundAt.modTr (h : s.SoundAt W t) {f : Transport → Transport} (hf : ∀ x, (f x).sense = x.sense) :
    (s.modTr t f).SoundAt W t :=
  h.congr (by rw [State.tr_modTr_same, hf]) rfl

theorem State.SoundAt.modPort (h : s.SoundAt W t) (f : Port → Port) : (s.modPort t f).SoundAt W t := h.modTr fun _ => rfl
theorem State.SoundAt.modCtl (h : s.SoundAt W t) (f : Control → Control) : (s.modCtl t f).SoundAt W t := h.modTr fun _ => rfl
theorem State.SoundAt.modDrive (h : s.SoundAt W t) (f : Drive → Drive) : (s.modDrive t f).SoundAt W t := h.modTr fun _ => rfl
theorem State.SoundAt.modChan (h : s.SoundAt W t) (f : Channel → Channel) : (s.modChan t f).SoundAt W t := h.modTr fun _ => rfl
theorem State.SoundAt.modXfer (h : s.SoundAt W t) (f : Transfer → Transfer) : (s.modXfer t f).SoundAt W t :=
  h.modTr fun _ => rfl
theorem State.SoundAt.modLoc (h : s.SoundAt W t) (f : Locate → Locate) : (s.modLoc t f).SoundAt W t := h.modTr fun _ => rfl
theorem State.SoundAt.modReck (h : s.SoundAt W t) (f : Reckoning → Reckoning) : (s.modReck t f).SoundAt W t :=
  h.modTr fun _ => Transport.setReck_sense ..

/-- A change of the Sensing Interface that leaves PATH GOOD and what it is made of. -/
theorem State.SoundAt.modSense (h : s.SoundAt (.path q b) t) {f : Sensing → Sensing}
    (hf : ∀ x, (f x).pathGood = x.pathGood ∧ pathGoodOf (f x) = pathGoodOf x) :
    (s.modSense t f).SoundAt (.path q b) t :=
  ⟨by simpa [Watch.path, Sensing.PathFollows, hf] using h.1, h.2⟩

theorem State.SoundAt.refresh (h : s.SoundAt (.path q b) t) : (s.refresh t).SoundAt (.path q b) t :=
  ⟨by simpa [Watch.path, Sensing.PathFollows, Transport.refresh, pathGoodOf] using h.1, h.2⟩

theorem State.SoundAt.raiseInd (h : s.SoundAt W t) (i : Indicator) : (s.raiseInd t i).SoundAt W t := h.modPort _
theorem State.SoundAt.raiseAtt (h : s.SoundAt W t) (a : Attention) : (s.raiseAtt t a).SoundAt W t := h.modPort _

theorem State.SoundAt.raiseIndIf (h : s.SoundAt W t) (b : Bool) (i : Indicator) : (s.raiseIndIf t b i).SoundAt W t := by
  unfold State.raiseIndIf; split
  · exact h.raiseInd i
  · exact h

theorem State.SoundAt.raiseCause (h : s.SoundAt W t) (a : Attention) : (s.raiseCause t a).SoundAt W t := by
  unfold State.raiseCause; split
  · exact h
  · exact h.raiseAtt a

theorem State.SoundAt.requestControl (h : s.SoundAt W t) (x : BusTransfer) : (s.requestControl t x).SoundAt W t := h
theorem State.SoundAt.requestData (h : s.SoundAt W t) (k : TransferKind) : (s.requestData t k).SoundAt W t := h
theorem State.SoundAt.withdrawControl (h : s.SoundAt W t) : (s.withdrawControl t).SoundAt W t := h
theorem State.SoundAt.withdrawData (h : s.SoundAt W t) : (s.withdrawData t).SoundAt W t := h
theorem State.SoundAt.releaseExchange (h : s.SoundAt W t) : (s.releaseExchange t).SoundAt W t := h

theorem State.SoundAt.formTermination (h : s.SoundAt W t) (r : OrderResult) : (s.formTermination t r).SoundAt W t :=
  h.congr (by simp [State.formTermination, State.tr, State.requestControl, State.setTr]) rfl

/-! ### Changes of a reel record (R24, R92, R94, R96, R105) -/

/-- A record replaced by one in order, for whose entries the pool has room. -/
theorem State.SoundAt.setReel (h : s.SoundAt W t) {r : ReelRecord}
    (hr : W.maps → EntriesOrdered r.entries ∧ r.entries.length ≤ 1024 ∧
      r.entries.length ≤ s.store.poolFree + (s.reel t).entries.length) : (s.setReel t r).SoundAt W t :=
  ⟨h.1, fun hw => (h.2 hw).set t (hr hw).1 (hr hw).2.1 (hr hw).2.2⟩

theorem State.SoundAt.entries (h : s.SoundAt W t) (hw : W.maps) : EntriesOrdered (s.reel t).entries := ((h.2 hw).1 t).1
theorem State.SoundAt.entries_le (h : s.SoundAt W t) (hw : W.maps) : (s.reel t).entries.length ≤ 1024 := ((h.2 hw).1 t).2

/-- A record replaced by one in order with no more entries. -/
theorem State.SoundAt.setReel_le (h : s.SoundAt W t) {r : ReelRecord} (hr : W.maps → EntriesOrdered r.entries)
    (hle : r.entries.length ≤ (s.reel t).entries.length) : (s.setReel t r).SoundAt W t :=
  h.setReel fun hw => ⟨hr hw, hle.trans (h.entries_le hw), hle.trans (Nat.le_add_left ..)⟩

theorem State.SoundAt.setReel_nil (h : s.SoundAt W t) {r : ReelRecord} (hr : r.entries = []) : (s.setReel t r).SoundAt W t :=
  h.setReel_le (fun _ => hr ▸ .nil) (by simp [hr])

theorem State.SoundAt.setReel_same (h : s.SoundAt W t) {r : ReelRecord} (hr : r.entries = (s.reel t).entries) :
    (s.setReel t r).SoundAt W t :=
  h.setReel_le (fun hw => hr ▸ h.entries hw) (by simp [hr])

theorem State.SoundAt.setReel_filter (h : s.SoundAt W t) {r : ReelRecord} (p : Entry → Bool)
    (hr : r.entries = (s.reel t).entries.filter p) : (s.setReel t r).SoundAt W t :=
  h.setReel_le (fun hw => hr ▸ (h.entries hw).filter p) (hr ▸ List.length_filter_le ..)

theorem State.SoundAt.setEntries_filter (h : s.SoundAt W t) (p : Entry → Bool) :
    (s.setEntries t ((s.reel t).entries.filter p)).SoundAt W t :=
  h.setReel_filter p rfl

theorem attachReel_entries (r : ReelRecord) (tag : Option Tag) (autoFile : Bool) :
    (attachReel r tag autoFile).entries = r.entries ∨ (attachReel r tag autoFile).entries = [] := by
  unfold attachReel; repeat' split
  · exact .inr rfl
  · exact .inl rfl
  · exact .inr rfl

theorem State.SoundAt.attach (h : s.SoundAt W t) (tag : Option Tag) (autoFile : Bool) :
    (s.attach t tag autoFile).SoundAt W t := by
  unfold State.attach
  rcases attachReel_entries (s.reel t) tag autoFile with hr | hr
  · exact (h.setReel_same hr).raiseIndIf _ _
  · exact (h.setReel_nil hr).raiseIndIf _ _

theorem State.SoundAt.attachPanel (h : s.SoundAt W t) : (s.attachPanel t).SoundAt W t := by
  unfold State.attachPanel; split
  · exact h.setReel_nil rfl
  · exact h

theorem State.SoundAt.holdReel (h : s.SoundAt W t) : (s.holdReel t).SoundAt W t := by
  unfold State.holdReel; split
  · exact h.setReel_same rfl
  · exact h

theorem State.SoundAt.retireReel (h : s.SoundAt W t) : (s.retireReel t).SoundAt W t := by
  unfold State.retireReel; split
  · exact (h.setReel_nil rfl).raiseIndIf _ _
  · exact h

theorem State.SoundAt.setEod (h : s.SoundAt W t) (n : Nat) : (s.setEod t n).SoundAt W t :=
  (h.setReel_filter _ rfl).raiseIndIf _ _

theorem State.SoundAt.writeStart (h : s.SoundAt W t) (n : Option Nat) : (s.writeStart t n).SoundAt W t := by
  unfold State.writeStart; dsimp only; split
  · exact h
  · exact (h.setReel_nil rfl).raiseIndIf _ _
  · exact h.setEod _
  · exact (h.setReel_nil rfl).raiseIndIf _ _

/-! ### Entries placed (R97, R100, R109, R113) -/

/-- An entry placed in the list when no entry that stays shares its mark and the pool has room for it. -/
theorem State.SoundAt.setEntries_place (h : s.SoundAt W t) {e : Entry}
    (he : W.maps → markFits e = true ∧ (∀ f ∈ (s.reel t).entries, f.block ≠ e.block → f.mark ≠ e.mark) ∧
      1 ≤ s.store.poolFree ∧ (s.reel t).entries.length < 1024) :
    (s.setEntries t (placeEntry (s.reel t).entries e)).SoundAt W t := by
  have hle : (placeEntry (s.reel t).entries e).length ≤ (s.reel t).entries.length + 1 :=
    (placeEntry_length_le _ e).trans (Nat.succ_le_succ (List.length_filter_le ..))
  refine h.setReel fun hw => ?_
  obtain ⟨hfit, hmark, hpool, hlen⟩ := he hw
  exact ⟨(h.entries hw).place hfit hmark, by dsimp only; omega, by dsimp only; omega⟩

/-- An entry placed in the stead of one of its block and its mark. -/
theorem State.SoundAt.setEntries_replace (h : s.SoundAt W t) {e f : Entry} (hmem : f ∈ (s.reel t).entries)
    (hblock : f.block = e.block) (hmark : f.mark = e.mark) (hkind : f.kind = e.kind) :
    (s.setEntries t (placeEntry (s.reel t).entries e)).SoundAt W t := by
  refine h.setReel_le (fun hw => (h.entries hw).place ?_ fun a ha hne => ?_) (placeEntry_length_le_of_mem hmem hblock)
  · simpa [markFits, hmark, hkind] using (h.entries hw).2.2 f hmem
  · have : Std.Symm fun a b : Entry => a.mark ≠ b.mark := ⟨fun _ _ => Ne.symm⟩
    have haf : a ≠ f := fun haf => hne (haf ▸ hblock)
    exact hmark ▸ (h.entries hw).2.1.forall ha hmem haf

theorem State.SoundAt.moveEntry (h : s.SoundAt W t) {e : Entry} (he : e ∈ (s.reel t).entries) (m : Int)
    (bound : Option Nat) : (s.moveEntry t e m bound).SoundAt W t :=
  ((h.setEntries_replace he (by simp) (by simp) (by simp)).raiseIndIf _ _).raiseIndIf _ _

theorem State.SoundAt.reanchorRequest (h : s.SoundAt W t) (b : Nat) (m q : Int) (bound : Nat) :
    (s.reanchorRequest t b m q bound).SoundAt W t :=
  h.modTr fun _ => rfl

theorem State.SoundAt.confirmEntry (h : s.SoundAt W t) {e : Entry} (he : e ∈ (s.reel t).entries) (m : Int) (a : Anchor)
    (bound : Nat) : (s.confirmEntry t e m a bound).SoundAt W t := by
  unfold State.confirmEntry; split
  · exact h
  · exact h.moveEntry he _ _
  · exact h.moveEntry he _ _
  · exact h.reanchorRequest ..

/-- With the FILE entry of a mark taken out where it stands at another block, no entry of another block has that mark. -/
theorem fileMark_absent {es : List Entry} {b f : Nat} (hfits : ∀ e ∈ es, markFits e = true)
    (hstands : (es.any fun e => e.block = b && e.kind = .file && e.mark = 50000 + f) = false)
    (hstale : staleFile es b f = false) : ∀ e ∈ es, e.mark ≠ 50000 + f := by
  intro e he hm
  have hk : e.kind = .file := ((markFits_iff e).mp (hfits e he)).mpr (by omega)
  simp only [staleFile, List.any_eq_false] at hstands hstale
  have h1 := hstands e he
  have h2 := hstale e he
  simp [hk, hm] at h1 h2
  exact h1 h2

theorem State.SoundAt.fileStep (h : s.SoundAt W t) (b f : Nat) (start : Int) (a : Anchor) (bound : Nat) (sound : Bool) :
    (s.fileStep t b f start a bound sound).SoundAt W t := by
  unfold State.fileStep
  dsimp only
  split
  case isFalse => exact h
  split
  case isTrue => exact h
  split
  case isTrue => exact h.raiseInd _
  rename_i hstands hrefused
  simp only [fileRefused, Bool.or_eq_true, Bool.not_eq_true', Bool.and_eq_false_iff, decide_eq_true_eq, not_or,
    decide_eq_false_iff_not, not_le, not_lt] at hrefused
  obtain ⟨-, hroom⟩ := hrefused
  refine State.SoundAt.raiseIndIf ?_ _ _
  cases hstale : staleFile (s.reel t).entries b f
  · simp only [hstale, Bool.false_eq_true, if_false] at hroom ⊢
    refine h.setEntries_place fun hw => ⟨?_, fun e he _ => ?_, by omega, by omega⟩
    · simp [markFits]; omega
    · simpa using fileMark_absent (h.entries hw).2.2 (eq_false_of_ne_true hstands) hstale e he
  · simp only [hstale, if_true] at hroom ⊢
    have hs := (h.setEntries_filter fun e => !(e.mark = 50000 + f && e.kind = .file)).raiseInd .mapChanged
    obtain ⟨e, he, hmark⟩ := List.any_eq_true.mp hstale
    have hshort := List.length_filter_lt_length_iff_exists (p := fun e => !(e.mark = 50000 + f && e.kind = .file)).mpr
      ⟨e, he, by simp_all⟩
    have hreel : ((((s.setEntries t ((s.reel t).entries.filter fun e => !(e.mark = 50000 + f && e.kind = .file))).raiseInd
        t .mapChanged)).reel t).entries = (s.reel t).entries.filter fun e => !(e.mark = 50000 + f && e.kind = .file) := by
      simp [State.raiseInd]
    refine hs.setEntries_place fun hw => ⟨?_, fun g hg _ => ?_, ?_, ?_⟩
    · simp [markFits]; omega
    · rw [hreel, List.mem_filter] at hg
      obtain ⟨hg, hkeep⟩ := hg
      intro hm
      have hk := ((markFits_iff g).mp ((h.entries hw).2.2 g hg)).mpr (by simp at hm; omega)
      simp_all
    · change 1 ≤ s.store.poolFree + (s.reel t).entries.length -
        ((s.reel t).entries.filter fun e => !(e.mark = 50000 + f && e.kind = .file)).length
      omega
    · rw [hreel]
      omega

theorem State.SoundAt.endOrder (h : s.SoundAt W t) (r : OrderResult) : (s.endOrder t r).SoundAt W t := by
  unfold State.endOrder; repeat' split
  all_goals apply_rules [h, SoundAt.formTermination, SoundAt.modPort]

theorem State.SoundAt.endWith (h : s.SoundAt W t) (c : Condition) : (s.endWith t c).SoundAt W t := by
  unfold State.endWith
  apply_rules [h, SoundAt.endOrder]

theorem State.SoundAt.releaseHeld (h : s.SoundAt W t) : (s.releaseHeld t).SoundAt W t := by
  unfold State.releaseHeld; repeat' split
  all_goals apply_rules [h, SoundAt.formTermination]

theorem State.SoundAt.mapWritten (h : s.SoundAt W t) (w : WrittenReport) (anchor : Anchor) (bound : Nat) :
    (s.mapWritten t w anchor bound).SoundAt W t := by
  unfold State.mapWritten; dsimp only; repeat' split
  all_goals apply_rules [h, SoundAt.fileStep, SoundAt.setEod]

/-- The entry found for a block is one of the list. -/
theorem findBlock_mem {es : List Entry} {b : Nat} {e : Entry} (he : findBlock es b = some e) : e ∈ es :=
  List.mem_of_find?_eq_some he

/-- The entry found for a mark is one of the list. -/
theorem findMark_mem {es : List Entry} {m : Nat} {e : Entry} (he : findMark es m = some e) : e ∈ es :=
  List.mem_of_find?_eq_some he

theorem findMark_mark {es : List Entry} {m : Nat} {e : Entry} (he : findMark es m = some e) : e.mark = m := by
  simpa using List.find?_some he

theorem State.SoundAt.stampReport (h : s.SoundAt W t) (b f : Nat) (kind : RecordKind) (m : Int) (anchor : Anchor)
    (bound : Nat) : (s.stampReport t b f kind m anchor bound).SoundAt W t := by
  have hentry : ∀ e, findBlock (s.reel t).entries b = some e →
      (if fileDisagrees e f kind then
        (s.setEntries t ((s.reel t).entries.filter (·.block ≠ b))).raiseInd t .mapChanged
      else s.confirmEntry t e m anchor bound).SoundAt W t := by
    intro e he
    split
    · exact (h.setEntries_filter _).raiseInd _
    · exact h.confirmEntry (findBlock_mem he) ..
  unfold State.stampReport
  split
  case isFalse => exact h
  cases he : findBlock (s.reel t).entries b with
  | none =>
    cases kind
    · exact h
    · exact h.fileStep ..
  | some e =>
    cases kind
    · exact hentry e he
    · exact (hentry e he).fileStep ..



/-- What checks 7 to 10 of an ENTER MARK establish when they pass (R99). -/
theorem enterCheckMap_none {o : EnterOperands} (hm : enterCheckMap s t o = none) :
    ((findMark (s.reel t).entries o.mark).isSome = true → o.replace = true) ∧
      1 ≤ s.store.poolFree + (if (findMark (s.reel t).entries o.mark).isSome then 1 else 0) ∧
      (s.reel t).entries.length < 1024 + (if (findMark (s.reel t).entries o.mark).isSome then 1 else 0) := by
  unfold enterCheckMap at hm
  dsimp only at hm
  repeat' split at hm
  all_goals cases hm
  all_goals simp_all
  all_goals omega

theorem State.SoundAt.enterApply (h : s.SoundAt W t) {o : EnterOperands} {l : LastBlock} (tag : List Word)
    (ho : enterCheckOperands (s.reel t) o = none)
    (hm : enterCheckMap s t o = none) : (s.enterApply t o l tag).SoundAt W t := by
  obtain ⟨kind, hkind⟩ : ∃ k, kindOfField o.kindField = some k := by
    simp only [enterCheckOperands] at ho
    split_ifs at ho with h1 h2
    simp at h2
    exact Option.ne_none_iff_exists'.mp h2.1.1.2
  have hmark : o.mark ≤ 49999 := by
    simp only [enterCheckOperands] at ho
    split_ifs at ho with h1 h2
    simp at h2
    omega
  have hfile : kind ≠ .file := by
    unfold kindOfField at hkind
    split at hkind <;> cases hkind <;> decide
  have hfit : ∀ slot, markFits (enteredEntry l o tag slot) = true := by
    intro slot
    have : ¬ 49999 < o.mark := by omega
    simp [enteredEntry, markFits, hkind, hfile, this]
  obtain ⟨hreplace, hpool, hlen⟩ := enterCheckMap_none hm
  unfold State.enterApply
  dsimp only
  refine State.SoundAt.endOrder (State.SoundAt.raiseIndIf ?_ _ _) _
  cases hr : o.replace
  · have hnone : findMark (s.reel t).entries o.mark = none := by
      by_contra hsome
      exact absurd (hreplace (Option.isSome_iff_ne_none.mpr hsome)) (by simp [hr])
    simp only [hnone, Option.isSome_none, Bool.false_eq_true, if_false] at hpool hlen ⊢
    refine h.setEntries_place fun _ => ⟨hfit _, fun f hf _ => ?_, by omega, by omega⟩
    have := List.find?_eq_none.mp hnone f hf
    simpa [enteredEntry] using this
  · have hs := h.setEntries_filter (·.mark ≠ o.mark)
    have hreel : ((s.setEntries t ((s.reel t).entries.filter (·.mark ≠ o.mark))).reel t).entries =
        (s.reel t).entries.filter (·.mark ≠ o.mark) := by simp
    have hroom : ((s.reel t).entries.filter (·.mark ≠ o.mark)).length +
        (if (findMark (s.reel t).entries o.mark).isSome then 1 else 0) ≤ (s.reel t).entries.length := by
      split
      · rename_i hsome
        obtain ⟨e, he⟩ := Option.isSome_iff_exists.mp hsome
        have := List.length_filter_lt_length_iff_exists (p := fun f : Entry => decide (f.mark ≠ o.mark)).mpr
          ⟨e, findMark_mem he, by simpa using findMark_mark he⟩
        omega
      · exact List.length_filter_le ..
    simp only [if_true]
    refine hs.setEntries_place fun _ => ⟨hfit _, fun f hf _ => ?_, ?_, by rw [hreel]; omega⟩
    · rw [hreel, List.mem_filter] at hf
      simpa [enteredEntry] using hf.2
    · change 1 ≤ s.store.poolFree + (s.reel t).entries.length -
        ((s.reel t).entries.filter (·.mark ≠ o.mark)).length
      omega

theorem State.SoundAt.enterStage3 (h : s.SoundAt W t) (o : EnterOperands) (tag : List Word) :
    (s.enterStage3 t o tag).SoundAt W t := by
  unfold State.enterStage3
  repeat' split
  · exact h.endWith _
  · exact h.endWith _
  · exact h.enterApply tag ‹_› ‹_›
  · exact h.endWith _

theorem State.SoundAt.amendStage3 (h : s.SoundAt W t) (o : AmendOperands) (tag : List Word) :
    (s.amendStage3 t o tag).SoundAt W t := by
  unfold State.amendStage3
  split
  · exact h.endWith _
  split
  · exact h.endWith _
  rename_i e he
  split
  · exact h.endWith _
  rename_i hkind
  refine State.SoundAt.endOrder (h.setReel_le (fun hw => (h.entries hw).map (fun f => ?_) fun f hf => ?_) (by simp)) _
  · split <;> exact ⟨rfl, rfl, rfl⟩
  · split
    · rename_i hm
      have hfe : f = e := by
        by_contra hne
        have : Std.Symm fun a b : Entry => a.mark ≠ b.mark := ⟨fun _ _ => Ne.symm⟩
        exact (h.entries hw).2.1.forall hf (findMark_mem he) hne (hm.trans (findMark_mark he).symm)
      subst hfe
      have hfit := (markFits_iff f).mp ((h.entries hw).2.2 f hf)
      rw [markFits_iff]
      cases hk : kindOfField o.kindField with
      | none => simpa [amendEntry, hk] using hfit
      | some k =>
        have hnot : k ≠ .file := by
          unfold kindOfField at hk
          split at hk <;> cases hk <;> decide
        have : f.kind ≠ .file := by simpa [hk] using hkind
        simp only [amendEntry, hk, Option.getD_some, hnot, false_iff]
        exact fun hlt => this (hfit.mpr hlt)
    · exact (h.entries hw).2.2 f hf

theorem State.SoundAt.retireStage3 (h : s.SoundAt W t) (mark : Nat) (following : Bool) :
    (s.retireStage3 t mark following).SoundAt W t := by
  unfold State.retireStage3; dsimp only; repeat' split
  · exact h.endWith _
  · exact h.endWith _
  · exact h.endWith _
  · exact (h.setEntries_filter _).endOrder _

theorem State.SoundAt.loseAnchor (h : s.SoundAt W t) : (s.loseAnchor t).SoundAt W t := by
  unfold State.loseAnchor
  apply_rules [h, SoundAt.modReck]

theorem State.SoundAt.xferIdle (h : s.SoundAt W t) : (s.xferIdle t).SoundAt W t := by
  unfold State.xferIdle
  apply_rules [h, SoundAt.withdrawData, SoundAt.modTr]

theorem State.SoundAt.xferEnd (h : s.SoundAt W t) (c : Condition) : (s.xferEnd t c).SoundAt W t := by
  unfold State.xferEnd; dsimp only
  apply_rules [h, SoundAt.xferIdle, SoundAt.endOrder, SoundAt.modPort]

theorem State.SoundAt.xferRefuse (h : s.SoundAt W t) (c : Condition) : (s.xferRefuse t c).SoundAt W t := by
  unfold State.xferRefuse
  apply_rules [h, SoundAt.endOrder]

theorem State.SoundAt.xferTest (h : s.SoundAt W t) : (s.xferTest t).SoundAt W t := by
  unfold State.xferTest; repeat' split
  all_goals apply_rules [h, SoundAt.requestData]

theorem State.SoundAt.beginWrite (h : s.SoundAt W t) (kind : RecordKind) (declared : Nat) :
    (s.beginWrite t kind declared).SoundAt W t := by
  unfold State.beginWrite; dsimp only; repeat' split
  all_goals apply_rules [h, SoundAt.xferEnd, SoundAt.writeStart, SoundAt.modTr]
  all_goals simp

theorem State.SoundAt.xferGo (h : s.SoundAt W t) (joined : Bool) : (s.xferGo t joined).SoundAt W t := by
  unfold State.xferGo; repeat' split
  all_goals apply_rules [h, SoundAt.beginWrite, SoundAt.writeStart, SoundAt.modTr]
  all_goals simp

theorem State.SoundAt.xferStart (h : s.SoundAt W t) : (s.xferStart t).SoundAt W t := by
  unfold State.xferStart; dsimp only; repeat' split
  all_goals apply_rules [h, SoundAt.xferGo, SoundAt.xferTest, SoundAt.modTr]

theorem State.SoundAt.xferTake (h : s.SoundAt W t) (x : Transfer) : (s.xferTake t x).SoundAt W t := by
  unfold State.xferTake; repeat' split
  all_goals apply_rules [h, SoundAt.xferStart, SoundAt.xferRefuse, SoundAt.modXfer, SoundAt.modTr]
  all_goals simp

theorem State.SoundAt.xferGiveBack (h : s.SoundAt W t) : (s.xferGiveBack t).SoundAt W t := by
  unfold State.xferGiveBack
  apply_rules [h, SoundAt.xferTest, SoundAt.modTr]

theorem State.SoundAt.xferHandingLost (h : s.SoundAt W t) : (s.xferHandingLost t).SoundAt W t := by
  unfold State.xferHandingLost; repeat' split
  all_goals apply_rules [h, SoundAt.xferGiveBack]

theorem State.SoundAt.readEnd (h : s.SoundAt W t) : (s.readEnd t).SoundAt W t := by
  unfold State.readEnd
  apply_rules [h, SoundAt.xferTest, SoundAt.modTr]

theorem State.SoundAt.passageRead (h : s.SoundAt W t) (p : Passage) (noTransfer : Bool) :
    (s.passageRead t p noTransfer).SoundAt W t := by
  unfold State.passageRead; dsimp only; repeat' split
  all_goals apply_rules [h, SoundAt.readEnd, SoundAt.xferTest, SoundAt.modXfer, SoundAt.modChan]

theorem State.SoundAt.passageSpace (h : s.SoundAt W t) : (s.passageSpace t).SoundAt W t := by
  have hs := h.modXfer fun x => { x with recordsLeft := x.recordsLeft - 1 }
  unfold State.passageSpace; dsimp only; repeat' split
  · exact (hs.modTr Transport.recordEnd_sense).xferEnd _
  · exact (hs.modTr Transport.recordEnd_sense).xferEnd _
  · exact hs

theorem State.SoundAt.xferPassage (h : s.SoundAt W t) (p : Passage) : (s.xferPassage t p).SoundAt W t := by
  unfold State.xferPassage; dsimp only; repeat' split
  all_goals apply_rules [h, SoundAt.passageSpace, SoundAt.passageRead, SoundAt.modXfer]

theorem State.SoundAt.xferWritten (h : s.SoundAt W t) (w : WrittenReport) : (s.xferWritten t w).SoundAt W t := by
  unfold State.xferWritten
  extract_lets x damaged mark
  split
  · split
    · exact h.modXfer _
    · exact ((h.modXfer mark).modTr Transport.recordEnd_sense).xferEnd _
  · exact h.modXfer mark
  · exact h

theorem State.SoundAt.xferStandstill (h : s.SoundAt W t) (a : Arrival) : (s.xferStandstill t a).SoundAt W t := by
  unfold State.xferStandstill; dsimp only; repeat' split
  all_goals apply_rules [h, SoundAt.xferGo, SoundAt.xferTest, SoundAt.xferEnd]

theorem State.SoundAt.xferPower (h : s.SoundAt W t) : (s.xferPower t).SoundAt W t := by
  unfold State.xferPower; repeat' split
  all_goals apply_rules [h, SoundAt.xferEnd, SoundAt.modXfer]

theorem State.SoundAt.xferAbandon (h : s.SoundAt W t) : (s.xferAbandon t).SoundAt W t := by
  unfold State.xferAbandon; repeat' split
  all_goals apply_rules [h, SoundAt.xferIdle, SoundAt.modChan]

theorem State.SoundAt.xferBusTimeout (h : s.SoundAt W t) (x : BusTransfer) (done : Nat) :
    (s.xferBusTimeout t x done).SoundAt W t := by
  unfold State.xferBusTimeout
  split
  · exact h.modXfer _
  · extract_lets ending begun s'
    have hs : s'.SoundAt W t := (h.modXfer _).modChan _
    split
    · exact hs
    split
    · exact hs.modXfer _
    · exact (hs.modTr Transport.recordEnd_sense).xferEnd _

theorem State.SoundAt.locateEndWith (h : s.SoundAt W t) (c : Condition) (value : BitVec 32) (markBlock : Option Nat) :
    (s.locateEndWith t c value markBlock).SoundAt W t := by
  unfold State.locateEndWith; dsimp only; repeat' split
  all_goals apply_rules [h, SoundAt.endOrder, SoundAt.raiseIndIf, SoundAt.modTr]
  all_goals simp

theorem State.SoundAt.locateFails (h : s.SoundAt W t) (c : Condition) : (s.locateFails t c).SoundAt W t := by
  unfold State.locateFails
  apply_rules [h, SoundAt.locateEndWith]

theorem State.SoundAt.locateFailMoving (h : s.SoundAt W t) (c : Condition) :
    (s.locateFailMoving t c).SoundAt W t := by
  unfold State.locateFailMoving; repeat' split
  all_goals apply_rules [h, SoundAt.locateFails, SoundAt.modTr]

theorem State.SoundAt.rewindComplete (h : s.SoundAt W t) : (s.rewindComplete t).SoundAt W t := by
  unfold State.rewindComplete; split
  · exact h.locateEndWith ..
  · exact h.locateEndWith ..
  · exact h.modTr fun x => by split <;> simp

theorem State.SoundAt.planRewinding (h : s.SoundAt W t) : (s.planRewinding t).SoundAt W t := by
  unfold State.planRewinding; repeat' split
  all_goals apply_rules [h, SoundAt.rewindComplete, SoundAt.modTr]
  all_goals simp

theorem State.SoundAt.locatePlan (h : s.SoundAt W t) : (s.locatePlan t).SoundAt W t := by
  unfold State.locatePlan; dsimp only; repeat' split
  all_goals apply_rules [h, SoundAt.planRewinding, SoundAt.modTr]
  all_goals simp

theorem State.SoundAt.locateBegin (h : s.SoundAt W t) : (s.locateBegin t).SoundAt W t := by
  unfold State.locateBegin; dsimp only; repeat' split
  all_goals apply_rules [h, SoundAt.locatePlan, SoundAt.modTr]

theorem State.SoundAt.beginRewind (h : s.SoundAt W t) (o : LocateOrder) : (s.beginRewind t o).SoundAt W t := by
  unfold State.beginRewind
  apply_rules [h, SoundAt.locateBegin, SoundAt.modTr]

theorem State.SoundAt.overshoot (h : s.SoundAt W t) (b target : Nat) : (s.overshoot t b target).SoundAt W t := by
  unfold State.overshoot; dsimp only; repeat' split
  all_goals apply_rules [h, SoundAt.locateFailMoving, SoundAt.modTr]

theorem State.SoundAt.passageDecode (h : s.SoundAt W t) (p : Passage) (target : Nat) :
    (s.passageDecode t p target).SoundAt W t := by
  unfold State.passageDecode; repeat' split
  all_goals apply_rules [h, SoundAt.overshoot, SoundAt.modTr]
  all_goals simp

theorem State.SoundAt.standOffMissed (h : s.SoundAt W t) : (s.standOffMissed t).SoundAt W t := by
  unfold State.standOffMissed; dsimp only; repeat' split
  all_goals apply_rules [h, SoundAt.locateFailMoving, SoundAt.modTr]

theorem State.SoundAt.passageStandOff (h : s.SoundAt W t) (p : Passage) (target : Nat) :
    (s.passageStandOff t p target).SoundAt W t := by
  unfold State.passageStandOff; repeat' split
  all_goals apply_rules [h, SoundAt.standOffMissed, SoundAt.modTr]
  all_goals simp

theorem State.SoundAt.locatePassage (h : s.SoundAt W t) (p : Passage) : (s.locatePassage t p).SoundAt W t := by
  unfold State.locatePassage; dsimp only; repeat' split
  all_goals apply_rules [h, SoundAt.passageStandOff, SoundAt.passageDecode, SoundAt.modTr]
  all_goals simp

theorem State.SoundAt.locateBlank (h : s.SoundAt W t) : (s.locateBlank t).SoundAt W t := by
  unfold State.locateBlank; dsimp only; repeat' split
  all_goals apply_rules [h, SoundAt.locateFailMoving]

theorem State.SoundAt.standOffComplete (h : s.SoundAt W t) : (s.standOffComplete t).SoundAt W t := by
  unfold State.standOffComplete; dsimp only; repeat' split
  all_goals apply_rules [h, SoundAt.locateFails, SoundAt.locateEndWith]

theorem State.SoundAt.judgeRewind (h : s.SoundAt W t) : (s.judgeRewind t).SoundAt W t := by
  unfold State.judgeRewind; dsimp only; repeat' split
  all_goals apply_rules [h, SoundAt.rewindComplete, SoundAt.locateFails, SoundAt.modTr]
  all_goals simp

theorem State.SoundAt.rewindStandstill (h : s.SoundAt W t) : (s.rewindStandstill t).SoundAt W t := by
  unfold State.rewindStandstill; dsimp only; repeat' split
  all_goals apply_rules [h, SoundAt.judgeRewind, SoundAt.planRewinding, SoundAt.locateFails, SoundAt.modTr]
  all_goals simp

theorem State.SoundAt.standOffStandstill (h : s.SoundAt W t) (a : Arrival) :
    (s.standOffStandstill t a).SoundAt W t := by
  unfold State.standOffStandstill; dsimp only; repeat' split
  all_goals apply_rules [h, SoundAt.standOffComplete, SoundAt.modTr]
  all_goals simp

theorem State.SoundAt.locateStandstill (h : s.SoundAt W t) (a : Arrival) : (s.locateStandstill t a).SoundAt W t := by
  unfold State.locateStandstill; dsimp only; repeat' split
  all_goals apply_rules [h, SoundAt.standOffStandstill, SoundAt.rewindStandstill, SoundAt.locatePlan,
    SoundAt.locateFails, SoundAt.modTr]
  all_goals simp

theorem State.SoundAt.locatePower (h : s.SoundAt W t) : (s.locatePower t).SoundAt W t := by
  unfold State.locatePower; dsimp only; repeat' split
  all_goals apply_rules [h, SoundAt.locateFails, SoundAt.modTr]
  all_goals simp

theorem State.SoundAt.stampToMap (h : s.SoundAt W t) (p : Passage) : (s.stampToMap t p).SoundAt W t := by
  unfold State.stampToMap; repeat' split
  all_goals apply_rules [h, SoundAt.stampReport]

theorem State.SoundAt.deliverPassage (h : s.SoundAt W t) (p : Passage) : (s.deliverPassage t p).SoundAt W t := by
  unfold State.deliverPassage
  apply_rules [h, SoundAt.stampToMap, SoundAt.locatePassage, SoundAt.xferPassage, SoundAt.raiseIndIf, SoundAt.modTr]

theorem State.SoundAt.deliverWritten (h : s.SoundAt W t) (w : WrittenReport) :
    (s.deliverWritten t w).SoundAt W t := by
  unfold State.deliverWritten
  apply_rules [h, SoundAt.xferWritten, SoundAt.mapWritten, SoundAt.modTr]

theorem State.SoundAt.handingLostIf (h : s.SoundAt W t) (b : Bool) : (s.handingLostIf t b).SoundAt W t := by
  unfold State.handingLostIf; repeat' split
  all_goals apply_rules [h, SoundAt.xferHandingLost]

theorem State.SoundAt.closeRecord (h : s.SoundAt W t) (r : RecordInProgress) : (s.closeRecord t r).SoundAt W t := by
  unfold State.closeRecord; dsimp only; repeat' split
  all_goals apply_rules [h, SoundAt.handingLostIf, SoundAt.deliverPassage, SoundAt.raiseIndIf, SoundAt.raiseInd,
    SoundAt.modChan, SoundAt.modTr]
  all_goals simp

theorem State.SoundAt.discardRecord (h : s.SoundAt W t) : (s.discardRecord t).SoundAt W t := by
  unfold State.discardRecord
  apply_rules [h, SoundAt.handingLostIf, SoundAt.modChan, SoundAt.modTr]
  all_goals simp

theorem State.SoundAt.deliverWrittenIf (h : s.SoundAt W t) (w : Option WrittenReport) :
    (s.deliverWrittenIf t w).SoundAt W t := by
  cases w with
  | none => exact h
  | some w => exact h.deliverWritten w

theorem State.SoundAt.chanStops (h : s.SoundAt W t) : (s.chanStops t).SoundAt W t := by
  unfold State.chanStops
  apply_rules [h, SoundAt.deliverWrittenIf, SoundAt.discardRecord, SoundAt.modChan]

theorem State.SoundAt.driveMode (h : s.SoundAt W t) (m : DriveMode) : (s.driveMode t m).SoundAt W t := by
  unfold State.driveMode; dsimp only; repeat' split
  all_goals apply_rules [h, SoundAt.chanStops, SoundAt.modReck, SoundAt.modDrive]

theorem State.SoundAt.chanClear (h : s.SoundAt W t) : (s.chanClear t).SoundAt W t := by
  unfold State.chanClear
  apply_rules [h, SoundAt.discardRecord, SoundAt.modChan]

theorem State.SoundAt.chanPower (h : s.SoundAt W t) : (s.chanPower t).SoundAt W t := by
  unfold State.chanPower
  apply_rules [h, SoundAt.discardRecord, SoundAt.modChan]

theorem State.SoundAt.detect (h : s.SoundAt W t) (hd : HeadSample) : (s.detect t hd).SoundAt W t := by
  have hs : (s.modTr t fun x => (x.detectorStep hd).skipOver).SoundAt W t := h.modTr (by simp)
  unfold State.detect; dsimp only; split
  · exact (hs.modChan _).xferHandingLost
  · exact hs

theorem State.SoundAt.readyDrive (h : s.SoundAt W t) : (s.readyDrive t).SoundAt W t := by
  unfold State.readyDrive; dsimp only; repeat' split
  all_goals apply_rules [h, SoundAt.driveMode, SoundAt.modDrive]

theorem State.SoundAt.enter (h : s.SoundAt W t) (st : TState) : (s.enter t st).SoundAt W t := by
  unfold State.enter; dsimp only; repeat' split
  all_goals apply_rules [h, SoundAt.readyDrive, SoundAt.driveMode, SoundAt.modDrive, SoundAt.modCtl]

theorem State.SoundAt.disengage (h : s.SoundAt W t) : (s.disengage t).SoundAt W t := by
  unfold State.disengage
  apply_rules [h, SoundAt.driveMode, SoundAt.modDrive]

theorem State.SoundAt.toUnloaded (h : s.SoundAt W t) : (s.toUnloaded t).SoundAt W t := by
  unfold State.toUnloaded
  apply_rules [h, SoundAt.disengage, SoundAt.enter, SoundAt.loseAnchor]

theorem State.SoundAt.dropTape (h : s.SoundAt W t) : (s.dropTape t).SoundAt W t := by
  unfold State.dropTape
  apply_rules [h, SoundAt.disengage, SoundAt.enter, SoundAt.loseAnchor, SoundAt.holdReel]

/-- An order taken keeps what its owner's work keeps. -/
theorem State.SoundAt.takeOrder (h : s.SoundAt W t) {code : Nat} {f : State → OrderCopy → State}
    (hf : ∀ s c, State.SoundAt W s t → (f s c).SoundAt W t) : (s.takeOrder t code f).SoundAt W t := by
  have hs := h.modPort fun p => { p with stage := .taken }
  unfold State.takeOrder; dsimp only; repeat' split
  · exact hs.endWith _
  · exact hf _ _ hs
  · exact h
  · exact h

theorem State.SoundAt.beginLoad (h : s.SoundAt W t) (o : Operation) (tag : Option Tag) (autoFile : Bool) :
    (s.beginLoad t o tag autoFile).SoundAt W t := by
  unfold State.beginLoad
  apply_rules [h, SoundAt.enter, SoundAt.modCtl]

theorem State.SoundAt.failLoad (h : s.SoundAt W t) (c : Option Condition) : (s.failLoad t c).SoundAt W t := by
  unfold State.failLoad; dsimp only; repeat' split
  all_goals apply_rules [h, SoundAt.raiseCause, SoundAt.modDrive, SoundAt.modCtl, SoundAt.modPort]

theorem State.SoundAt.forgetLoad (h : s.SoundAt W t) : (s.forgetLoad t).SoundAt W t := by
  unfold State.forgetLoad
  apply_rules [h, SoundAt.failLoad, SoundAt.modCtl]

theorem State.SoundAt.loadFailed (h : s.SoundAt W t) : (s.loadFailed t).SoundAt W t := by
  unfold State.loadFailed; dsimp only; repeat' split
  all_goals apply_rules [h, SoundAt.toUnloaded, SoundAt.releaseHeld, SoundAt.endWith, SoundAt.modCtl]

theorem State.SoundAt.threaded (h : s.SoundAt W t) : (s.threaded t).SoundAt W t := by
  unfold State.threaded
  apply_rules [h, SoundAt.enter, SoundAt.driveMode, SoundAt.modDrive, SoundAt.modTr]
  all_goals simp

theorem State.SoundAt.threadCheck (h : s.SoundAt W t) : (s.threadCheck t).SoundAt W t := by
  unfold State.threadCheck; dsimp only; repeat' split
  all_goals apply_rules [h, SoundAt.threaded, SoundAt.modCtl]

theorem State.SoundAt.loadEnds (h : s.SoundAt W t) : (s.loadEnds t).SoundAt W t := by
  unfold State.loadEnds; dsimp only; repeat' split
  all_goals apply_rules [h, SoundAt.enter, SoundAt.attachPanel, SoundAt.attach, SoundAt.endOrder, SoundAt.raiseCause,
    SoundAt.modCtl]

theorem State.SoundAt.seekMarker (h : s.SoundAt W t) (e : EdgeEvent) : (s.seekMarker t e).SoundAt W t := by
  unfold State.seekMarker; dsimp only; repeat' split
  all_goals apply_rules [h, SoundAt.loadFailed, SoundAt.failLoad, SoundAt.modTr]
  all_goals simp

theorem State.SoundAt.emergency (h : s.SoundAt W t) (k : FaultKind) : (s.emergency t k).SoundAt W t := by
  unfold State.emergency; dsimp only; repeat' split
  all_goals apply_rules [h, SoundAt.raiseCause, SoundAt.modPort, SoundAt.modTr]

theorem State.SoundAt.pathBroken (h : s.SoundAt W t) : (s.pathBroken t).SoundAt W t := by
  unfold State.pathBroken
  apply_rules [h, SoundAt.modCtl]

theorem State.SoundAt.endUnload (h : s.SoundAt W t) (c : Condition) : (s.endUnload t c).SoundAt W t := by
  unfold State.endUnload; repeat' split
  all_goals apply_rules [h, SoundAt.endOrder]

theorem State.SoundAt.emergencyComplete (h : s.SoundAt W t) : (s.emergencyComplete t).SoundAt W t := by
  unfold State.emergencyComplete; dsimp only; repeat' split
  all_goals apply_rules [h, SoundAt.endUnload, SoundAt.loadFailed, SoundAt.enter, SoundAt.loseAnchor,
    SoundAt.holdReel, SoundAt.releaseHeld, SoundAt.modCtl]

theorem State.SoundAt.clearTheFault (h : s.SoundAt W t) : (s.clearTheFault t).SoundAt W t := by
  unfold State.clearTheFault; dsimp only; repeat' split
  all_goals apply_rules [h, SoundAt.dropTape, SoundAt.enter, SoundAt.endWith, SoundAt.modCtl]

theorem State.SoundAt.beginUnload (h : s.SoundAt W t) (o : Operation) (keep : Bool) :
    (s.beginUnload t o keep).SoundAt W t := by
  unfold State.beginUnload
  apply_rules [h, SoundAt.beginRewind, SoundAt.modCtl]

theorem State.SoundAt.startUnloading (h : s.SoundAt W t) : (s.startUnloading t).SoundAt W t := by
  unfold State.startUnloading; dsimp only; repeat' split
  all_goals apply_rules [h, SoundAt.enter, SoundAt.retireReel, SoundAt.holdReel, SoundAt.modCtl, SoundAt.modTr]
  all_goals simp

theorem State.SoundAt.takeRewound (h : s.SoundAt W t) : (s.takeRewound t).SoundAt W t := by
  unfold State.takeRewound; dsimp only; repeat' split
  all_goals apply_rules [h, SoundAt.startUnloading, SoundAt.endUnload, SoundAt.modLoc, SoundAt.modCtl]

theorem State.SoundAt.unloadEnds (h : s.SoundAt W t) : (s.unloadEnds t).SoundAt W t := by
  unfold State.unloadEnds; dsimp only; repeat' split
  all_goals apply_rules [h, SoundAt.disengage, SoundAt.enter, SoundAt.loseAnchor, SoundAt.endOrder, SoundAt.modDrive,
    SoundAt.modCtl]

theorem State.SoundAt.stopUnloading (h : s.SoundAt W t) : (s.stopUnloading t).SoundAt W t := by
  unfold State.stopUnloading; repeat' split
  all_goals apply_rules [h, SoundAt.modDrive, SoundAt.modCtl]

theorem State.SoundAt.unloadStopped (h : s.SoundAt W t) : (s.unloadStopped t).SoundAt W t := by
  unfold State.unloadStopped; dsimp only; repeat' split
  all_goals apply_rules [h, SoundAt.toUnloaded, SoundAt.enter, SoundAt.modCtl]

theorem State.SoundAt.controlStandstill (h : s.SoundAt W t) (a : Arrival) :
    (s.controlStandstill t a).SoundAt W t := by
  unfold State.controlStandstill; dsimp only; repeat' split
  all_goals apply_rules [h, SoundAt.unloadStopped, SoundAt.loadEnds, SoundAt.loadFailed, SoundAt.failLoad,
    SoundAt.enter, SoundAt.raiseCause, SoundAt.modCtl]

theorem State.SoundAt.controlClear (h : s.SoundAt W t) : (s.controlClear t).SoundAt W t := by
  unfold State.controlClear; dsimp only; repeat' split
  all_goals apply_rules [h, SoundAt.stopUnloading, SoundAt.forgetLoad, SoundAt.enter, SoundAt.modCtl]

theorem State.SoundAt.controlAbandon (h : s.SoundAt W t) (code : Nat) : (s.controlAbandon t code).SoundAt W t := by
  unfold State.controlAbandon; dsimp only; repeat' split
  all_goals apply_rules [h, SoundAt.stopUnloading, SoundAt.forgetLoad, SoundAt.enter, SoundAt.modCtl]

theorem State.SoundAt.controlPower (h : s.SoundAt W t) : (s.controlPower t).SoundAt W t := by
  unfold State.controlPower; dsimp only; repeat' split
  all_goals apply_rules [h, SoundAt.failLoad, SoundAt.enter, SoundAt.modCtl]

theorem State.SoundAt.deliverRelease (h : s.SoundAt W t) : (s.deliverRelease t).SoundAt W t := by
  have hr : State.SoundAt W { s with power := { s.power with released := s.power.released.set t true } } t := h
  unfold State.deliverRelease; dsimp only; repeat' split
  · exact (hr.enter _).raiseCause _
  · exact hr.dropTape
  · exact hr

theorem State.SoundAt.lateRelease (h : s.SoundAt W t) : (s.lateRelease t).SoundAt W t := by
  unfold State.lateRelease; repeat' split
  all_goals apply_rules [h, SoundAt.deliverRelease]

theorem State.SoundAt.requesterStandstill (h : s.SoundAt W t) (a : Arrival) :
    (s.requesterStandstill t a).SoundAt W t := by
  unfold State.requesterStandstill; repeat' split
  all_goals apply_rules [h, SoundAt.locateStandstill, SoundAt.xferStandstill]

theorem State.SoundAt.stopComplete (h : s.SoundAt W t) (k : StopKind) : (s.stopComplete t k).SoundAt W t := by
  unfold State.stopComplete; repeat' split
  all_goals apply_rules [h, SoundAt.emergencyComplete, SoundAt.endUnload, SoundAt.emergency]

theorem State.SoundAt.restReported (h : s.SoundAt W t) : (s.restReported t).SoundAt W t := by
  unfold State.restReported
  apply_rules [h, SoundAt.chanStops, SoundAt.modTr]

theorem State.SoundAt.arriveAt (h : s.SoundAt W t) (off : Option Int) : (s.arriveAt t off).SoundAt W t := by
  unfold State.arriveAt; dsimp only; repeat' split
  all_goals apply_rules [h, SoundAt.restReported, SoundAt.stopComplete, SoundAt.requesterStandstill,
    SoundAt.lateRelease, SoundAt.controlStandstill, SoundAt.takeRewound, SoundAt.emergency, SoundAt.modTr]

theorem State.SoundAt.arrive (h : s.SoundAt W t) : (s.arrive t).SoundAt W t := by
  unfold State.arrive
  apply_rules [h, SoundAt.arriveAt]

theorem State.SoundAt.endShuttle (h : s.SoundAt W t) : (s.endShuttle t).SoundAt W t := by
  unfold State.endShuttle; dsimp only; repeat' split
  all_goals apply_rules [h, SoundAt.arriveAt, SoundAt.driveMode, SoundAt.modReck, SoundAt.modDrive, SoundAt.modTr]

theorem State.SoundAt.motionBegun (h : s.SoundAt W t) : (s.motionBegun t).SoundAt W t := by
  unfold State.motionBegun; repeat' split
  all_goals apply_rules [h, SoundAt.enter]

theorem State.SoundAt.beginPending (h : s.SoundAt W t) (r : MotionRequest) : (s.beginPending t r).SoundAt W t := by
  unfold State.beginPending; dsimp only; repeat' split
  all_goals apply_rules [h, SoundAt.motionBegun, SoundAt.endShuttle, SoundAt.chanStops, SoundAt.modReck,
    SoundAt.modDrive, SoundAt.modTr]

theorem State.SoundAt.settleOnce (h : s.SoundAt W t) {s' : State} (hs : s.settleOnce t = some s') : s'.SoundAt W t := by
  unfold State.settleOnce at hs; dsimp only at hs; repeat' split at hs
  all_goals cases hs
  · exact h.arrive
  · exact h.unloadStopped
  · exact h.modDrive _
  · exact (h.modDrive _).beginPending _

theorem State.SoundAt.settle (h : s.SoundAt W t) (n : Nat) : (State.settle n s t).SoundAt W t := by
  induction n generalizing s with
  | zero => exact h
  | succ n ih =>
    unfold State.settle; split
    · exact ih (h.settleOnce ‹_›)
    · exact h

theorem State.SoundAt.settled (h : s.SoundAt W t) : (s.settled t).SoundAt W t := h.settle 400

theorem State.SoundAt.doQualified (h : s.SoundAt W t) : (s.doQualified t).SoundAt W t := by
  unfold State.doQualified; repeat' split
  all_goals apply_rules [h, SoundAt.modChan]

theorem State.SoundAt.doRecordEnd (h : s.SoundAt W t) : (s.doRecordEnd t).SoundAt W t := by
  unfold State.doRecordEnd; repeat' split
  all_goals apply_rules [h, SoundAt.closeRecord]

theorem State.SoundAt.doPostamble (h : s.SoundAt W t) : (s.doPostamble t).SoundAt W t := by
  unfold State.doPostamble; repeat' split
  all_goals apply_rules [h, SoundAt.modChan]

theorem State.SoundAt.doWrittenReport (h : s.SoundAt W t) : (s.doWrittenReport t).SoundAt W t := by
  unfold State.doWrittenReport; repeat' split
  all_goals apply_rules [h, SoundAt.deliverWritten, SoundAt.modChan]

theorem State.SoundAt.doFormation (h : s.SoundAt W t) : (s.doFormation t).SoundAt W t := by
  unfold State.doFormation; repeat' split
  all_goals apply_rules [h, SoundAt.modTr]

theorem State.SoundAt.doStartTimeout (h : s.SoundAt W t) : (s.doStartTimeout t).SoundAt W t := by
  unfold State.doStartTimeout; repeat' split
  all_goals apply_rules [h, SoundAt.xferEnd, SoundAt.modTr]

theorem State.SoundAt.doEraseLength (h : s.SoundAt W t) : (s.doEraseLength t).SoundAt W t := by
  unfold State.doEraseLength; repeat' split
  all_goals apply_rules [h, SoundAt.xferEnd, SoundAt.modChan, SoundAt.modTr]

theorem State.SoundAt.doBlank (h : s.SoundAt W t) : (s.doBlank t).SoundAt W t := by
  unfold State.doBlank; dsimp only; repeat' split
  all_goals apply_rules [h, SoundAt.locateBlank, SoundAt.modChan, SoundAt.modTr]
  all_goals simp

theorem State.SoundAt.doBudget (h : s.SoundAt W t) : (s.doBudget t).SoundAt W t := by
  unfold State.doBudget; repeat' split
  all_goals apply_rules [h, SoundAt.locateFailMoving]

theorem State.SoundAt.doHoldOver (h : s.SoundAt W t) : (s.doHoldOver t).SoundAt W t := by
  unfold State.doHoldOver; repeat' split
  all_goals apply_rules [h, SoundAt.modDrive]

theorem State.SoundAt.doStopPoint (h : s.SoundAt W t) : (s.doStopPoint t).SoundAt W t := by
  unfold State.doStopPoint; dsimp only; repeat' split
  all_goals apply_rules [h, SoundAt.modDrive]

theorem State.SoundAt.doBrakePoint (h : s.SoundAt W t) : (s.doBrakePoint t).SoundAt W t := by
  unfold State.doBrakePoint; dsimp only; repeat' split
  all_goals apply_rules [h, SoundAt.modDrive]

theorem State.SoundAt.doPitch (h : s.SoundAt W t) (side : Side) : (s.doPitch t side).SoundAt W t := by
  unfold State.doPitch; dsimp only; repeat' split
  all_goals apply_rules [h, SoundAt.raiseIndIf, SoundAt.modTr]

theorem State.SoundAt.catchUp (h : s.SoundAt W t) : (s.catchUp t).SoundAt W t :=
  (((((((((((((((h.doQualified).doRecordEnd).doPostamble).doWrittenReport).doFormation).doStartTimeout).doEraseLength
    ).doBlank).doBudget).doHoldOver).doStopPoint).doBrakePoint).doPitch _).doPitch _)).settled

/-- The lag sums of the markers have no part in PATH GOOD. -/
theorem Sensing.lagMarkers_path (x : Sensing) (tach : Tach) (p : Bool) :
    (x.lagMarkers tach p).pathGood = x.pathGood ∧ pathGoodOf (x.lagMarkers tach p) = pathGoodOf x := ⟨rfl, rfl⟩

theorem State.SoundAt.reelCount (h : s.SoundAt (.path q b) t) (tach : Tach) (side : Side) (p : Bool) :
    (s.reelCount t tach side p).SoundAt (.path q b) t := by
  refine ((h.modSense fun x => ?_).modReck _).modDrive _
  cases side <;> exact ⟨rfl, rfl⟩

theorem State.SoundAt.forwardStep (h : s.SoundAt W t) : (s.forwardStep t).SoundAt W t := by
  unfold State.forwardStep
  apply_rules [h, SoundAt.modTr]
  all_goals simp

theorem State.SoundAt.capstanCount (h : s.SoundAt (.path q b) t) (p : Bool) (hd : HeadSample) :
    (s.capstanCount t p hd).SoundAt (.path q b) t := by
  have hs := (h.modSense fun x => Sensing.lagMarkers_path x .capstan p).modReck (·.capstanCount p)
  unfold State.capstanCount; dsimp only; repeat' split
  all_goals apply_rules [hs, SoundAt.modTr, SoundAt.detect, SoundAt.forwardStep, SoundAt.xferTest]
  all_goals simp

theorem State.SoundAt.oneCount (h : s.SoundAt (.path q b) t) (tach : Tach) (positive : Bool) (h : HeadSample) :
    (s.oneCount t tach positive h).SoundAt (.path q b) t := by
  unfold State.oneCount; repeat' split
  all_goals apply_rules [h, SoundAt.capstanCount, SoundAt.reelCount]

theorem State.SoundAt.counts (h : s.SoundAt (.path q b) t) (tach : Tach) (h1 h2 : HeadSample) (ps : List Bool) :
    (s.counts t tach h1 h2 ps).SoundAt (.path q b) t := by
  unfold State.counts; split
  · exact h
  · exact h.oneCount ..
  · exact (((h.oneCount ..).settled.refresh).catchUp).oneCount ..

theorem State.SoundAt.tachometer (h : s.SoundAt (.path q b) t) (tach : Tach) (phases : Phases) (cycles : Nat)
    (h1 h2 : HeadSample) : (s.tachometer t tach phases cycles h1 h2).SoundAt (.path q b) t := by
  have hs : ((s.catchUp t).modTr t (·.elapse cycles)).SoundAt (.path q b) t := h.catchUp.modTr fun _ => rfl
  exact (hs.modSense fun x => by cases tach <;> exact ⟨rfl, rfl⟩).counts ..

theorem State.SoundAt.beginWind (h : s.SoundAt W t) : (s.beginWind t).SoundAt W t := by
  unfold State.beginWind
  apply_rules [h, SoundAt.driveMode, SoundAt.modDrive]

theorem State.SoundAt.pathLostDrive (h : s.SoundAt W t) : (s.pathLostDrive t).SoundAt W t := by
  unfold State.pathLostDrive; dsimp only; repeat' split
  all_goals apply_rules [h, SoundAt.beginWind, SoundAt.emergency, SoundAt.modDrive]

/-- However the levels have changed, PATH GOOD worked out again is what they make it. -/
theorem State.pathUpdate_sound (hstore : b → s.store.Ordered) : (s.pathUpdate t).SoundAt (.path q b) t := by
  unfold State.pathUpdate; dsimp only; split
  case isTrue h => exact ⟨fun _ => h.symm, hstore⟩
  have hs : (s.modSense t fun x => { x with pathGood := pathGoodOf (s.tr t).sense }).SoundAt (.path q b) t :=
    ⟨by simp [Watch.path, Sensing.PathFollows, pathGoodOf], hstore⟩
  split
  · exact hs
  · exact (hs.pathBroken).pathLostDrive

theorem State.SoundAt.brakeReels (h : s.SoundAt W t) : (s.brakeReels t).SoundAt W t := by
  unfold State.brakeReels
  apply_rules [h, SoundAt.modTr]

theorem State.SoundAt.columnCause (h : s.SoundAt W t) (side : Side) (k : FaultKind) :
    (s.columnCause t side k).SoundAt W t := by
  unfold State.columnCause; repeat' split
  all_goals apply_rules [h, SoundAt.pathBroken, SoundAt.emergency]

theorem State.SoundAt.zoneAtControl (h : s.SoundAt W t) (side : Side) (z : Zone) :
    (s.zoneAtControl t side z).SoundAt W t := by
  unfold State.zoneAtControl; repeat' split
  all_goals apply_rules [h, SoundAt.columnCause, SoundAt.pathBroken, SoundAt.threadCheck, SoundAt.loadFailed,
    SoundAt.failLoad]

theorem State.SoundAt.zoneEventAt (h : s.SoundAt W t) (side : Side) (z : Zone) :
    (s.zoneEventAt t side z).SoundAt W t := by
  unfold State.zoneEventAt
  apply_rules [h, SoundAt.zoneAtControl, SoundAt.brakeReels]

theorem State.SoundAt.sensorFaultAt (h : s.SoundAt W t) (side : Side) : (s.sensorFaultAt t side).SoundAt W t := by
  unfold State.sensorFaultAt; repeat' split
  all_goals apply_rules [h, SoundAt.columnCause, SoundAt.loadFailed, SoundAt.failLoad]

/-- Samples that give no event leave a column's zone and whether it is VALID. -/
theorem Column.samples_none {c : Column} {p : Pattern} {n : Nat} (h : (c.samples p n).2 = .none) :
    (c.samples p n).1.valid = c.valid ∧ (c.samples p n).1.zone = c.zone := by
  unfold Column.samples at h ⊢
  repeat' split
  all_goals simp_all

theorem Sensing.setColumn_path {x : Sensing} {side : Side} {c : Column} (hv : c.valid = (x.column side).valid)
    (hz : c.zone = (x.column side).zone) : pathGoodOf (x.setColumn side c) = pathGoodOf x := by
  cases side <;> simp_all [pathGoodOf, Sensing.setColumn, Sensing.column]

/-- A change of the Sensing Interface after which PATH GOOD is not yet worked out. -/
theorem State.SoundAt.sampled (h : s.SoundAt W t) (f : Sensing → Sensing) :
    (s.modSense t f).SoundAt { sensing := fun _ => True, maps := W.maps } t :=
  ⟨trivial, h.2⟩

theorem State.SoundAt.columnSamples (h : s.SoundAt (.path q b) t) (side : Side) (p : Pattern) (n : Nat) :
    (s.columnSamples t side p n).SoundAt (.path q b) t := by
  have hs := h.sampled fun x => x.setColumn side (((s.tr t).sense.column side).samples p n).1
  unfold State.columnSamples; dsimp only; split
  case h_1 hnone =>
    obtain ⟨hv, hz⟩ := Column.samples_none hnone
    refine ⟨?_, h.2⟩
    have hgood : ((s.tr t).sense.setColumn side (((s.tr t).sense.column side).samples p n).1).pathGood =
        (s.tr t).sense.pathGood := by cases side <;> rfl
    simpa [Watch.path, Sensing.PathFollows, Sensing.setColumn_path hv hz, hgood, State.modSense] using h.1
  · exact State.pathUpdate_sound (hs.zoneEventAt ..).2
  · exact State.pathUpdate_sound ((hs.sensorFaultAt _).zoneEventAt ..).2
  · exact State.pathUpdate_sound (hs.zoneEventAt ..).2

theorem State.SoundAt.vacuumAtControl (h : s.SoundAt W t) (side : Side) (present : Bool) :
    (s.vacuumAtControl t side present).SoundAt W t := by
  unfold State.vacuumAtControl; repeat' split
  all_goals apply_rules [h, SoundAt.columnCause, SoundAt.threadCheck, SoundAt.loadFailed, SoundAt.failLoad]

theorem Level.samples_level {l : Level} {need : Nat} {v : Bool} {n : Nat} (h : l.changes need v n = false) :
    (l.samples need v n).level = l.level := by
  unfold Level.samples; split_ifs <;> simp_all [Level.changes]

theorem State.SoundAt.vacuumSamples (h : s.SoundAt (.path q b) t) (side : Side) (present : Bool) (n : Nat) :
    (s.vacuumSamples t side present n).SoundAt (.path q b) t := by
  have hs := h.sampled fun x => x.setVacuum side (((s.tr t).sense.vacuumLevel side).samples 10 present n)
  unfold State.vacuumSamples; dsimp only; split
  · exact State.pathUpdate_sound (hs.vacuumAtControl ..).brakeReels.2
  · rename_i hsame
    have hlevel := Level.samples_level (eq_false_of_ne_true hsame)
    refine ⟨?_, h.2⟩
    cases side <;> simp only [Sensing.vacuumLevel] at hlevel <;>
      simpa [Watch.path, Sensing.PathFollows, State.modSense, Sensing.setVacuum, pathGoodOf, Sensing.vacuumLevel,
        hlevel] using h.1

theorem State.SoundAt.tapeAtControl (h : s.SoundAt W t) (present : Bool) :
    (s.tapeAtControl t present).SoundAt W t := by
  unfold State.tapeAtControl; dsimp only; repeat' split
  all_goals apply_rules [h, SoundAt.unloadEnds, SoundAt.pathBroken, SoundAt.emergency, SoundAt.loadFailed,
    SoundAt.failLoad]

theorem State.SoundAt.tapeSamples (h : s.SoundAt (.path q b) t) (present : Bool) (n : Nat) :
    (s.tapeSamples t present n).SoundAt (.path q b) t := by
  have hs := h.modSense (f := fun x => { x with tapePresent := (s.tr t).sense.tapePresent.samples 10 present n })
    fun _ => ⟨rfl, rfl⟩
  unfold State.tapeSamples; dsimp only; split
  · exact hs.tapeAtControl _
  · exact hs

theorem State.SoundAt.markerEvent (h : s.SoundAt W t) (e : EdgeEvent) : (s.markerEvent t e).SoundAt W t := by
  unfold State.markerEvent
  apply_rules [h, SoundAt.seekMarker, SoundAt.modReck, SoundAt.modTr]
  all_goals simp

theorem State.SoundAt.markerSamples (h : s.SoundAt (.path q b) t) (m : Marker) (v : Bool) (n : Nat) :
    (s.markerSamples t m v n).SoundAt (.path q b) t := by
  have hs := h.modSense (f := fun x => x.setMarker m (((s.tr t).sense.marker m).samples v n))
    fun _ => by cases m <;> exact ⟨rfl, rfl⟩
  unfold State.markerSamples; dsimp only; split
  · exact hs.markerEvent _
  · exact hs

theorem State.SoundAt.onEvent (h : s.SoundAt W t) : (s.onEvent t).SoundAt W t := by
  unfold State.onEvent; dsimp only; repeat' split
  all_goals apply_rules [h, SoundAt.raiseCause, SoundAt.modCtl]

theorem State.SoundAt.onlineSamples (h : s.SoundAt (.path q b) t) (on : Bool) (n : Nat) :
    (s.onlineSamples t on n).SoundAt (.path q b) t := by
  have hs := h.modSense (f := fun x => { x with online := (s.tr t).sense.online.samples 20 on n }) fun _ => ⟨rfl, rfl⟩
  unfold State.onlineSamples; dsimp only; repeat' split
  · exact hs.onEvent
  · exact hs.modTr Transport.offEvent_sense
  · exact hs

theorem State.SoundAt.loadButton (h : s.SoundAt W t) : (s.loadButton t).SoundAt W t := by
  unfold State.loadButton; dsimp only; repeat' split
  all_goals apply_rules [h, SoundAt.threadCheck, SoundAt.beginLoad]

theorem State.SoundAt.unloadButton (h : s.SoundAt W t) : (s.unloadButton t).SoundAt W t := by
  unfold State.unloadButton; dsimp only; repeat' split
  all_goals apply_rules [h, SoundAt.takeRewound, SoundAt.beginUnload, SoundAt.failLoad, SoundAt.dropTape,
    SoundAt.raiseCause, SoundAt.modCtl]

theorem Sensing.setButton_path (x : Sensing) (b : Button) (l : Level) :
    (x.setButton b l).pathGood = x.pathGood ∧ pathGoodOf (x.setButton b l) = pathGoodOf x := by
  cases b <;> exact ⟨rfl, rfl⟩

theorem State.SoundAt.pressSamples (h : s.SoundAt (.path q b) t) (button : Button) (n : Nat) :
    (s.pressSamples t button n).SoundAt (.path q b) t := by
  have hs := h.modSense fun x => Sensing.setButton_path x button (((s.tr t).sense.button button).samples 20 true n)
  unfold State.pressSamples; dsimp only; repeat' split
  · exact hs.loadButton
  · exact hs.unloadButton
  · exact hs

theorem State.SoundAt.pwarnAt (h : s.SoundAt W t) : (s.pwarnAt t).SoundAt W t := by
  have hs : (((s.raiseAtt t .power).controlPower t).modDrive t Drive.power).SoundAt W t :=
    (h.raiseAtt _).controlPower.modDrive _
  unfold State.pwarnAt; extract_lets s1 s2; split
  · exact hs.chanPower
  · have hs2 : s2.SoundAt W t := hs.xferPower.chanPower.locatePower
    split
    · exact hs2.endUnload _
    · exact hs2

theorem State.SoundAt.portClear (h : s.SoundAt W t) : (s.portClear t).SoundAt W t :=
  h.withdrawControl.withdrawData.modTr fun x => by dsimp only; split <;> simp

theorem State.SoundAt.readyAtClear (h : s.SoundAt W t) : (s.readyAtClear t).SoundAt W t := by
  unfold State.readyAtClear; repeat' split
  all_goals apply_rules [h, SoundAt.raiseAtt]

theorem State.SoundAt.clearAt (h : s.SoundAt W t) : (s.clearAt t).SoundAt W t := by
  unfold State.clearAt
  apply_rules [h, SoundAt.readyAtClear, SoundAt.portClear, SoundAt.controlClear, SoundAt.chanClear,
    SoundAt.xferAbandon, SoundAt.modDrive, SoundAt.modTr]
  all_goals simp

theorem State.SoundAt.leaveMap (h : s.SoundAt W t) : (s.leaveMap t).SoundAt W t := by
  have hs : (s.modTr t fun x => { x with mapOrder := .none }).SoundAt W t := h.modTr fun _ => rfl
  unfold State.leaveMap; dsimp only; split
  · exact hs.withdrawData.releaseExchange
  · exact hs.releaseExchange

theorem State.SoundAt.tellOwners (h : s.SoundAt W t) (code : Nat) : (s.tellOwners t code).SoundAt W t := by
  unfold State.tellOwners
  apply_rules [h, SoundAt.leaveMap, SoundAt.controlAbandon, SoundAt.xferAbandon, SoundAt.modTr]
  all_goals simp

theorem State.SoundAt.abandon (h : s.SoundAt W t) : (s.abandon t).SoundAt W t := by
  have hs := h.withdrawControl.modTr (f := fun x => { x.applyOffline with
    port := { x.applyOffline.port.toIdle with
      attention := x.applyOffline.port.attention ||| x.applyOffline.port.senseTaken } }) (by simp)
  unfold State.abandon; dsimp only; split
  · exact hs
  · exact hs.tellOwners _

theorem State.SoundAt.startFetch (h : s.SoundAt W t) (index : BitVec 13) : (s.startFetch t index).SoundAt W t := by
  unfold State.startFetch
  apply_rules [h, SoundAt.requestControl, SoundAt.modPort]

theorem State.SoundAt.pointerWrite (h : s.SoundAt W t) (index : BitVec 13) :
    (s.pointerWrite t index).SoundAt W t := by
  unfold State.pointerWrite; repeat' split
  all_goals apply_rules [h, SoundAt.startFetch, SoundAt.abandon, SoundAt.withdrawControl, SoundAt.raiseAtt,
    SoundAt.modPort]

theorem State.SoundAt.takeBurst (h : s.SoundAt W t) (k : TransferKind) : (s.takeBurst t k).SoundAt W t := by
  unfold State.takeBurst; repeat' split
  all_goals apply_rules [h, SoundAt.modTr]

theorem State.SoundAt.grantControl (h : s.SoundAt W t) : (s.grantControl t).SoundAt W t := by
  unfold State.grantControl; split <;> exact h

theorem State.SoundAt.grantData (h : s.SoundAt W t) : (s.grantData t).SoundAt W t := by
  unfold State.grantData; dsimp only; repeat' split
  all_goals apply_rules [h, SoundAt.takeBurst]

theorem State.SoundAt.fetched (h : s.SoundAt W t) (ws : List Word) : (s.fetched t ws).SoundAt W t := by
  unfold State.fetched; dsimp only; repeat' split
  all_goals apply_rules [h, SoundAt.endWith, SoundAt.modPort]

theorem State.SoundAt.terminated (h : s.SoundAt W t) (lost : Bool) : (s.terminated t lost).SoundAt W t := by
  unfold State.terminated
  apply_rules [h, SoundAt.modPort]

theorem State.SoundAt.attachOrder (h : s.SoundAt W t) (c : OrderCopy) : (s.attachOrder t c).SoundAt W t := by
  unfold State.attachOrder
  apply_rules [h, SoundAt.attach, SoundAt.endOrder]

theorem State.SoundAt.takeLoad (h : s.SoundAt W t) (c : OrderCopy) : (s.takeLoad t c).SoundAt W t := by
  unfold State.takeLoad; repeat' split
  all_goals apply_rules [h, SoundAt.attachOrder, SoundAt.threadCheck, SoundAt.beginLoad]

theorem State.SoundAt.readRecord (h : s.SoundAt W t) (k : TransferKind) (c : OrderCopy) (n : Nat) :
    (s.readRecord t k c n).SoundAt W t := by
  unfold State.readRecord
  apply_rules [h, SoundAt.requestControl]

theorem State.SoundAt.profileRead (h : s.SoundAt W t) (ws : List Word) : (s.profileRead t ws).SoundAt W t := by
  unfold State.profileRead
  apply_rules [h, SoundAt.endWith, SoundAt.raiseIndIf, SoundAt.modDrive]

theorem State.SoundAt.detectorRead (h : s.SoundAt W t) (ws : List Word) : (s.detectorRead t ws).SoundAt W t := by
  unfold State.detectorRead; repeat' split
  all_goals apply_rules [h, SoundAt.endWith, SoundAt.modChan]

theorem State.SoundAt.takeSense (h : s.SoundAt W t) (c : OrderCopy) : (s.takeSense t c).SoundAt W t :=
  (h.modPort _).requestControl _

theorem State.SoundAt.takeMask (h : s.SoundAt W t) (c : OrderCopy) : (s.takeMask t c).SoundAt W t := by
  unfold State.takeMask; split
  · exact h.endWith _
  · exact (h.modPort _).endOrder _

theorem State.SoundAt.readTag (h : s.SoundAt W t) (c : OrderCopy) (n : Nat) : (s.readTag t c n).SoundAt W t := by
  unfold State.readTag
  apply_rules [h, SoundAt.readRecord, SoundAt.modTr]

theorem State.SoundAt.takeEnter (h : s.SoundAt W t) (c : OrderCopy) : (s.takeEnter t c).SoundAt W t := by
  unfold State.takeEnter; dsimp only; repeat' split
  all_goals apply_rules [h, SoundAt.readTag, SoundAt.enterStage3, SoundAt.endWith]

theorem State.SoundAt.takeAmend (h : s.SoundAt W t) (c : OrderCopy) : (s.takeAmend t c).SoundAt W t := by
  unfold State.takeAmend; dsimp only; repeat' split
  all_goals apply_rules [h, SoundAt.readTag, SoundAt.amendStage3, SoundAt.endWith]

theorem State.SoundAt.takeLookUp (h : s.SoundAt W t) (c : OrderCopy) : (s.takeLookUp t c).SoundAt W t := by
  unfold State.takeLookUp; dsimp only; repeat' split
  all_goals apply_rules [h, SoundAt.endWith, SoundAt.requestControl, SoundAt.modTr]

theorem State.SoundAt.tagRead (h : s.SoundAt W t) (ws : List Word) : (s.tagRead t ws).SoundAt W t := by
  unfold State.tagRead; dsimp only; repeat' split
  all_goals apply_rules [h, SoundAt.amendStage3, SoundAt.enterStage3, SoundAt.modTr]

theorem State.SoundAt.endExchange (h : s.SoundAt W t) (r : OrderResult) : (s.endExchange t r).SoundAt W t := by
  unfold State.endExchange
  apply_rules [h, SoundAt.leaveMap, SoundAt.endOrder]

/-- What the exchange area holds has no part in it. -/
theorem State.SoundAt.exchange (h : s.SoundAt W t) (e : Exchange) : State.SoundAt W { s with exchange := e } t := h

theorem State.SoundAt.dumpStart (h : s.SoundAt W t) : (s.dumpStart t).SoundAt W t := by
  unfold State.dumpStart; dsimp only; repeat' split
  · exact h.endExchange _
  · exact h.endExchange _
  · exact (h.exchange _).requestData _

theorem State.SoundAt.loadStart (h : s.SoundAt W t) : (s.loadStart t).SoundAt W t := (h.exchange _).requestData _

theorem State.SoundAt.giveArea (h : s.SoundAt W t) : (s.giveArea t).SoundAt W t := by
  unfold State.giveArea; dsimp only; repeat' split
  · exact (h.exchange _).dumpStart
  · exact (h.exchange _).loadStart
  · exact h

theorem State.SoundAt.askArea (h : s.SoundAt W t) : (s.askArea t).SoundAt W t := by
  have hs : (s.modTr t fun x => { x with mapOrder := .exchange }).SoundAt W t := h.modTr fun _ => rfl
  unfold State.askArea; dsimp only; split
  · exact hs.giveArea
  · exact hs.exchange _

theorem State.SoundAt.dumped (h : s.SoundAt W t) (n : Nat) : (s.dumped t n).SoundAt W t := by
  unfold State.dumped; dsimp only; split
  · exact (h.exchange _).endExchange _
  · exact (h.exchange _).requestData _

/-- Which slot an entry takes has no part in the order of its list. -/
theorem EntriesOrdered.slot {es fs : List Entry} {e : Entry} (n : Nat) (h : EntriesOrdered (es ++ e :: fs)) :
    EntriesOrdered ((es ++ [{ e with slot := n }]) ++ fs) := by
  simpa [EntriesOrdered, List.pairwise_append, Entry.Below, markFits, or_imp, forall_and] using h

/-- Imported entries in order that find room leave the store in order (R174). -/
theorem placeImports_ordered {m : MapStore} (h : m.Ordered) (t : Tr) {es : List Entry}
    (hes : EntriesOrdered ((m.reels.get t).entries ++ es)) (hlen : ((m.reels.get t).entries ++ es).length ≤ 1024)
    (hroom : es.length ≤ m.poolFree) : (placeImports m t es).Ordered := by
  induction es generalizing m with
  | nil => exact h
  | cons e rest ih =>
    have hes' := hes.slot m.freeSlot
    have hstart : EntriesOrdered ((m.reels.get t).entries ++ [{ e with slot := m.freeSlot }]) :=
      ⟨(List.pairwise_append.mp hes'.1).1, (List.pairwise_append.mp hes'.2.1).1,
        fun f hf => hes'.2.2 f (List.mem_append_left _ hf)⟩
    simp only [List.length_append, List.length_cons] at hlen hroom
    have hone := h.set t (r := { m.reels.get t with
      entries := (m.reels.get t).entries ++ [{ e with slot := m.freeSlot }] }) hstart (by simp; omega) (by simp; omega)
    have hfree : m.poolFree + (m.reels.get t).entries.length -
        ((m.reels.get t).entries ++ [{ e with slot := m.freeSlot }]).length = m.poolFree - 1 := by simp; omega
    simp only [hfree] at hone
    refine ih hone ?_ ?_ ?_
    · simpa using hes'
    · simp; omega
    · simp only; omega

/-- A sound entry record gives an entry above the one read before it, with a mark of its own (R173). -/
theorem entrySound_keeps {ws : List Word} {c o : Nat} {before : List Entry} (h : entrySound ws c o before = true) :
    markFits (tableEntry ws o) = true ∧ (∀ f ∈ before.head?, Entry.Below f (tableEntry ws o)) ∧
      ∀ f ∈ before, f.mark ≠ (tableEntry ws o).mark := by
  simp only [entrySound, Bool.and_eq_true] at h
  obtain ⟨⟨⟨⟨⟨⟨⟨⟨-, hkind⟩, -⟩, -⟩, -⟩, -⟩, -⟩, hrise⟩, hmarks⟩ := h
  refine ⟨?_, ?_, by simpa using hmarks⟩
  · rw [markFits_iff]
    cases hk : tableKind (tableWord ws (o + 1)) with
    | none => simp [hk] at hkind
    | some k => cases k <;> simp [kindFits, tableEntry, hk] at hkind ⊢ <;> omega
  · cases before with
    | nil => simp
    | cons f rest => simpa [Entry.Below] using hrise

/-- An entry above the last of a list, with a mark of its own, keeps the order. -/
theorem EntriesOrdered.append {before : List Entry} {e : Entry} (h : EntriesOrdered before.reverse)
    (hfit : markFits e = true) (hbelow : ∀ f ∈ before.head?, Entry.Below f e) (hmark : ∀ f ∈ before, f.mark ≠ e.mark) :
    EntriesOrdered (e :: before).reverse := by
  obtain ⟨hrise, hdiff, hfits⟩ := h
  rw [List.reverse_cons]
  refine ⟨List.pairwise_append.mpr ⟨hrise, List.pairwise_singleton .., fun f hf g hg => ?_⟩,
    List.pairwise_append.mpr ⟨hdiff, List.pairwise_singleton .., fun f hf g hg => ?_⟩, fun f hf => ?_⟩
  · rw [List.mem_singleton.mp hg]
    cases before with
    | nil => simp at hf
    | cons a rest =>
      have hae : Entry.Below a e := hbelow a rfl
      rcases List.mem_cons.mp (List.mem_reverse.mp hf) with rfl | hf
      · exact hae
      · rw [List.reverse_cons] at hrise
        have hfa := (List.pairwise_append.mp hrise).2.2 f (List.mem_reverse.mpr hf) a (List.mem_singleton.mpr rfl)
        exact ⟨hfa.1.trans hae.1, hfa.2.trans hae.2⟩
  · rw [List.mem_singleton.mp hg]
    exact hmark f (List.mem_reverse.mp hf)
  · rcases List.mem_append.mp hf with hf | hf
    · exact hfits f hf
    · exact List.mem_singleton.mp hf ▸ hfit

/-- Entry records found valid one after the other are in order, and as many as the header counts (R173). -/
theorem importEntries_whole {ws : List Word} {c n o : Nat} {before es : List Entry}
    (h : importEntries ws c n o before = .whole es) (hb : EntriesOrdered before.reverse) :
    EntriesOrdered es ∧ es.length = before.length + n := by
  induction n generalizing o before with
  | zero =>
    cases h
    exact ⟨hb, by simp⟩
  | succ n ih =>
    unfold importEntries at h
    split_ifs at h with h1 h2 h3
    dsimp only at h
    split_ifs at h with h4
    have hsound : entrySound ws c o before = true := by simpa using h3
    obtain ⟨hfit, hbelow, hmark⟩ := entrySound_keeps hsound
    obtain ⟨hord, hlen⟩ := ih h (hb.append hfit hbelow hmark)
    exact ⟨hord, by simp only [List.length_cons] at hlen; omega⟩

theorem State.SoundAt.importTable (h : s.SoundAt W t) {es : List Entry}
    (hes : importStatus s.exchange.table (s.orderC t) = .whole es) : (s.importTable t es).SoundAt W t := by
  have hgood : EntriesOrdered es ∧ es.length ≤ 1024 := by
    unfold importStatus at hes
    split_ifs at hes with h1 h2
    obtain ⟨hord, hlen⟩ := importEntries_whole hes .nil
    have : headerSound s.exchange.table (s.orderC t) = true := by simpa using h2
    simp only [headerSound, Bool.and_eq_true, decide_eq_true_eq] at this
    exact ⟨hord, by simp at hlen; omega⟩
  have hnil : (importedReel (s.reel t) s.exchange.table).entries = [] := by
    unfold importedReel; dsimp only; split <;> rfl
  unfold State.importTable
  dsimp only
  split
  · exact h.endExchange _
  split
  · exact h.endExchange _
  rename_i hroom
  have hs := h.setReel_nil hnil
  have hreel : ((s.setReel t (importedReel (s.reel t) s.exchange.table)).store.reels.get t).entries = [] := by
    simp [State.setReel, hnil]
  have hplaced : State.SoundAt W { s.setReel t (importedReel (s.reel t) s.exchange.table) with
      store := placeImports (s.setReel t (importedReel (s.reel t) s.exchange.table)).store t es } t := by
    refine ⟨h.1, fun hw => placeImports_ordered (hs.2 hw) t ?_ ?_ ?_⟩
    · simpa [hreel] using hgood.1
    · simpa [hreel] using hgood.2
    · simp only [State.setReel, hnil, List.length_nil]
      omega
  exact (hplaced.raiseIndIf _ _).endExchange _

theorem State.SoundAt.imported (h : s.SoundAt W t) (ws : List Word) : (s.imported t ws).SoundAt W t := by
  have hs := h.exchange { s.exchange with table := s.exchange.table ++ ws }
  unfold State.imported; dsimp only; split
  · exact hs.requestData _
  · exact hs.endExchange _
  · exact hs.importTable ‹_›

theorem State.SoundAt.takeSpaceForward (h : s.SoundAt W t) (c : OrderCopy) :
    (s.takeSpaceForward t c).SoundAt W t := by
  unfold State.takeSpaceForward; repeat' split
  all_goals apply_rules [h, SoundAt.xferTake, SoundAt.xferRefuse]

theorem State.SoundAt.takeSpaceBackward (h : s.SoundAt W t) (c : OrderCopy) :
    (s.takeSpaceBackward t c).SoundAt W t := by
  unfold State.takeSpaceBackward; repeat' split
  all_goals apply_rules [h, SoundAt.xferTake, SoundAt.xferRefuse]

theorem State.SoundAt.takeLocateMark (h : s.SoundAt W t) (mark : Nat) : (s.takeLocateMark t mark).SoundAt W t := by
  unfold State.takeLocateMark; repeat' split
  all_goals apply_rules [h, SoundAt.locateBegin, SoundAt.endWith, SoundAt.modLoc, SoundAt.modTr]
  all_goals simp

theorem State.SoundAt.takeLocateBlock (h : s.SoundAt W t) (n : Nat) : (s.takeLocateBlock t n).SoundAt W t := by
  unfold State.takeLocateBlock; repeat' split
  all_goals apply_rules [h, SoundAt.locateBegin, SoundAt.endWith, SoundAt.modLoc, SoundAt.modTr]
  all_goals simp

theorem State.SoundAt.dumpTimeout (h : s.SoundAt W t) (done : Nat) : (s.dumpTimeout t done).SoundAt W t := by
  unfold State.dumpTimeout
  apply_rules [h, SoundAt.endExchange]

theorem State.SoundAt.loadTimeout (h : s.SoundAt W t) (ws : List Word) : (s.loadTimeout t ws).SoundAt W t := by
  unfold State.loadTimeout
  apply_rules [h, SoundAt.endExchange]

theorem State.SoundAt.timedOut (h : s.SoundAt W t) (x : BusTransfer) (done : Nat) (ws : List Word) :
    (s.timedOut t x done ws).SoundAt W t := by
  have hm : (s.modTr t fun y => { y with mapOrder := .none }).SoundAt W t := h.modTr fun _ => rfl
  unfold State.timedOut; split
  · exact (h.modPort _).endWith _
  · exact h.terminated _
  · exact h.endWith _
  · exact h.endWith _
  · exact hm.endWith _
  · exact hm.endWith _
  · exact (h.modPort _).endWith _
  · exact h.xferBusTimeout ..
  · exact h.xferBusTimeout ..
  · exact h.dumpTimeout _
  · exact h.loadTimeout _

theorem State.SoundAt.stallAtControl (h : s.SoundAt W t) : (s.stallAtControl t).SoundAt W t := by
  unfold State.stallAtControl; repeat' split
  all_goals apply_rules [h, SoundAt.emergency, SoundAt.loadFailed, SoundAt.failLoad]

theorem State.SoundAt.windStopped (h : s.SoundAt W t) : (s.windStopped t).SoundAt W t := by
  unfold State.windStopped
  apply_rules [h, SoundAt.arrive, SoundAt.driveMode, SoundAt.modDrive]

end

end Sys2Proof.Machine
end

section
/-! PROOF. What every command and every step can do, said once; the invariants of the queue, of host memory, of the
write enable line, of PATH GOOD, of the reel commands and of the maps; the independence of the transports; nothing
without main power. -/
namespace Sys2Proof.Machine

/-! ### What a command of one transport can do -/

/-- What the work of transport `t` keeps: all beyond the transport, PATH GOOD in step with its levels, and the maps in
order. -/
structure State.KeptAt (s s' : State) (t : Tr) : Prop where
  beyond : s'.beyond t = s.beyond t
  sound : ∀ q b, s.SoundAt (.path q b) t → s'.SoundAt (.path q b) t

section
variable {s s' : State} {t : Tr} {f : State → State}

theorem runTr_kept (hbeyond : ∀ s, (f s).beyond t = s.beyond t)
    (hsound : ∀ s q b, State.SoundAt (.path q b) s t → (f s).SoundAt (.path q b) t) (h : runTr t s f = .next s') :
    s' = s ∨ ∃ x, s.powered = true ∧ s.KeptAt x t ∧ s' = (x.refresh t).finish := by
  rcases runOn_next h with ⟨-, rfl⟩ | ⟨hp, rfl⟩
  · exact .inl rfl
  · exact .inr ⟨_, hp, ⟨by simp [hbeyond], fun q b hs => (hsound s q b hs).settled⟩, rfl⟩

/-- An order taken by its owner, who keeps what the transport's work keeps. -/
theorem runTr_takeOrder_kept {code : Nat} {g : State → OrderCopy → State} (hbeyond : ∀ s c, (g s c).beyond t = s.beyond t)
    (hsound : ∀ s c q b, State.SoundAt (.path q b) s t → (g s c).SoundAt (.path q b) t)
    (h : (runTr t s fun s => s.takeOrder t code g) = .next s') :
    s' = s ∨ ∃ x, s.powered = true ∧ s.KeptAt x t ∧ s' = (x.refresh t).finish :=
  runTr_kept (fun _ => State.takeOrder_beyond hbeyond) (fun _ q b hs => hs.takeOrder fun s c hs => hsound s c q b hs) h

end

/-- What a command that belongs to a transport can do: nothing, or work of that transport alone, after which the outputs
are worked out again. -/
theorem exec_ofTransport {c : Instr} {t : Tr} {s s' : State} (hc : commandOf c = some t) (h : exec c s = .next s') :
    s' = s ∨ ∃ x, s.powered = true ∧ s.KeptAt x t ∧ s' = (x.refresh t).finish := by
  cases c <;> cases hc <;> dsimp only [exec] at h
  case orderPointerWrite => exact runTr_kept (fun s => by simp) (fun _ _ _ hs => hs.pointerWrite _) h
  case load => exact runTr_takeOrder_kept (fun s c => by simp) (fun _ c _ _ hs => hs.takeLoad c) h
  case unload =>
    exact runTr_takeOrder_kept (fun s c => by simp) (fun _ _ _ _ hs => (hs.beginUnload ..).takeRewound) h
  case clearFault =>
    refine runTr_takeOrder_kept (fun s c => ?_) (fun s c _ _ hs => ?_) h
    · split <;> simp
    · split
      · exact hs.clearTheFault
      · exact hs.endWith _
  case setProfile => exact runTr_takeOrder_kept (fun s c => by simp) (fun _ _ _ _ hs => hs.readRecord ..) h
  case setDetector => exact runTr_takeOrder_kept (fun s c => by simp) (fun _ _ _ _ hs => hs.readRecord ..) h
  case read | write | writeFileMark | erase =>
    exact runTr_takeOrder_kept (fun s c => by simp) (fun _ _ _ _ hs => hs.xferTake _) h
  case spaceForward => exact runTr_takeOrder_kept (fun s c => by simp) (fun _ _ _ _ hs => hs.takeSpaceForward _) h
  case spaceBackward => exact runTr_takeOrder_kept (fun s c => by simp) (fun _ _ _ _ hs => hs.takeSpaceBackward _) h
  case enterMark => exact runTr_takeOrder_kept (fun s c => by simp) (fun _ _ _ _ hs => hs.takeEnter _) h
  case amendMark => exact runTr_takeOrder_kept (fun s c => by simp) (fun _ _ _ _ hs => hs.takeAmend _) h
  case retireMark => exact runTr_takeOrder_kept (fun s c => by simp) (fun _ _ _ _ hs => hs.retireStage3 ..) h
  case lookUpMark => exact runTr_takeOrder_kept (fun s c => by simp) (fun _ _ _ _ hs => hs.takeLookUp _) h
  case locateMark => exact runTr_takeOrder_kept (fun s c => by simp) (fun _ _ _ _ hs => hs.takeLocateMark _) h
  case locateBlock => exact runTr_takeOrder_kept (fun s c => by simp) (fun _ _ _ _ hs => hs.takeLocateBlock _) h
  case rewind =>
    exact runTr_takeOrder_kept (fun s c => by simp)
      (fun _ _ _ _ hs => (hs.modTr Transport.supersedeUnload_sense).beginRewind _) h
  case dumpMap =>
    refine runTr_takeOrder_kept (fun s c => ?_) (fun s c _ _ hs => ?_) h
    · split <;> simp
    · split
      · exact hs.endWith _
      · exact hs.askArea
  case loadMap =>
    refine runTr_takeOrder_kept (fun s c => ?_) (fun s c _ _ hs => ?_) h
    · split <;> simp
    · split
      · exact hs.endWith _
      · exact hs.askArea
  case sense => exact runTr_takeOrder_kept (fun s c => by simp) (fun _ _ _ _ hs => hs.takeSense _) h
  case setNoticeMask => exact runTr_takeOrder_kept (fun s c => by simp) (fun _ _ _ _ hs => hs.takeMask _) h
  case tachometerCount => exact runTr_kept (fun s => by simp) (fun _ _ _ hs => hs.tachometer ..) h
  case pitchMeasured => exact runTr_kept (fun s => by simp) (fun _ _ _ hs => hs.doPitch _) h
  case zoneEvent | columnSensorFault | sensorRestored =>
    exact runTr_kept (fun s => by simp) (fun _ _ _ hs => hs.columnSamples ..) h
  case vacuumEvent => exact runTr_kept (fun s => by simp) (fun _ _ _ hs => hs.vacuumSamples ..) h
  case tapePresentEvent => exact runTr_kept (fun s => by simp) (fun _ _ _ hs => hs.tapeSamples ..) h
  case markerEdge => exact runTr_kept (fun s => by simp) (fun _ _ _ hs => hs.markerSamples ..) h
  case writeRingChange ring n =>
    exact runTr_kept (fun s => by simp)
      (fun _ _ _ hs => hs.modSense (f := fun x => { x with writeRing := x.writeRing.samples 20 ring n }) fun _ => ⟨rfl, rfl⟩) h
  case onlineEvent => exact runTr_kept (fun s => by simp) (fun _ _ _ hs => hs.onlineSamples ..) h
  case loadPressed | unloadPressed => exact runTr_kept (fun s => by simp) (fun _ _ _ hs => hs.pressSamples ..) h
  case loadPhaseTimeout =>
    refine runTr_kept (fun s => ?_) (fun s _ _ hs => ?_) h
    · split <;> simp
    · split
      · exact (hs.modCtl _).failLoad _
      · exact hs
  case unloadPhaseTimeout =>
    refine runTr_kept (fun s => ?_) (fun s _ _ hs => ?_) h
    · split <;> simp
    · split
      · exact (hs.modCtl _).emergency _
      · exact hs
  case stall =>
    refine runTr_kept (fun s => ?_) (fun s _ _ hs => ?_) h
    · split <;> simp
    · split
      · exact (hs.modDrive _).stallAtControl
      · exact hs
  case capstanTargetSpeedReached => exact runTr_kept (fun s => by simp) (fun _ _ _ hs => hs.modDrive _) h
  case stopPointReached => exact runTr_kept (fun s => by simp) (fun _ _ _ hs => hs.doStopPoint) h
  case holdOverExpiry => exact runTr_kept (fun s => by simp) (fun _ _ _ hs => hs.doHoldOver) h
  case capstanStandstill =>
    refine runTr_kept (fun s => ?_) (fun s _ _ hs => ?_) h
    · split <;> simp
    · split
      · exact hs.arrive
      · exact hs
  case shuttleLimitReached =>
    exact runTr_kept (fun s => by simp) (fun _ _ _ hs => hs.modTr Transport.shuttleReached_sense) h
  case shuttleBrakePoint => exact runTr_kept (fun s => by simp) (fun _ _ _ hs => hs.doBrakePoint) h
  case shuttleEnd =>
    refine runTr_kept (fun s => ?_) (fun s _ _ hs => ?_) h
    · split <;> simp
    · split
      · exact hs.endShuttle
      · exact hs
  case unthreadWindStopped =>
    refine runTr_kept (fun s => ?_) (fun s _ _ hs => ?_) h
    · split <;> simp
    · split
      · exact hs.windStopped
      · exact hs
  case recordQualified => exact runTr_kept (fun s => by simp) (fun _ _ _ hs => hs.doQualified) h
  case recordEndDetected => exact runTr_kept (fun s => by simp) (fun _ _ _ hs => hs.doRecordEnd) h
  case blank => exact runTr_kept (fun s => by simp) (fun _ _ _ hs => hs.doBlank) h
  case scanBudgetExceeded => exact runTr_kept (fun s => by simp) (fun _ _ _ hs => hs.doBudget) h
  case formationStart => exact runTr_kept (fun s => by simp) (fun _ _ _ hs => hs.doFormation) h
  case postambleComplete => exact runTr_kept (fun s => by simp) (fun _ _ _ hs => hs.doPostamble) h
  case writtenRecordReport => exact runTr_kept (fun s => by simp) (fun _ _ _ hs => hs.doWrittenReport) h
  case writeStartTimeout => exact runTr_kept (fun s => by simp) (fun _ _ _ hs => hs.doStartTimeout) h
  case eraseLengthReached => exact runTr_kept (fun s => by simp) (fun _ _ _ hs => hs.doEraseLength) h
  case readDrainComplete =>
    refine runTr_kept (fun s => ?_) (fun s _ _ hs => ?_) h
    · split <;> simp
    · split
      · exact hs.xferEnd _
      · exact hs
  case buttonReleased button n =>
    exact runTr_kept (fun s => by simp) (fun _ _ _ hs => hs.modSense fun x => Sensing.setButton_path x button _) h

/-! ### What a command of the whole controller can do -/

/-- What the work of the whole controller keeps. -/
structure State.Kept (s s' : State) : Prop where
  pending : s'.pending = s.pending
  memory : memWf s.hostMemory = true → memWf s'.hostMemory = true
  sound : ∀ q b, (∀ t, s.SoundAt (.path q b) t) → ∀ t, s'.SoundAt (.path q b) t

section
variable {s s' s'' : State} {t : Tr}

theorem State.Kept.refl (s : State) : s.Kept s := ⟨rfl, id, fun _ _ h => h⟩

theorem State.Kept.trans (h : s.Kept s') (h' : s'.Kept s'') : s.Kept s'' :=
  ⟨h'.pending.trans h.pending, fun hm => h'.memory (h.memory hm), fun q b hs => h'.sound q b (h.sound q b hs)⟩

/-- The work of one transport is work of the controller. -/
theorem State.KeptAt.kept (h : s.KeptAt s' t) : s.Kept s' := by
  obtain ⟨hothers, hmemory, hpending, -⟩ := State.beyond_eq h.beyond
  refine ⟨hpending, fun hm => hmemory ▸ hm, fun q b hs u => ?_⟩
  have ht := h.sound q b (hs t)
  by_cases hu : u = t
  · exact hu ▸ ht
  · exact ⟨by rw [(hothers u hu).1]; exact (hs u).1, ht.2⟩

/-- A change that leaves the transports, the Map Store and the queue alone, and host memory in its form. -/
theorem State.Kept.shared (htrs : s'.trs = s.trs) (hstore : s'.store = s.store) (hpending : s'.pending = s.pending)
    (hmemory : memWf s.hostMemory = true → memWf s'.hostMemory = true) : s.Kept s' :=
  ⟨hpending, hmemory, fun q b hs t => (hs t).congr (by simp only [State.tr, htrs]) hstore⟩

theorem State.Kept.freePort (s : State) (x : BusTransfer) (n : Nat) : s.Kept (s.freePort x n) := by
  unfold State.freePort; dsimp only; split
  · exact .shared rfl rfl rfl id
  · exact .shared rfl rfl rfl fun hm => hostWrite_wf _ _ hm

theorem State.settled_kept (s : State) (t : Tr) : s.Kept (s.settled t) :=
  (State.KeptAt.mk (by simp) fun _ _ hs => hs.settled).kept (t := t)

theorem State.settleAll_kept (s : State) : s.Kept s.settleAll :=
  (((State.settled_kept _ _).trans (State.settled_kept _ _)).trans (State.settled_kept _ _)).trans
    (State.settled_kept _ _)

theorem runEach_kept {f : State → State} (hf : ∀ s : State, s.Kept (f s)) (h : runEach s f = .next s') :
    s' = s ∨ ∃ x, s.powered = true ∧ s.Kept x ∧ s' = x.refreshAll.finish := by
  rcases runAll_next h with ⟨-, rfl⟩ | ⟨hp, rfl⟩
  · exact .inl rfl
  · exact .inr ⟨_, hp, (hf s).trans (State.settleAll_kept _), rfl⟩

/-- The end of a transfer frees the port, and then its requester works. -/
theorem runEach_freePort_kept {x : BusTransfer} {n : Nat} {f : State → State} (hf : ∀ s : State, s.Kept (f s))
    (h : (runEach s fun s => if x.orphan then s.freePort x n else f (s.freePort x n)) = .next s') :
    s' = s ∨ ∃ x, s.powered = true ∧ s.Kept x ∧ s' = x.refreshAll.finish := by
  refine runEach_kept (fun s => ?_) h
  split
  · exact .freePort ..
  · exact (State.Kept.freePort ..).trans (hf _)

theorem endRead_kept {k : TransferKind} {ws : List Word} {f : Tr → State → State}
    (h : endRead k ws s f = .next s') (hf : ∀ t (s : State), s.KeptAt (f t s) t) :
    s' = s ∨ ∃ x, s.powered = true ∧ s.Kept x ∧ s' = x.refreshAll.finish := by
  rcases endRead_next h with rfl | ⟨t, x, -, -, -, hrun⟩
  · exact .inl rfl
  · exact runEach_freePort_kept (fun s => (hf t s).kept) hrun

theorem endWrite_kept {k : TransferKind} {f : Tr → BusTransfer → State → State}
    (h : endWrite k s f = .next s') (hf : ∀ t x (s : State), s.KeptAt (f t x s) t) :
    s' = s ∨ ∃ x, s.powered = true ∧ s.Kept x ∧ s' = x.refreshAll.finish := by
  rcases endWrite_next h with rfl | ⟨t, x, -, -, hrun⟩
  · exact .inl rfl
  · exact runEach_freePort_kept (fun s => (hf t x s).kept) hrun

theorem execBusTimeout_kept {n : Nat} {ws : List Word} (h : execBusTimeout n ws s = .next s') :
    s' = s ∨ ∃ x, s.powered = true ∧ s.Kept x ∧ s' = x.refreshAll.finish := by
  unfold execBusTimeout at h
  split at h
  · split at h
    · exact runEach_freePort_kept
        (fun s => (State.KeptAt.mk (by simp) fun _ _ hs => hs.timedOut ..).kept (t := _)) h
    · cases h
  · cases h
    exact .inl rfl

/-- The four transports' turns at one change of the controller's inputs. -/
theorem State.eachTurn_kept {g : State → Tr → State} (hat : ∀ (s : State) t, s.Kept (g s t)) (s : State) :
    s.Kept (g (g (g (g s .t0) .t1) .t2) .t3) :=
  (((hat _ _).trans (hat _ _)).trans (hat _ _)).trans (hat _ _)

theorem State.takePwarn_kept (s : State) : s.Kept s.takePwarn := by
  have hfirst : s.Kept { s with power := { s.power with released := .all false } } := .shared rfl rfl rfl id
  exact hfirst.trans (State.eachTurn_kept (g := State.pwarnAt)
    (fun s t => (State.KeptAt.mk (by simp) fun _ _ hs => hs.pwarnAt).kept (t := t)) _)

theorem State.takeRelease_kept (s : State) : s.Kept s.takeRelease :=
  State.eachTurn_kept (g := State.lateRelease)
    (fun s t => (State.KeptAt.mk (by simp) fun _ _ hs => hs.lateRelease).kept (t := t)) s

theorem State.takeClear_kept (s : State) : s.Kept s.takeClear := by
  have hat := State.eachTurn_kept (g := State.clearAt)
    (fun s t => (State.KeptAt.mk (by simp) fun _ _ hs => hs.clearAt).kept (t := t)) s
  unfold State.takeClear
  generalize State.clearAt (State.clearAt (State.clearAt (State.clearAt s .t0) .t1) .t2) .t3 = x at hat
  exact hat.trans (.shared rfl rfl rfl id)

theorem State.takeBurst_kept (s : State) (t : Tr) (k : TransferKind) : s.Kept (s.takeBurst t k) :=
  (State.KeptAt.mk (by simp) fun _ _ hs => hs.takeBurst k).kept (t := t)

theorem State.grant_kept (s : State) : s.Kept s.grant := by
  unfold State.grant State.grantControl State.grantData; dsimp only; repeat' split
  all_goals first | exact .refl _ | exact .shared rfl rfl rfl id |
    exact (State.takeBurst_kept ..).trans (.shared rfl rfl rfl id)

theorem State.grantArea_kept (s : State) : s.Kept s.grantArea := by
  unfold State.grantArea; repeat' split
  · exact .refl _
  · exact (State.KeptAt.mk (by simp) fun _ _ hs => hs.giveArea).kept (t := _)
  · exact .refl _

end

/-- The commands that end a transfer of the bus. -/
def isTransferEnd : Instr → Bool
  | .busTimeout .. | .orderFetchComplete _ | .terminationWriteComplete | .profileRecordRead _ | .detectorRecordRead _
  | .tagWordsRead _ | .mapEntryRecordWritten | .dumpMapBurstComplete | .loadMapBurstComplete _ | .senseRecordWritten
  | .readBurstComplete | .writeBurstComplete _ => true
  | _ => false

theorem exec_transferEnd {c : Instr} {s s' : State} (hc : isTransferEnd c = true) (h : exec c s = .next s') :
    s' = s ∨ ∃ x, s.powered = true ∧ s.Kept x ∧ s' = x.refreshAll.finish := by
  cases c <;> cases hc <;> dsimp only [exec] at h
  case busTimeout => exact execBusTimeout_kept h
  case orderFetchComplete => exact endRead_kept h fun t s => ⟨by simp, fun _ _ hs => hs.fetched _⟩
  case profileRecordRead => exact endRead_kept h fun t s => ⟨by simp, fun _ _ hs => hs.profileRead _⟩
  case detectorRecordRead => exact endRead_kept h fun t s => ⟨by simp, fun _ _ hs => hs.detectorRead _⟩
  case tagWordsRead => exact endRead_kept h fun t s => ⟨by simp, fun _ _ hs => hs.tagRead _⟩
  case loadMapBurstComplete => exact endRead_kept h fun t s => ⟨by simp, fun _ _ hs => hs.imported _⟩
  case writeBurstComplete =>
    exact endRead_kept h fun t s => ⟨by simp, fun _ _ hs => (hs.modXfer _).xferTest⟩
  case terminationWriteComplete =>
    exact endWrite_kept h fun t x s => ⟨by simp, fun _ _ hs => hs.terminated _⟩
  case mapEntryRecordWritten =>
    exact endWrite_kept h fun t x s => ⟨by simp, fun _ _ hs =>
      (hs.modTr (f := fun y => { y with mapOrder := .none }) fun _ => rfl).endOrder _⟩
  case dumpMapBurstComplete => exact endWrite_kept h fun t x s => ⟨by simp, fun _ _ hs => hs.dumped _⟩
  case senseRecordWritten =>
    exact endWrite_kept h fun t x s => ⟨by simp, fun _ _ hs => (hs.modPort _).endOrder _⟩
  case readBurstComplete =>
    exact endWrite_kept h fun t x s => ⟨by simp, fun _ _ hs => (hs.modXfer _).xferTest⟩

/-- What a command of the whole controller can do: nothing; work that ends with the outputs of all transports worked out
again; or one of the three changes of power. -/
theorem exec_ofController {c : Instr} {s s' : State} (hc : commandOf c = none) (h : exec c s = .next s') :
    s' = s ∨ (∃ x, s.powered = true ∧ s.Kept x ∧ s' = x.refreshAll.finish) ∨ (∃ f, c = .powerOn f ∧ s' = (s.powerUp f).finish) ∨
      (∃ cut, s.powered = true ∧ s' = s.powerDown cut) ∨
      (c = .backupFailure ∧ s' = { s with power := { s.power with latch := true } }) := by
  have hkept : (s' = s ∨ ∃ x, s.powered = true ∧ s.Kept x ∧ s' = x.refreshAll.finish) → s' = s ∨ (∃ x, s.powered = true ∧ s.Kept x ∧ s' = x.refreshAll.finish) ∨
      (∃ f, c = .powerOn f ∧ s' = (s.powerUp f).finish) ∨ (∃ cut, s.powered = true ∧ s' = s.powerDown cut) ∨
      (c = .backupFailure ∧ s' = { s with power := { s.power with latch := true } }) := Or.imp_right Or.inl
  refine if hend : isTransferEnd c = true then hkept (exec_transferEnd hend h) else ?_
  cases c <;> cases hc <;> dsimp only [exec] at h
  case powerOn f => cases h; exact .inr (.inr (.inl ⟨f, rfl, rfl⟩))
  case mainPowerLoss cut =>
    cases h
    split
    · exact .inr (.inr (.inr (.inl ⟨cut, ‹_›, rfl⟩)))
    · exact .inl rfl
  case backupFailure =>
    cases h
    split
    · exact .inl rfl
    · exact .inr (.inr (.inr (.inr ⟨rfl, rfl⟩)))
  case ignoredBusWrite => cases h; exact .inl rfl
  case pwarnAssertion n =>
    refine hkept (runEach_kept (fun s => ?_) h)
    have hsamples : s.Kept (s.pwarnSamples true n) := .shared rfl rfl rfl id
    split
    · exact hsamples.trans (State.takePwarn_kept _)
    · exact hsamples
  case pwarnRelease n =>
    refine hkept (runEach_kept (fun s => ?_) h)
    have hsamples : s.Kept (s.pwarnSamples false n) := .shared rfl rfl rfl id
    split
    · exact hsamples.trans (State.takeRelease_kept _)
    · exact hsamples
  case controllerClear n =>
    refine hkept (runEach_kept (fun s => ?_) h)
    have hsamples : s.Kept (s.clearSamples true n) := .shared rfl rfl rfl id
    split
    · exact hsamples.trans (State.takeClear_kept _)
    · exact hsamples
  case clearRelease n =>
    refine hkept (runEach_kept (fun s => ?_) h)
    split <;> exact .shared rfl rfl rfl id
  case arbiterGrant => exact hkept (runEach_kept State.grant_kept h)
  case exchangeAreaGrant => exact hkept (runEach_kept State.grantArea_kept h)
  all_goals exact absurd rfl hend

end Sys2Proof.Machine
end

section
/-! PROOF. The invariants of every step, the independence of the transports, and nothing without main power. -/
namespace Sys2Proof.Machine

section
variable {s s' : State} {t : Tr} {c : Instr}

/-! ### What a step can do -/

theorem exec_cases (h : exec c s = .next s') :
    s' = s ∨ (∃ x t, s.KeptAt x t ∧ s' = (x.refresh t).finish) ∨ (∃ x, s.Kept x ∧ s' = x.refreshAll.finish) ∨
      (∃ f, s' = (s.powerUp f).finish) ∨ (∃ cut, s' = s.powerDown cut) ∨
      s' = { s with power := { s.power with latch := true } } := by
  cases hc : commandOf c with
  | some t =>
    rcases exec_ofTransport hc h with rfl | ⟨x, -, hx, rfl⟩
    · exact .inl rfl
    · exact .inr (.inl ⟨x, t, hx, rfl⟩)
  | none =>
    rcases exec_ofController hc h with rfl | ⟨x, -, hx, rfl⟩ | ⟨f, -, rfl⟩ | ⟨cut, -, rfl⟩ | ⟨-, rfl⟩
    · exact .inl rfl
    · exact .inr (.inr (.inl ⟨x, hx, rfl⟩))
    · exact .inr (.inr (.inr (.inl ⟨f, rfl⟩)))
    · exact .inr (.inr (.inr (.inr (.inl ⟨cut, rfl⟩))))
    · exact .inr (.inr (.inr (.inr (.inr rfl))))

theorem State.elapseAll_kept (s : State) : s.Kept s.elapseAll := by
  have hat : ∀ (s : State) t, s.Kept (s.modTr t (·.elapse 1)) := fun s t =>
    (State.KeptAt.mk (by simp) fun _ _ hs => hs.modTr (f := (·.elapse 1)) fun _ => rfl).kept (t := t)
  exact State.eachTurn_kept (g := fun s t => s.modTr t (·.elapse 1)) hat s

/-- An invariant of every step: a property of the transports, the Map Store and host memory that the work of one
transport, the work of the controller and the two changes of power keep. -/
theorem step_invariant {P : State → Prop}
    (hcongr : ∀ s s' : State, s'.trs = s.trs → s'.store = s.store → s'.hostMemory = s.hostMemory → P s → P s')
    (hat : ∀ (s x : State) t, P s → s.KeptAt x t → P (x.refresh t)) (heach : ∀ s x : State, P s → s.Kept x → P x.refreshAll)
    (hup : ∀ (s : State) f, P s → P (s.powerUp f)) (hdown : ∀ (s : State) cut, P s → P (s.powerDown cut))
    (hs : P s) (h : step s = .next s') : P s' := by
  have hfinish : ∀ x : State, P x → P x.finish := fun x => hcongr _ _ (by simp) (by simp) (by simp)
  unfold step at h
  split at h
  next =>
    cases h
    unfold State.tick
    split
    · exact hfinish _ (heach _ _ hs s.elapseAll_kept)
    · exact hs
  next c rest _ =>
    have hq : P (s.withPending rest) := hcongr s (s.withPending rest) rfl rfl rfl hs
    rcases exec_cases h with rfl | ⟨x, t, hx, rfl⟩ | ⟨x, hx, rfl⟩ | ⟨f, rfl⟩ | ⟨cut, rfl⟩ | rfl
    · exact hq
    · exact hfinish _ (hat _ _ _ hq hx)
    · exact hfinish _ (heach _ _ hq hx)
    · exact hfinish _ (hup _ _ hq)
    · exact hdown _ _ hq
    · exact hcongr (s.withPending rest) { s.withPending rest with power := _ } rfl rfl rfl hq

/-! ### The queue and host memory (log 1, log 5) -/

@[simp] theorem State.refreshAll_pending (s : State) : s.refreshAll.pending = s.pending := rfl
@[simp] theorem State.refreshAll_hostMemory (s : State) : s.refreshAll.hostMemory = s.hostMemory := rfl
@[simp] theorem State.refreshAll_store (s : State) : s.refreshAll.store = s.store := rfl
@[simp] theorem State.refreshAll_exchange (s : State) : s.refreshAll.exchange = s.exchange := rfl
@[simp] theorem State.refreshAll_arb (s : State) : s.refreshAll.arb = s.arb := rfl
@[simp] theorem State.refreshAll_power (s : State) : s.refreshAll.power = s.power := rfl
@[simp] theorem State.refreshAll_powered (s : State) : s.refreshAll.powered = s.powered := rfl

@[simp] theorem State.tr_refreshAll (s : State) (t : Tr) : s.refreshAll.tr t = (s.tr t).refresh := by
  cases t <;> rfl

@[simp] theorem State.refreshAll_reel (s : State) (t : Tr) : s.refreshAll.reel t = s.reel t := rfl

/-- Settles O3. -/
theorem queueUntouched : Obligations.QueueUntouched := by
  intro c s s' h
  rcases exec_cases h with rfl | ⟨x, t, hx, rfl⟩ | ⟨x, hx, rfl⟩ | ⟨f, rfl⟩ | ⟨cut, rfl⟩ | rfl
  · rfl
  · simpa using hx.kept.pending
  · simpa using hx.pending
  · rfl
  · rfl
  · rfl

/-- Settles O6. -/
theorem memoryStaysCanonical : Obligations.MemoryStaysCanonical := fun _ _ hs h =>
  step_invariant (P := State.MemoryCanonical) (fun s s' _ _ hmem hs => by rwa [State.MemoryCanonical, hmem])
    (fun _ _ _ hs hx => hx.kept.memory hs) (fun _ _ hs hx => hx.memory hs) (fun _ _ hs => hs) (fun _ _ hs => hs) hs h

/-! ### The outputs of each transport (R11, R44, R45) -/

/-- A property of each transport that its outputs have whenever they have been worked out, and the power-on state has:
an invariant of every step. -/
theorem step_outputs {p : Transport → Prop} (hrefresh : ∀ x : Transport, p x.refresh)
    (hpower : ∀ f, p (Transport.powerOn f)) (hs : ∀ t, p (s.tr t)) (h : step s = .next s') : ∀ t, p (s'.tr t) := by
  refine step_invariant (P := fun s => ∀ t, p (s.tr t)) (fun s s' htrs _ _ hs t => ?_) (fun s x t hs hx u => ?_)
    (fun s x hs hx t => ?_) (fun s f hs t => ?_) (fun s cut hs t => ?_) hs h
  · simpa [State.tr, htrs] using hs t
  · by_cases hu : u = t
    · simpa [hu] using hrefresh (x.tr t)
    · simpa [State.tr_refresh_other _ hu, (State.beyond_eq hx.beyond).1 u hu] using hs u
  · simpa using hrefresh (x.tr t)
  · cases t <;> exact hpower _
  · cases t <;> exact hpower _

/-- Settles O7. -/
theorem writeEnableInterlocked : Obligations.WriteEnableInterlocked := fun _ _ hs h =>
  step_outputs (p := fun x => x.sense.writeEnable = true → x.sense.writeRing.level = true)
    (fun _ hx => (Bool.and_eq_true_iff.mp hx).2) (fun _ hx => nomatch hx) hs h

theorem clampMagnitude_natAbs_le (m : Nat) (v : Int) : (clampMagnitude m v).natAbs ≤ m := by
  unfold clampMagnitude; split
  · simp
  · split <;> omega

/-- The clamp of R44. -/
theorem reelCommand_natAbs_le (x : Transport) (side : Side) : (reelCommand x side).natAbs ≤ x.drive.active.sMax := by
  unfold reelCommand; repeat' split
  all_goals first | exact clampMagnitude_natAbs_le .. | exact Nat.zero_le _

/-- The brake of R45. -/
theorem reelCommand_braked {x : Transport} {side : Side} (h : x.drive.released side = false) : reelCommand x side = 0 := by
  simp [reelCommand, h]

/-- Settles O9. -/
theorem reelCommandsLimited : Obligations.ReelCommandsLimited := fun _ _ hs h =>
  step_outputs (p := fun x => x.drive.supplyCommand.natAbs ≤ x.drive.active.sMax ∧
      x.drive.takeupCommand.natAbs ≤ x.drive.active.sMax ∧ (x.drive.supplyReleased = false → x.drive.supplyCommand = 0) ∧
      (x.drive.takeupReleased = false → x.drive.takeupCommand = 0))
    (fun _ => ⟨reelCommand_natAbs_le .., reelCommand_natAbs_le .., fun hx => reelCommand_braked hx,
      fun hx => reelCommand_braked hx⟩)
    (fun _ => ⟨Nat.zero_le _, Nat.zero_le _, fun _ => rfl, fun _ => rfl⟩) hs h

/-! ### PATH GOOD and the maps (R8, R93, R95) -/

theorem State.SoundAt.refreshAll {q b : Prop} (hs : ∀ t, s.SoundAt (.path q b) t) (t : Tr) :
    s.refreshAll.SoundAt (.path q b) t :=
  (hs t).refresh.congr (by simp) rfl

/-- What a step watched at every transport keeps: PATH GOOD where `q` is watched and the maps where `b` is. -/
theorem step_sound {q b : Prop} (hup : ∀ (s : State) f t, (∀ t, s.SoundAt (.path q b) t) → (s.powerUp f).SoundAt (.path q b) t)
    (hdown : ∀ (s : State) cut t, (∀ t, s.SoundAt (.path q b) t) → (s.powerDown cut).SoundAt (.path q b) t)
    (hs : ∀ t, s.SoundAt (.path q b) t) (h : step s = .next s') : ∀ t, s'.SoundAt (.path q b) t := by
  refine step_invariant (P := fun s => ∀ t, s.SoundAt (.path q b) t) (fun s s' htrs hstore _ hs t => ?_)
    (fun s x t hs hx u => ?_) (fun s x hs hx => ?_) (fun s f hs t => hup s f t hs) (fun s cut hs t => hdown s cut t hs) hs h
  · exact (hs t).congr (by simp [State.tr, htrs]) hstore
  · have hat := hx.kept.sound q b hs
    by_cases hu : u = t
    · exact hu ▸ (hat t).refresh
    · exact (hat u).congr (by rw [State.tr_refresh_other _ hu]) rfl
  · exact State.SoundAt.refreshAll (hx.sound q b hs)

/-- Settles O8. -/
theorem pathGoodFollows : Obligations.PathGoodFollows := by
  intro s s' hs h t
  refine (step_sound (q := True) (b := False) (fun s f t _ => ⟨fun _ => ?_, False.elim⟩)
    (fun s cut t _ => ⟨fun _ => ?_, False.elim⟩) (fun t => ⟨fun _ => hs t, False.elim⟩) h t).1 trivial
  · cases t <;> rfl
  · cases t <;> rfl

theorem MapStore.Ordered.empty : MapStore.empty.Ordered :=
  ⟨fun t => by cases t <;> exact ⟨.nil, Nat.zero_le _⟩, rfl⟩

theorem markFits_of_inRange {e : Entry} (h : entryInRange e = true) : markFits e = true := by
  simp only [entryInRange, Bool.and_eq_true] at h
  rw [markFits_iff]
  cases hk : e.kind <;> simp [hk] at h ⊢ <;> omega

/-- The structure check of a reel record includes its order (R95, R181). -/
theorem EntriesOrdered.of_reelSound {r : ReelRecord} (h : reelSound r = true) :
    EntriesOrdered r.entries ∧ r.entries.length ≤ 1024 := by
  simp only [reelSound, Bool.and_eq_true, entriesRise_iff, marksDiffer_iff, decide_eq_true_eq, List.all_eq_true] at h
  obtain ⟨⟨⟨⟨hrise, hdiff⟩, hrange⟩, -⟩, hlen⟩ := h
  exact ⟨⟨hrise, hdiff, fun e he => markFits_of_inRange (hrange e he)⟩, hlen⟩

theorem MapStore.Ordered.of_storeSound {m : MapStore} (h : storeSound m = true) : m.Ordered := by
  simp only [storeSound, Bool.and_eq_true, decide_eq_true_eq] at h
  obtain ⟨⟨⟨⟨h0, h1⟩, h2⟩, h3⟩, hpool⟩ := h
  exact ⟨fun t => by cases t <;> exact EntriesOrdered.of_reelSound ‹_›, hpool⟩

@[simp] theorem heldReel_entries (r : ReelRecord) : (heldReel r).entries = r.entries := by
  unfold heldReel; split <;> rfl

theorem MapStore.Ordered.held {m : MapStore} (h : m.Ordered) : (heldStore m).Ordered := by
  refine ⟨fun t => ?_, ?_⟩
  · have := h.1 t
    cases t <;> simpa [heldStore, Four.get] using this
  · simpa [heldStore, entryTotal] using h.2

/-- Whatever the outage left, the store is in order after power-on (R92, R181). -/
theorem storeAtPowerOn_ordered (s : State) : (storeAtPowerOn s).Ordered := by
  unfold storeAtPowerOn
  split
  next h =>
    simp only [retentionVerdict, Bool.and_eq_true] at h
    exact (MapStore.Ordered.of_storeSound h.2).held
  next => exact .empty

/-- Settles O10. -/
theorem mapsStayOrdered : Obligations.MapsStayOrdered := by
  intro s s' hs h
  rw [State.mapsOrdered_iff] at hs ⊢
  exact (step_sound (q := False) (b := True) (fun s f t _ => ⟨False.elim, fun _ => storeAtPowerOn_ordered s⟩)
    (fun s cut t hs => ⟨False.elim, fun _ => (hs t).2 trivial⟩) (fun t => ⟨False.elim, fun _ => hs⟩) h .t0).2 trivial

/-! ### Reset, independence, and main power (log 2, R180) -/

/-- Settles O5. -/
theorem resetSafe : Obligations.ResetSafe := by
  refine ⟨fun _ => ⟨by decide, by decide, rfl⟩, rfl, fun t => ?_, fun t => ?_, fun t => ?_,
    (State.mapsOrdered_iff _).mpr .empty⟩
  · cases t <;> decide
  · cases t <;> decide
  · cases t <;> decide

/-- Settles O11. -/
theorem transportsIndependent : Obligations.TransportsIndependent := by
  intro s s' t c hc h
  rcases exec_ofTransport hc h with rfl | ⟨x, -, hx, rfl⟩
  · exact ⟨fun _ _ => ⟨rfl, rfl⟩, rfl, rfl, rfl, rfl⟩
  · obtain ⟨hothers, hmemory, -, hpowered, hpwarn, hclear, -⟩ := State.beyond_eq hx.beyond
    exact ⟨fun u hu => by simpa [State.tr_refresh_other _ hu] using hothers u hu, by simpa using hmemory,
      by simpa using hpwarn, by simpa using hclear, by simpa using hpowered⟩

/-- Settles O12. -/
theorem nothingWithoutPower : Obligations.NothingWithoutPower := by
  intro s s' c hs hon hbackup h
  have hout : s.powered ≠ true := by simp [hs]
  cases hc : commandOf c with
  | some t =>
    rcases exec_ofTransport hc h with rfl | ⟨x, hp, -⟩
    · rfl
    · exact absurd hp hout
  | none =>
    rcases exec_ofController hc h with rfl | ⟨x, hp, -⟩ | ⟨f, hf, -⟩ | ⟨cut, hp, -⟩ | ⟨hb, -⟩
    · rfl
    · exact absurd hp hout
    · exact absurd hf (hon f)
    · exact absurd hp hout
    · exact absurd hb hbackup

/-- Settles O1. -/
theorem stepRunsFront : Obligations.StepRunsFront := by
  intro c q s h
  simp only [step, h]

/-! ### A clock cycle (log 6) -/

@[simp] theorem Drive.elapseCapstan_stall (d : Drive) (n : Nat) :
    (d.elapseCapstan n).watched = d.watched ∧ (d.elapseCapstan n).stallTimer = d.stallTimer := by
  unfold Drive.elapseCapstan; dsimp only; split <;> exact ⟨rfl, rfl⟩

@[simp] theorem Drive.elapseShuttle_stall (d : Drive) (r : Reckoning) (n : Nat) :
    (d.elapseShuttle r n).watched = d.watched ∧ (d.elapseShuttle r n).stallTimer = d.stallTimer := by
  unfold Drive.elapseShuttle; split <;> exact ⟨rfl, rfl⟩

@[simp] theorem Drive.elapseWind_stall (d : Drive) (n : Nat) :
    (d.elapseWind n).watched = d.watched ∧ (d.elapseWind n).stallTimer = d.stallTimer := by
  unfold Drive.elapseWind; split <;> exact ⟨rfl, rfl⟩

@[simp] theorem Drive.limitShuttle_stall (d : Drive) (r : Reckoning) :
    (d.limitShuttle r).watched = d.watched ∧ (d.limitShuttle r).stallTimer = d.stallTimer := by
  unfold Drive.limitShuttle; repeat' split
  all_goals exact ⟨rfl, rfl⟩

/-- Where what is watched stays, the stall timer goes on (R55). -/
theorem Transport.refresh_elapse_stall (x : Transport) (n : Nat) :
    x.drive.watched = none ∨ (x.elapse n).refresh.drive.watched ≠ x.drive.watched ∨
      (x.elapse n).refresh.drive.stallTimer = x.drive.stallTimer + n := by
  cases hw : x.drive.watched with
  | none => exact .inl rfl
  | some tach =>
    refine .inr ?_
    simp only [Transport.refresh, Drive.watch]
    split
    · exact .inr (by simp [Transport.elapse, Drive.elapseStall, hw])
    next hne =>
      refine .inl fun heq => hne (heq.trans ?_)
      simp [Transport.elapse, Drive.elapseStall, hw]

@[simp] theorem State.tr_elapseAll (s : State) (t : Tr) : s.elapseAll.tr t = (s.tr t).elapse 1 := by
  cases t <;> rfl

/-- Settles O2. -/
theorem stepIdles : Obligations.StepIdles := by
  intro s t hp hq
  have htr : s.elapseAll.refreshAll.finish.tr t = ((s.tr t).elapse 1).refresh := by simp
  refine ⟨s.elapseAll.refreshAll.finish, by simp [step, hq, State.tick, hp], ?_⟩
  rw [htr]
  exact ⟨rfl, rfl, rfl, rfl, rfl, rfl, rfl, Transport.refresh_elapse_stall _ _, ⟨rfl, rfl, rfl⟩, rfl, hp, hq⟩

end

end Sys2Proof.Machine
end

section
/-! PROOF. How a command of one transport is run when nothing comes about by itself afterwards, and the filters of the
Sensing Interface (chapter 1) with PITCH MEASURED (R62, R63). -/
namespace Sys2Proof.Machine

/-! ### Every change of a transport's record as a replacement of it -/

@[simp] theorem State.modTr_setTr (s : State) (t : Tr) (f : Transport → Transport) : s.modTr t f = s.setTr t (f (s.tr t)) := rfl
@[simp] theorem State.modPort_setTr (s : State) (t : Tr) (f : Port → Port) :
    s.modPort t f = s.setTr t { s.tr t with port := f (s.tr t).port } := rfl
@[simp] theorem State.modCtl_setTr (s : State) (t : Tr) (f : Control → Control) :
    s.modCtl t f = s.setTr t { s.tr t with ctl := f (s.tr t).ctl } := rfl
@[simp] theorem State.modDrive_setTr (s : State) (t : Tr) (f : Drive → Drive) :
    s.modDrive t f = s.setTr t { s.tr t with drive := f (s.tr t).drive } := rfl
@[simp] theorem State.modChan_setTr (s : State) (t : Tr) (f : Channel → Channel) :
    s.modChan t f = s.setTr t { s.tr t with chan := f (s.tr t).chan } := rfl
@[simp] theorem State.modXfer_setTr (s : State) (t : Tr) (f : Transfer → Transfer) :
    s.modXfer t f = s.setTr t { s.tr t with xfer := f (s.tr t).xfer } := rfl
@[simp] theorem State.modLoc_setTr (s : State) (t : Tr) (f : Locate → Locate) :
    s.modLoc t f = s.setTr t { s.tr t with loc := f (s.tr t).loc } := rfl
@[simp] theorem State.modSense_setTr (s : State) (t : Tr) (f : Sensing → Sensing) :
    s.modSense t f = s.setTr t { s.tr t with sense := f (s.tr t).sense } := rfl

/-! A replacement of the record comes before the other changes of the state. -/

@[simp] theorem State.setTr_setReel (s : State) (t u : Tr) (r : ReelRecord) (x : Transport) :
    (s.setReel u r).setTr t x = (s.setTr t x).setReel u r := rfl
@[simp] theorem State.setTr_setEntries (s : State) (t u : Tr) (es : List Entry) (x : Transport) :
    (s.setEntries u es).setTr t x = (s.setTr t x).setEntries u es := rfl
@[simp] theorem State.setTr_requestControl (s : State) (t u : Tr) (y : BusTransfer) (x : Transport) :
    (s.requestControl u y).setTr t x = (s.setTr t x).requestControl u y := rfl
@[simp] theorem State.setTr_requestData (s : State) (t u : Tr) (k : TransferKind) (x : Transport) :
    (s.requestData u k).setTr t x = (s.setTr t x).requestData u k := rfl
@[simp] theorem State.setTr_withdrawControl (s : State) (t u : Tr) (x : Transport) :
    (s.withdrawControl u).setTr t x = (s.setTr t x).withdrawControl u := rfl
@[simp] theorem State.setTr_withdrawData (s : State) (t u : Tr) (x : Transport) :
    (s.withdrawData u).setTr t x = (s.setTr t x).withdrawData u := rfl
@[simp] theorem State.setTr_releaseExchange (s : State) (t u : Tr) (x : Transport) :
    (s.releaseExchange u).setTr t x = (s.setTr t x).releaseExchange u := rfl

/-! ### When nothing comes about by itself -/

/-- Nothing comes about by itself at a transport with this record: it moves, or it rests with no stop kind, no stopped
unloading and no request that could begin or be refused (R27, R40, R52, R53). -/
def Transport.Settled (x : Transport) : Prop :=
  x.drive.atRest = true →
    x.drive.stopKind = .none ∧ (x.ctl.state = .unloading → x.ctl.unloadEnding = true → x.ctl.stopUnderWay = true) ∧
      ∀ r, x.drive.pending = some r → x.ctl.permission = neededPermission r ∧ x.sense.pathGood = false

theorem State.settled_iff {s : State} {t : Tr} : s.Settled t ↔ (s.tr t).Settled := by
  rw [State.Settled, Option.isNone_iff_eq_none, State.settleOnce, Transport.Settled]
  generalize s.tr t = x
  by_cases hr : x.drive.atRest = true
  · by_cases hk : x.drive.stopKind = .none
    · by_cases hu : (x.ctl.state = .unloading ∧ x.ctl.unloadEnding = true) ∧ x.ctl.stopUnderWay = false
      · simp [hr, hk, hu]
      · have hu' : x.ctl.state = .unloading → x.ctl.unloadEnding = true → x.ctl.stopUnderWay = true := by simpa using hu
        cases x.drive.pending with
        | none => simpa [hr, hk, hu] using hu'
        | some r =>
          by_cases hn : x.ctl.permission = neededPermission r
          · simpa [hr, hk, hu, hn] using fun _ => hu'
          · simp [hr, hk, hu, hn]
    · simp [hr, hk]
  · simp [hr]

theorem State.settled_eq {s : State} {t : Tr} (h : (s.tr t).Settled) : s.settled t = s :=
  State.settled_rest (Option.isNone_iff_eq_none.mp (State.settled_iff.mpr h))

section
variable {x y : Transport}

theorem Transport.Settled.of_moving (h : x.drive.atRest = false) : x.Settled := fun hr => absurd (h.symm.trans hr) (by simp)

theorem Transport.Settled.of_calm (hk : x.drive.stopKind = .none) (hu : x.ctl.unloadEnding = false)
    (hp : x.drive.pending = none) : x.Settled := fun _ =>
  ⟨hk, fun _ hu' => absurd (hu.symm.trans hu') (by simp), fun r hr => absurd (hp.symm.trans hr) (by simp)⟩

theorem Transport.Settled.congr (h : x.Settled) (hd : y.drive = x.drive := by rfl)
    (hs : y.ctl.state = x.ctl.state := by rfl) (hu : y.ctl.unloadEnding = x.ctl.unloadEnding := by rfl)
    (hw : y.ctl.stopUnderWay = x.ctl.stopUnderWay := by rfl) (hp : y.ctl.permission = x.ctl.permission := by rfl)
    (hg : y.sense.pathGood = x.sense.pathGood := by rfl) : y.Settled := by
  unfold Transport.Settled at *
  rwa [hd, hs, hu, hw, hp, hg]

end

/-! ### Runs that leave one transport's record -/

section
variable {s y : State} {t : Tr} {f : State → State} {x : Transport}

theorem State.onlyAt_finish (hb : y.beyond t = s.beyond t) (hp : y.power = s.power) :
    s.OnlyAt ((y.refresh t).finish) t := by
  obtain ⟨hothers, hmemory, hpending, hpowered, -⟩ := State.beyond_eq hb
  exact ⟨fun u hu => by simpa [State.tr_refresh_other _ hu] using hothers u hu, by simpa using hmemory,
    by simp [hp], by simpa using hpowered, by simpa using hpending⟩

theorem State.becomes_finish (s : State) (t : Tr) (x : Transport) : s.Becomes (((s.setTr t x).refresh t).finish) t x :=
  ⟨State.onlyAt_finish (by simp) rfl, ⟨by simp, by simp, by simp⟩, by simp⟩

theorem runTr_settled (hp : s.powered = true) (hf : ((f s).tr t).Settled) :
    runTr t s f = .next (((f s).refresh t).finish) := by
  rw [runTr_powered hp, State.settled_eq hf]

/-- A command that replaces the record of its transport and nothing else. -/
theorem exec_becomes {c : Instr} (hc : exec c s = runTr t s f) (hp : s.powered = true) (hf : f s = s.setTr t x)
    (hx : x.Settled) : ∃ s', exec c s = .next s' ∧ s.Becomes s' t x := by
  have hset : ((f s).tr t).Settled := by rw [hf, State.tr_setTr_same]; exact hx
  exact ⟨_, hc.trans (runTr_settled hp hset), hf ▸ State.becomes_finish s t x⟩

end

/-! ### PITCH MEASURED (R62, R63) -/

theorem State.raiseIndIf_eq (s : State) (t : Tr) (b : Bool) (i : Indicator) :
    s.raiseIndIf t b i = s.modPort t fun p => p.raisedIf b i := by
  cases b
  · exact (State.setTr_tr s t).symm
  · simp [State.raiseIndIf, Port.raisedIf, State.raiseInd]

theorem Window.measured_eq {w : Window} (hfull : 256 ≤ w.reelCounts) (h0 : 0 ≤ w.capstanSteps)
    (h20 : w.capstanSteps ≤ 20000) :
    w.measured = if 4000 ≤ w.capstanSteps then some (16 * w.capstanSteps).toNat else none := by
  unfold Window.measured
  congr 1
  simp only [Bool.and_eq_true, decide_eq_true_eq, eq_iff_iff]
  omega

/-- Settles O15. -/
theorem pitchMeasured : Obligations.PitchMeasured := by
  intro s t reel hp hset hfull h0 h20
  have hm := Window.measured_eq hfull h0 h20
  refine exec_becomes (f := fun s => s.doPitch t reel) rfl hp ?_ ?_
  · have hf : ((s.tr t).reck.window reel).full = true := by simp [Window.full, hfull]
    have hdo : s.doPitch t reel = s.setTr t { s.tr t with
        reck := (s.tr t).reck.measure reel (s.tr t).drive.active.k,
        port := (s.tr t).port.raisedIf ((s.tr t).reck.window reel).measured.isNone .reelSlip } := by
      simp [State.doPitch, hf, State.raiseIndIf_eq]
    refine hdo.trans (congrArg _ ?_)
    by_cases h4 : 4000 ≤ ((s.tr t).reck.window reel).capstanSteps
    · simp [Reckoning.measure, hm, h4, Port.raisedIf, Window.restart]
    · simp [Reckoning.measure, hm, h4, Port.raisedIf, Window.restart]
  · split
    · exact (State.settled_iff.mp hset).congr
    · exact (State.settled_iff.mp hset).congr

/-! ### Columns and vacuum in UNLOADED (R4 to R8) -/

section
variable {s : State} {t : Tr}

/-- Where nothing runs and no stop is under way, PATH GOOD is worked out again and no block acts (R8, R30, R39). -/
theorem State.pathUpdate_standstill (hp : (s.tr t).drive.phase = .stopped) (hs : (s.tr t).drive.shuttlePhase = .none)
    (hc : (s.tr t).ctl.stopUnderWay = false) :
    s.pathUpdate t = s.setTr t { s.tr t with sense := (s.tr t).sense.withPath } := by
  unfold State.pathUpdate
  dsimp only
  split
  next h =>
    have hw : (s.tr t).sense.withPath = (s.tr t).sense := by simp [Sensing.withPath, h]
    simp only [hw]
    exact (State.setTr_tr s t).symm
  next =>
    split
    · rfl
    · simp [State.pathBroken, Control.faultStopping, hc, State.pathLostDrive, Drive.unloadCreeping,
        Drive.driving, hp, hs, Sensing.withPath]

/-- Both reels braked, no loop is left to brake (R45). -/
theorem State.brakeReels_braked (hs : (s.tr t).drive.supplyReleased = false) (ht : (s.tr t).drive.takeupReleased = false) :
    s.brakeReels t = s := by
  have hd : (s.tr t).drive.brakeLostLoops (s.tr t).sense = (s.tr t).drive := by
    generalize (s.tr t).drive = d at hs ht ⊢
    cases d
    unfold Drive.brakeLostLoops
    split
    · rfl
    · simp_all
  simp only [State.brakeReels, State.modTr_setTr, hd]
  exact State.setTr_tr s t

theorem Transport.Unloaded.settled {x y : Transport} (h : x.Unloaded) (hd : y.drive = x.drive) (hc : y.ctl = x.ctl) :
    y.Settled := by
  obtain ⟨⟨-, -, -, hk, hp, -, -, -, -, -, hu⟩, -⟩ := h
  exact .of_calm (hd ▸ hk) (hc ▸ hu) (hd ▸ hp)

/-- UNLOADED, a zone event makes no block act but the one that works out PATH GOOD. -/
theorem State.zoneEventAt_unloaded (h : (s.tr t).Unloaded) (side : Side) (z : Zone) : s.zoneEventAt t side z = s := by
  obtain ⟨⟨-, -, -, -, -, -, hs, ht, -⟩, hstate⟩ := h
  simp [State.zoneEventAt, State.brakeReels_braked hs ht, State.zoneAtControl, hstate]

theorem State.sensorFaultAt_unloaded (h : (s.tr t).Unloaded) (side : Side) : s.sensorFaultAt t side = s := by
  simp [State.sensorFaultAt, h.2]

theorem State.vacuumAtControl_unloaded (h : (s.tr t).Unloaded) (side : Side) (v : Bool) :
    s.vacuumAtControl t side v = s := by
  cases v <;> simp [State.vacuumAtControl, State.threadCheck, h.2]

theorem State.pathUpdate_unloaded (h : (s.tr t).Unloaded) :
    s.pathUpdate t = s.setTr t { s.tr t with sense := (s.tr t).sense.withPath } := by
  obtain ⟨⟨hp, hs, -, -, -, -, -, -, -, hc, -⟩, -⟩ := h
  exact State.pathUpdate_standstill hp hs hc

/-- Samples of a column of an UNLOADED transport: the column's filter, and PATH GOOD worked out again. -/
theorem State.columnSamples_unloaded (h : (s.tr t).Unloaded) (side : Side) (p : Pattern) (n : Nat)
    (hg : (s.tr t).sense.pathGood = pathGoodOf (s.tr t).sense) :
    s.columnSamples t side p n = s.setTr t { s.tr t with
      sense := ((s.tr t).sense.setColumn side (((s.tr t).sense.column side).samples p n).1).withPath } := by
  have hset : ∀ c, (((s.modSense t fun x => x.setColumn side c).tr t)).Unloaded := fun c => by simpa using h
  unfold State.columnSamples
  dsimp only
  split
  next hnone =>
    obtain ⟨hv, hz⟩ := Column.samples_none hnone
    have hpath := Sensing.setColumn_path (x := (s.tr t).sense) (side := side) hv hz
    simp only [State.modSense_setTr]
    congr 2
    simp only [Sensing.withPath, hpath, ← hg]
    cases side <;> rfl
  next => rw [State.zoneEventAt_unloaded (hset _), State.pathUpdate_unloaded (hset _)]; simp
  next =>
    rw [State.sensorFaultAt_unloaded (hset _), State.zoneEventAt_unloaded (hset _), State.pathUpdate_unloaded (hset _)]
    simp
  next => rw [State.zoneEventAt_unloaded (hset _), State.pathUpdate_unloaded (hset _)]; simp

/-- A filter that has not changed its level. -/
theorem State.vacuumSamples_unloaded (h : (s.tr t).Unloaded) (side : Side) (v : Bool) (n : Nat)
    (hg : (s.tr t).sense.pathGood = pathGoodOf (s.tr t).sense) :
    s.vacuumSamples t side v n = s.setTr t { s.tr t with
      sense := ((s.tr t).sense.setVacuum side (((s.tr t).sense.vacuumLevel side).samples 10 v n)).withPath } := by
  have hset : ∀ c, (((s.modSense t fun x => x.setVacuum side c).tr t)).Unloaded := fun c => by simpa using h
  unfold State.vacuumSamples
  dsimp only
  split
  · obtain ⟨⟨-, -, -, -, -, -, hs, ht, -⟩, -⟩ := hset (((s.tr t).sense.vacuumLevel side).samples 10 v n)
    rw [State.vacuumAtControl_unloaded (hset _), State.brakeReels_braked hs ht, State.pathUpdate_unloaded (hset _)]
    simp
  next hsame =>
    have hlevel := Level.samples_level (eq_false_of_ne_true hsame)
    simp only [State.modSense_setTr]
    congr 2
    cases side <;> simp_all [Sensing.withPath, pathGoodOf, Sensing.setVacuum, Sensing.vacuumLevel]

end

/-- Samples that change a filtered level. -/
theorem Level.samples_changes {l : Level} {need : Nat} {v : Bool} {n : Nat} (hn : 1 ≤ n) (hv : v ≠ l.level)
    (hc : need ≤ l.count + n) : l.changes need v n = true ∧ l.samples need v n = { level := v, count := 0 } := by
  have hn' : n ≠ 0 := by omega
  simp [Level.changes, Level.samples, hn', hv, hc]

/-- Settles O16. -/
theorem zoneAccepted : Obligations.ZoneAccepted := by
  intro s t side p z n hp hu hvalid hz hne hfresh hn hg
  refine exec_becomes (f := fun s => s.columnSamples t side p n) rfl hp ((State.columnSamples_unloaded hu side p n hg).trans ?_) (hu.settled rfl rfl)
  have hn' : n ≠ 0 := by omega
  congr 4
  by_cases h4 : 4 ≤ n
  · have hi : min 4 n = 4 := by omega
    simp [Column.samples, hn', hz, Column.accepts, Column.identicalAfter, hfresh, hvalid, hne, h4]
  · have hi : min 4 n ≠ 4 := by omega
    simp [Column.samples, hn', hz, Column.accepts, Column.identicalAfter, hfresh, hvalid, h4, hi]

/-- Settles O17. -/
theorem columnSensorFaultAndRestored : Obligations.ColumnSensorFaultAndRestored := by
  intro s t side p n hp hu hn hg
  have hn' : n ≠ 0 := by omega
  refine ⟨fun hvalid hz h200 => ?_, fun z hvalid hz hfresh h4 => ?_⟩
  · refine exec_becomes (f := fun s => s.columnSamples t side p n) rfl hp ((State.columnSamples_unloaded hu side p n hg).trans ?_) (hu.settled rfl rfl)
    simp [Column.samples, hn', hz, hvalid, h200]
  · refine exec_becomes (f := fun s => s.columnSamples t side p n) rfl hp ((State.columnSamples_unloaded hu side p n hg).trans ?_) (hu.settled rfl rfl)
    simp [Column.samples, hn', hz, hvalid, Column.accepts, Column.identicalAfter, hfresh, h4]

/-- Settles O18. -/
theorem vacuumLevelAccepted : Obligations.VacuumLevelAccepted := by
  intro s t side v n hp hu hn hv hg
  refine exec_becomes (f := fun s => s.vacuumSamples t side v n) rfl hp ((State.vacuumSamples_unloaded hu side v n hg).trans ?_) (hu.settled rfl rfl)
  have hold : ((s.tr t).sense.vacuumLevel side).level = !v := Bool.eq_not_of_ne hv.symm
  have hn' : n ≠ 0 := by omega
  have hl : ((s.tr t).sense.vacuumLevel side).samples 10 v n =
      if 10 ≤ ((s.tr t).sense.vacuumLevel side).count + n then { level := v, count := 0 }
      else { level := !v, count := ((s.tr t).sense.vacuumLevel side).count + n } := by
    simp [Level.samples, hn', hold]
  rw [hl]

/-! ### Tape present, write ring and the ONLINE switch (R9, R11, R12, R19, R35) -/

/-- Settles O19. -/
theorem tapePresentAndRingAccepted : Obligations.TapePresentAndRingAccepted := by
  intro s t v n hp hn
  refine ⟨fun hu hv hc => ?_, fun hset hv hc => ?_⟩
  · obtain ⟨hchange, hlevel⟩ := Level.samples_changes hn hv hc
    refine exec_becomes (f := fun s => s.tapeSamples t v n) rfl hp ?_ (hu.settled rfl rfl)
    cases v <;> simp [State.tapeSamples, hchange, hlevel, State.tapeAtControl, hu.2]
  · obtain ⟨-, hlevel⟩ := Level.samples_changes hn hv hc
    have hring : (s.modSense t fun x => { x with writeRing := x.writeRing.samples 20 v n }) = s.setTr t { s.tr t with
        sense := { (s.tr t).sense with writeRing := { level := v, count := 0 } } } := by
      simp only [State.modSense_setTr, hlevel]
    obtain ⟨s', hexec, hbecomes⟩ := exec_becomes (c := .writeRingChange t v n)
      (f := fun s => s.modSense t fun x => { x with writeRing := x.writeRing.samples 20 v n }) rfl hp hring
      (State.settled_iff.mp hset).congr
    exact ⟨s', hexec, hbecomes, by rw [hbecomes.2.2]; rfl⟩

/-- Settles O21. -/
theorem onlineSwitch : Obligations.OnlineSwitch := by
  intro s t on n hp hset hstate hv hn hc
  obtain ⟨hchange, hlevel⟩ := Level.samples_changes hn hv hc
  refine exec_becomes (f := fun s => s.onlineSamples t on n) rfl hp ?_ (State.settled_iff.mp hset).congr
  have hready : readyOrMoving (s.tr t).ctl = true := by simp [readyOrMoving, hstate]
  cases on with
  | true =>
    by_cases hfl : (s.tr t).port.pointer = .inFlight
    · simp [State.onlineSamples, hchange, hlevel, State.onEvent, hready, State.raiseCause, Port.inFlight, eq_true hfl]
    · cases ho : (s.tr t).ctl.online
      · simp [State.onlineSamples, hchange, hlevel, State.onEvent, ho, hready, State.raiseCause, Port.inFlight, hfl,
          State.raiseAtt, Port.raiseAtt, attentionBit]
      · simp [State.onlineSamples, hchange, hlevel, State.onEvent, ho, hfl]
  | false =>
    by_cases hfl : (s.tr t).port.pointer = .inFlight
    · simp [State.onlineSamples, hchange, hlevel, Transport.offEvent, Port.inFlight, eq_true hfl]
    · cases ho : (s.tr t).ctl.online <;>
        simp [State.onlineSamples, hchange, hlevel, Transport.offEvent, Port.inFlight, hfl, ho, hready, Port.raiseAtt,
          attentionBit]

end Sys2Proof.Machine
end

section
/-! PROOF. The Drive Unit and Transport Control (chapters 2 and 3): the capstan's phases, emergency stops, failing loads
and the unthreading wind. -/
namespace Sys2Proof.Machine

/-! ### The outputs leave all else of a record -/

section
variable (x : Transport)

@[simp] theorem Transport.refresh_ctl : x.refresh.ctl = x.ctl := rfl
@[simp] theorem Transport.refresh_reck : x.refresh.reck = x.reck := rfl
@[simp] theorem Transport.refresh_chan : x.refresh.chan = x.chan := rfl
@[simp] theorem Transport.refresh_loc : x.refresh.loc = x.loc := rfl
@[simp] theorem Transport.refresh_xfer : x.refresh.xfer = x.xfer := rfl
@[simp] theorem Transport.refresh_port : x.refresh.port = x.port := rfl
@[simp] theorem Transport.refresh_mapOrder : x.refresh.mapOrder = x.mapOrder := rfl

/-- What the outputs worked out again leave of the Drive Unit (R44, R50, R55). -/
theorem Transport.refresh_drive : ∃ v r w n b c d, x.refresh.drive =
    { x.drive with
      shuttleSpeed := v, shuttleRem := r, watched := w, stallTimer := n, stallReported := b, supplyCommand := c,
      takeupCommand := d } := by
  unfold Transport.refresh Drive.watch Drive.limitShuttle
  dsimp only
  repeat' split
  all_goals exact ⟨_, _, _, _, _, _, _, rfl⟩

end

/-! ### The capstan's phases (R37, R38, R41) -/

section
variable {s : State} {t : Tr} {d : Drive}

theorem Drive.atRest_of_phase (h : d.phase ≠ .stopped) : d.atRest = false := by simp [Drive.atRest, Drive.standstill, h]

theorem Drive.atRest_of_shuttle (h : d.shuttlePhase ≠ .none) : d.atRest = false := by
  simp [Drive.atRest, Drive.standstill, h]

theorem Drive.decel_eq (h : d.phase = .accel ∨ d.phase = .run) :
    d.decel = { d with phase := .decel, holdOver := none } := by
  rcases h with h | h <;> simp [Drive.decel, h]

theorem capstanStopPoint_target {r : Reckoning} {n : Int} (h : d.phase = .accel ∨ d.phase = .run)
    (ht : d.stopTarget = some n) (hn : n ≤ rampDistance d.command.natAbs d.active.aC)
    (hl : d.dir = .backward ∨ n ≤ r.forwardLimit - r.position) : capstanStopPoint d r = .target := by
  rcases hl with hl | hl
  · simp [capstanStopPoint, h, ht, hn, hl]
  · by_cases hf : d.dir = .forward <;> simp [capstanStopPoint, h, ht, hn, hl, hf]

theorem capstanStopPoint_limit {r : Reckoning} (h : d.phase = .accel ∨ d.phase = .run) (ht : d.stopTarget = none)
    (hf : d.dir = .forward) (hl : r.forwardLimit - r.position ≤ rampDistance d.command.natAbs d.active.aC) :
    capstanStopPoint d r = .limit := by
  rcases h with h | h <;> simp [capstanStopPoint, h, ht, hf, hl]

/-- Settles O45. -/
theorem capstanPhases : Obligations.CapstanPhases := by
  intro s t hp
  have hmoves : ∀ d : Drive, d.phase ≠ .stopped → Transport.Settled { s.tr t with drive := d } :=
    fun d hd => .of_moving (Drive.atRest_of_phase hd)
  refine ⟨fun ha => ?_, fun n ha ht hn hl => ?_, fun ha ht hf hl => ?_, fun ha hh => ?_⟩
  · refine exec_becomes (f := fun s => s.modDrive t Drive.reached) rfl hp ?_ (hmoves _ (by simp))
    simp [Drive.reached, ha]
  · refine exec_becomes (f := fun s => s.doStopPoint t) rfl hp ?_ (hmoves _ (by simp))
    simp [State.doStopPoint, capstanStopPoint_target ha ht hn hl, Drive.decel_eq ha]
  · refine exec_becomes (f := fun s => s.doStopPoint t) rfl hp ?_ (hmoves _ (by simp))
    simp [State.doStopPoint, capstanStopPoint_limit ha ht hf hl, Drive.decel_eq ha]
  · refine exec_becomes (f := fun s => s.doHoldOver t) rfl hp ?_ (hmoves _ (by simp))
    simp [State.doHoldOver, Drive.holdOverDue, Drive.driving, ha, hh, Drive.decel_eq ha]

end

end Sys2Proof.Machine
end

section
/-! PROOF. Power up and down (chapter 11), the Order Port's pointer, and the ends of the transfers of the Order Port, the
Drive Unit and the Read Channel (chapter 8). -/
namespace Sys2Proof.Machine

/-! ### POWER_ON, MAIN_POWER_LOSS and BACKUP_FAILURE (R180, R181) -/

/-- Nothing interrupts the host at power-on. -/
theorem intrOf_powerOn (f : PowerOnSamples) :
    intrOf { a0 := .powerOn f.s0, a1 := .powerOn f.s1, a2 := .powerOn f.s2, a3 := .powerOn f.s3 } = false := by
  simp [intrOf, Transport.powerOn, Port.powerOn, Port.complete, Port.unmasked]

/-- Settles O24: every clause is a field of the state that `State.powerUp` builds. -/
theorem powerOn : Obligations.PowerOn := fun s f =>
  ⟨(s.powerUp f).finish, rfl, by simp [State.powerUp], by simp [State.powerUp, PowerMonitor.powerOn, retentionVerdict],
    by simp [State.powerUp, PowerMonitor.powerOn, storeAtPowerOn, heldStore, MapStore.empty], rfl, rfl, rfl, rfl, rfl, rfl,
    by simp [State.powerUp, intrOf_powerOn], rfl, rfl⟩

/-- Settles O25. -/
theorem powerLossKeepsTheStore : Obligations.PowerLossKeepsTheStore := by
  intro s
  refine ⟨fun cut hp => ?_, fun hp => ?_⟩
  · have hexec : exec (.mainPowerLoss cut) s = .next (s.powerDown cut) := congrArg Host.Outcome.next (if_pos hp)
    have hbare : ∀ t, (s.powerDown cut).tr t = .powerOn bareSamples := Four.get_all _
    exact ⟨_, hexec, rfl, rfl, rfl, rfl, rfl, rfl, rfl, fun t => by rw [hbare t]; exact ⟨rfl, rfl, rfl⟩⟩
  · exact ⟨_, congrArg Host.Outcome.next (if_neg (by simp [hp])), rfl⟩

/-! ### Runs whose last state is named -/

section
variable {s y : State} {t : Tr} {f : State → State}

/-- A command of one transport, with the state that it makes before the outputs are worked out. -/
theorem exec_next {c : Instr} (hc : exec c s = runTr t s f) (hp : s.powered = true) (hf : f s = y)
    (hy : (y.tr t).Settled) : exec c s = .next ((y.refresh t).finish) := by
  subst hf
  exact hc.trans (runTr_settled hp hy)

end

/-! ### Ends of transfers -/

section
variable (s : State) (x : BusTransfer) (n : Nat) (t : Tr)

theorem State.freePort_eq : s.freePort x n =
    { s with
      arb := { s.arb with current := none }, hostMemory := memWriteWords s.hostMemory x.address (x.words.take n) } := by
  unfold State.freePort
  dsimp only
  split
  · simp only [*, List.take_nil]
    rfl
  · rfl

@[simp] theorem State.freePort_trs : (s.freePort x n).trs = s.trs := by rw [State.freePort_eq]
@[simp] theorem State.freePort_tr : (s.freePort x n).tr t = s.tr t := by simp [State.tr]
@[simp] theorem State.freePort_store : (s.freePort x n).store = s.store := by rw [State.freePort_eq]
@[simp] theorem State.freePort_reel : (s.freePort x n).reel t = s.reel t := by simp [State.reel]
@[simp] theorem State.freePort_exchange : (s.freePort x n).exchange = s.exchange := by rw [State.freePort_eq]
@[simp] theorem State.freePort_power : (s.freePort x n).power = s.power := by rw [State.freePort_eq]
@[simp] theorem State.freePort_powered : (s.freePort x n).powered = s.powered := by rw [State.freePort_eq]
@[simp] theorem State.freePort_pending : (s.freePort x n).pending = s.pending := by rw [State.freePort_eq]
@[simp] theorem State.freePort_freeIndex : (s.freePort x n).freeIndex = s.freeIndex := by rw [State.freePort_eq]
@[simp] theorem State.freePort_arb : (s.freePort x n).arb = { s.arb with current := none } := by rw [State.freePort_eq]
@[simp] theorem State.freePort_hostMemory :
    (s.freePort x n).hostMemory = memWriteWords s.hostMemory x.address (x.words.take n) := by rw [State.freePort_eq]

end

section
variable {s y : State} {t : Tr} {x : BusTransfer} {k : TransferKind} {ws : List Word} {n : Nat}

theorem memWriteWords_nil (m : List Host.Cell) (a : Nat) : memWriteWords m a [] = m := rfl

/-- Each transport settled, and one of them with another record, that is settled too. -/
theorem State.settleAll_only (hs : s.AllSettled) (hothers : ∀ u, u ≠ t → y.tr u = s.tr u) (ht : (y.tr t).Settled) :
    y.settleAll = y := by
  have hall : ∀ u, y.settleOnce u = none := fun u => by
    refine Option.isNone_iff_eq_none.mp (State.settled_iff.mpr ?_)
    by_cases hu : u = t
    · exact hu ▸ ht
    · obtain ⟨h0, h1, h2, h3⟩ := hs
      rw [hothers u hu]
      exact State.settled_iff.mp (by cases u; exacts [h0, h1, h2, h3])
  exact State.settleAll_rest (hall _) (hall _) (hall _) (hall _)

theorem State.Transfers.settled (h : s.Transfers t x k) : ∀ u, (s.tr u).Settled := by
  obtain ⟨-, -, -, -, h0, h1, h2, h3⟩ := h
  intro u
  exact State.settled_iff.mp (by cases u; exacts [h0, h1, h2, h3])

/-- The end of a transfer whose requester waits for it, when the requester changes its own transport only. -/
theorem runEach_transfer {g : State → State} (h : s.Transfers t x k) (hg : g (s.freePort x n) = y)
    (hb : y.beyond t = (s.freePort x n).beyond t) (hpower : y.power = s.power) (hset : (y.tr t).Settled) :
    runEach s (fun s => if x.orphan then s.freePort x n else g (s.freePort x n)) = .next y.refreshAll.finish ∧
      s.OnlyAtEach y.refreshAll.finish t := by
  obtain ⟨hp, -, horphan, -, hall⟩ := h
  obtain ⟨hothers, -, hpending, hpowered, -⟩ := State.beyond_eq hb
  have htr : ∀ u, u ≠ t → y.tr u = s.tr u ∧ y.reel u = s.reel u := fun u hu => by simpa using hothers u hu
  refine ⟨?_, fun u hu => ⟨?_, ?_⟩, by simp [hpower], by simpa using hpowered, by simpa using hpending⟩
  · rw [runEach_powered hp, horphan]
    simp only [Bool.false_eq_true, if_false, hg]
    rw [State.settleAll_only hall (fun u hu => (htr u hu).1) hset]
  · simp [(htr u hu).1]
  · simp [(htr u hu).2]

theorem endRead_transfer {f : Tr → State → State} (h : s.Reads t x k ws) (hf : f t (s.freePort x x.length) = y)
    (hb : y.beyond t = (s.freePort x x.length).beyond t) (hpower : y.power = s.power) (hset : (y.tr t).Settled) :
    endRead k ws s f = .next y.refreshAll.finish ∧ s.OnlyAtEach y.refreshAll.finish t := by
  obtain ⟨ht, hw, hl⟩ := h
  have hrun := runEach_transfer (g := f t) ht hf hb hpower hset
  obtain ⟨hp, hcur, horphan, hk, hall⟩ := ht
  have hend : endRead k ws s f =
      runEach s fun s => if x.orphan then s.freePort x x.length else f t (s.freePort x x.length) := by
    simp [endRead, hcur, hk, hl]
  exact ⟨hend.trans hrun.1, hrun.2⟩

theorem endWrite_transfer {f : Tr → BusTransfer → State → State} (h : s.Transfers t x k)
    (hf : f t x (s.freePort x x.length) = y) (hb : y.beyond t = (s.freePort x x.length).beyond t)
    (hpower : y.power = s.power) (hset : (y.tr t).Settled) :
    endWrite k s f = .next y.refreshAll.finish ∧ s.OnlyAtEach y.refreshAll.finish t := by
  have hrun := runEach_transfer (g := f t x) h hf hb hpower hset
  obtain ⟨hp, hcur, horphan, hk, hall⟩ := h
  have hend : endWrite k s f =
      runEach s fun s => if x.orphan then s.freePort x x.length else f t x (s.freePort x x.length) := by
    simp [endWrite, hcur, hk]
  exact ⟨hend.trans hrun.1, hrun.2⟩

theorem execBusTimeout_transfer (h : s.Transfers t x k) (hn : n < x.length) (hws : k.reads = true → ws.length = n)
    (hf : (s.freePort x n).timedOut t x n ws = y) (hb : y.beyond t = (s.freePort x n).beyond t)
    (hpower : y.power = s.power) (hset : (y.tr t).Settled) :
    execBusTimeout n ws s = .next y.refreshAll.finish ∧ s.OnlyAtEach y.refreshAll.finish t := by
  have hrun := runEach_transfer (g := fun s => s.timedOut t x n ws) h hf hb hpower hset
  obtain ⟨hp, hcur, horphan, hk, hall⟩ := h
  have hwords : (n < x.length && (!x.kind.reads || ws.length = n)) = true := by
    subst hk
    cases hr : x.kind.reads <;> simp [hn]
    exact hws hr
  have hend : execBusTimeout n ws s =
      runEach s fun s => if x.orphan then s.freePort x n else s.freePort x n |>.timedOut t x n ws := by
    simp only [execBusTimeout, hcur, hwords, if_true]
  exact ⟨hend.trans hrun.1, hrun.2⟩

/-- An order is in flight, and its end is written at once: neither held for a stop, nor with a change to offline. -/
def Transport.Reporting (x : Transport) : Prop :=
  x.port.pointer = .inFlight ∧ x.port.held = none ∧ x.port.stopNotice = false ∧ x.ctl.offlinePending = false

theorem Transport.Working.reporting {x : Transport} (h : x.Working) : x.Reporting :=
  ⟨h.1, h.2.1, h.2.2.1, h.2.2.2.1⟩

/-- The order in flight ends: the pointer is TERMINATING and the termination write is requested (R141, R142). -/
theorem State.endOrder_reporting {r : OrderResult} (h : (s.tr t).Reporting) (hc : r.count ≤ 65535) :
    s.endOrder t r =
      (s.setTr t ((s.tr t).ended r s.freeIndex)).requestControl t (terminationTransfer (s.tr t) r s.freeIndex) := by
  obtain ⟨hptr, hheld, hstop, hoff⟩ := h
  have happly : (s.tr t).applyOffline = s.tr t := by simp [Transport.applyOffline, hoff]
  simp only [State.endOrder, Port.inFlight, hptr, hheld, hstop, State.formTermination, happly, faultStopCondition, hc,
    Transport.ended]
  simp
  cases r
  rfl

/-- The state in which the order in flight has just ended says so once the outputs are worked out, at its transport or
at each. -/
theorem State.terminates_of {z s' : State} {r : OrderResult} (hw : (z.tr t).Reporting)
    (hi : (z.tr t).port.index = (s.tr t).port.index) (hc : r.count ≤ 65535) (hm : r.markBlock = none)
    (htr : s'.tr t = ((z.endOrder t r).tr t).refresh) (harb : s'.arb = (z.endOrder t r).arb) :
    s.Terminates s' t r.condition r.count r.value (z.tr t).port.indicators := by
  simp [State.Terminates, htr, harb, State.endOrder_reporting hw hc, Transport.ended, resultWords, endWords, terminationTransfer,
    hm, hi, countWord, hc, Transport.refresh, terminationWord, Reckoning.atLoadPoint, pastEot]

end

/-- Settles O35: an end whose words do not fit the transfer under way answers the one fault of the model. -/
theorem wrongWordCountStops : Obligations.WrongWordCountStops := by
  intro s t x ws hcur
  have hend : ws.length ≠ x.length → ∀ k f, x.kind = k → endRead k ws s f = .fault .wordCount := fun hl k f hk => by
    simp [endRead, hcur, hk, hl]
  refine ⟨fun hl => ⟨?_, ?_, ?_, ?_, ?_, ?_⟩, fun n hn => ?_⟩
  · exact hend hl .fetch fun t s => s.fetched t ws
  · exact hend hl .profile fun t s => s.profileRead t ws
  · exact hend hl .detector fun t s => s.detectorRead t ws
  · exact hend hl .tagWords fun t s => s.tagRead t ws
  · exact hend hl .writeBurst fun t s => (s.modXfer t (·.takeWords ws)).xferTest t
  · exact hend hl .loadBurst fun t s => s.imported t ws
  change execBusTimeout n ws s = .fault .wordCount
  have hn' : ¬ n < x.length := by omega
  simp [execBusTimeout, hcur, hn']

/-- The Arbiter once a requester has withdrawn its control request. -/
@[simp] theorem State.withdrawControl_arb (s : State) (t : Tr) : (s.withdrawControl t).arb =
    { s.arb with
      control := s.arb.control.set t none,
      current := s.arb.current.map fun y =>
        if y.1 = t ∧ dataKind y.2.kind = false then (y.1, { y.2 with orphan := true }) else y } := by
  unfold State.withdrawControl Arbiter.orphanCurrent
  cases hc : s.arb.current with
  | none => simp [hc]
  | some p =>
    obtain ⟨u, x⟩ := p
    by_cases h : u = t ∧ dataKind x.kind = false <;> simp [hc, h]

/-- The byte address of an order block (R137). -/
theorem writtenIndex_toNat (v : Word) : (writtenIndex v).toNat = v.toNat % 8192 := by
  simp [writtenIndex, BitVec.extractLsb'_toNat]

/-- Settles O28: one clause for each state of the pointer and each kind of index. -/
theorem pointerWrites : Obligations.PointerWrites := by
  intro s t v hp hset
  have hs := State.settled_iff.mp hset
  have hport : ∀ p : Port, Transport.Settled { s.tr t with port := p } := fun p => hs.congr
  refine ⟨fun hv hptr => ?_, fun hv hptr => ?_, fun hv hptr => ?_, fun hv hptr => ?_, fun hv hptr => ?_⟩
  · have hstart : s.pointerWrite t (writtenIndex v) = s.startFetch t (writtenIndex v) := by
      rcases hptr with hptr | hptr <;> simp only [State.pointerWrite, hptr, hv, if_false]
      simp [State.startFetch, Port.toIdle]
    have hindex : writtenIndex v = v.setWidth 13 := by simp [writtenIndex, BitVec.setWidth_eq_extractLsb']
    refine ⟨_, exec_next (f := fun s => s.pointerWrite t (writtenIndex v)) rfl hp hstart (by simpa [State.startFetch] using hport _),
      State.onlyAt_finish (by simp [State.startFetch]) rfl, by simp [State.startFetch], by simp [State.startFetch], ?_, ?_, ?_⟩
    · simp [State.OnlyControl, State.startFetch]
    · simp [State.startFetch, writtenIndex_toNat, Nat.mul_comm]
    · simp [State.startFetch, hindex]
  · refine exec_becomes (f := fun s => s.pointerWrite t (writtenIndex v)) rfl hp ?_ (hport _)
    simp only [State.pointerWrite, hptr, hv, if_true, State.modPort_setTr]
  · refine exec_becomes (f := fun s => s.pointerWrite t (writtenIndex v)) rfl hp ?_ hs
    simp [State.pointerWrite, hptr, hv]
  · refine exec_becomes (f := fun s => s.pointerWrite t (writtenIndex v)) rfl hp ?_ (hport _)
    rcases hptr with hptr | hptr <;>
      simp only [State.pointerWrite, hptr, hv, if_false, State.raiseAtt, State.modPort_setTr, Port.raiseAtt, attentionBit]
  · have hleave : s.pointerWrite t (writtenIndex v) =
        (s.setTr t { s.tr t with port := (s.tr t).port.leaveTerminating.toIdle }).withdrawControl t := by
      simp only [State.pointerWrite, hptr, hv, if_true, State.modPort_setTr, State.setTr_withdrawControl, State.tr_withdrawControl]
    refine ⟨_, exec_next (f := fun s => s.pointerWrite t (writtenIndex v)) rfl hp hleave (by simpa using hport _), State.onlyAt_finish (by simp) rfl,
      by simp, by simp, by simp, ?_⟩
    simp only [Port.leaveTerminating]
    split <;> simp [*, Port.toIdle, Port.raiseAtt, attentionBit]

/-! ### Ends of the transfers of the Order Port, the Drive Unit and the Read Channel -/

/-- A termination write that ends makes the pointer COMPLETE PENDING, and INTR asserted (R142, R145). -/
theorem State.terminated_eq {s : State} {t : Tr} {lost : Bool} (h : (s.tr t).port.pointer = .terminating)
    (hf : (s.tr t).port.faultAfter = false) : s.terminated t lost = s.setTr t { s.tr t with
      port := { (s.tr t).port with pointer := .completePending, terminationLost := lost } } := by
  simp [State.terminated, Port.leaveTerminating, h, hf]

theorem intrOf_complete {trs : Four Transport} {t : Tr} (h : (trs.get t).port.pointer = .completePending) :
    intrOf trs = true := by
  cases t <;> simp_all [intrOf, Port.complete, Four.get]

/-- Settles O33. -/
theorem terminationWritten : Obligations.TerminationWritten := by
  intro s t x ⟨htrans, hwords, hne⟩ hptr hfa
  have hport : ∀ p : Port, Transport.Settled { s.tr t with port := p } := fun p => (htrans.settled t).congr
  have hend : ∀ lost n, (s.freePort x n).terminated t lost = (s.freePort x n).setTr t { s.tr t with
      port := { (s.tr t).port with pointer := .completePending, terminationLost := lost } } := fun lost n => by
    simpa using State.terminated_eq (s := s.freePort x n) (lost := lost) (by simpa using hptr) (by simpa using hfa)
  have hintr : ∀ lost n, intrOf ((s.freePort x n).setTr t { s.tr t with
      port := { (s.tr t).port with pointer := .completePending, terminationLost := lost } }).refreshAll.trs = true := fun lost n =>
    intrOf_complete (t := t) (by
      change (State.tr _ t).port.pointer = _
      simp)
  refine ⟨?_, fun done hdone => ?_⟩
  · obtain ⟨hexec, honly⟩ := endWrite_transfer (f := fun t _ s => s.terminated t false) htrans (hend false x.length) (by simp)
      (by simp) (by simpa using hport _)
    refine ⟨_, hexec, honly, by simp, by simp, by simp, ?_, by simpa using hintr false x.length, by simp⟩
    simp [← hwords]
  · obtain ⟨hexec, honly⟩ := execBusTimeout_transfer (ws := []) htrans hdone (by simp [TransferKind.reads])
      (by simp only [State.timedOut, htrans.2.2.2.1]; exact hend true done) (by simp) (by simp) (by simpa using hport _)
    exact ⟨_, hexec, honly, by simp, by simp, by simp, by simp, by simpa using hintr true done, by simp⟩

/-- After the end of a transfer the order of transport `t` has ended too, and nothing else has changed but its record,
which was `y` before that (R141, R149). -/
def State.FreedAndEnded (s s' : State) (t : Tr) (y : Transport) (r : OrderResult) : Prop :=
  s.OnlyAtEach s' t ∧ s'.store = s.store ∧ s'.exchange = s.exchange ∧ s'.arb.current = none ∧
    s'.hostMemory = s.hostMemory ∧
    s'.tr t = Transport.refresh { y with
      port := { y.port with pointer := .terminating, result := (s'.tr t).port.result } } ∧
    s.Terminates s' t r.condition r.count r.value y.port.indicators

section
variable {s : State} {t : Tr} {x : BusTransfer} {k : TransferKind} {n : Nat} {ws : List Word} {y : Transport}
  {r : OrderResult}

/-- The record of a transport as its requester leaves it before the order ends. -/
def Transport.EndsFrom (y x : Transport) : Prop := y.Reporting ∧ y.Settled ∧ y.port.index = x.port.index

theorem State.freed_ended (hy : y.EndsFrom (s.tr t)) (hc : r.count ≤ 65535) (hm : r.markBlock = none) (hw : x.words = []) :
    let z := ((s.freePort x n).setTr t y).endOrder t r
    (z.tr t).Settled ∧ z.beyond t = (s.freePort x n).beyond t ∧ z.power = s.power ∧
      (s.OnlyAtEach z.refreshAll.finish t → s.FreedAndEnded z.refreshAll.finish t y r) := by
  obtain ⟨hwork, hset, hi⟩ := hy
  have hz : (((s.freePort x n).setTr t y).tr t).Reporting := by simpa using hwork
  have hterm := State.terminates_of (s := s) (s' := (((s.freePort x n).setTr t y).endOrder t r).refreshAll.finish) hz
    (by simpa using hi) hc hm (by simp) (by simp)
  rw [State.tr_setTr_same] at hterm
  obtain ⟨-, hheld, -⟩ := hwork
  refine ⟨?_, by simp, ?_, fun honly => ⟨honly, ?_, ?_, ?_, ?_, ?_, hterm⟩⟩
  all_goals simp [State.endOrder_reporting hz hc, Transport.ended, hw, memWriteWords_nil]
  · exact hset.congr
  · simp [Transport.refresh, hheld]

/-- A read transfer ends and its requester ends the order. -/
theorem endRead_ended {f : Tr → State → State} (h : s.Reads t x k ws)
    (hf : f t (s.freePort x x.length) = ((s.freePort x x.length).setTr t y).endOrder t r) (hy : y.EndsFrom (s.tr t))
    (hc : r.count ≤ 65535 := by simp) (hm : r.markBlock = none := by rfl) :
    ∃ s', endRead k ws s f = .next s' ∧ s.FreedAndEnded s' t y r := by
  obtain ⟨hset, hb, hp, hended⟩ := State.freed_ended (n := x.length) hy hc hm h.2.1
  obtain ⟨hexec, honly⟩ := endRead_transfer h hf hb hp hset
  exact ⟨_, hexec, hended honly⟩

/-- A read transfer times out and its requester ends the order. -/
theorem execBusTimeout_ended (h : s.Transfers t x k) (hw : x.words = []) (hlen : ws.length < x.length)
    (hy : y.EndsFrom (s.tr t)) (hc : r.count ≤ 65535) (hm : r.markBlock = none)
    (hf : (s.freePort x ws.length).timedOut t x ws.length ws = ((s.freePort x ws.length).setTr t y).endOrder t r) :
    ∃ s', execBusTimeout ws.length ws s = .next s' ∧ s.FreedAndEnded s' t y r := by
  obtain ⟨hset, hb, hp, hended⟩ := State.freed_ended (n := ws.length) hy hc hm hw
  obtain ⟨hexec, honly⟩ := execBusTimeout_transfer h hlen (fun _ => rfl) hf hb hp hset
  exact ⟨_, hexec, hended honly⟩

@[simp] theorem State.freePort_setTr_self : (s.freePort x n).setTr t (s.tr t) = s.freePort x n := by
  rw [← State.freePort_tr s x n t, State.setTr_tr]

theorem Transport.EndsFrom.self (h : s.Transfers t x k) (hw : (s.tr t).Working) : (s.tr t).EndsFrom (s.tr t) :=
  ⟨hw.reporting, h.settled t, rfl⟩

end

/-- Settles O34. -/
theorem fetchTimeout : Obligations.FetchTimeout := by
  intro s t x ws hkind hwords hlen hw
  have main : ∀ (k : TransferKind) (y : Transport), s.Transfers t x k → y.EndsFrom (s.tr t) →
      (s.freePort x ws.length).timedOut t x ws.length ws = ((s.freePort x ws.length).setTr t y).endWith t .busError →
      ∃ s', exec (.busTimeout ws.length ws) s = .next s' ∧ s.OnlyAtEach s' t ∧ s'.store = s.store ∧
        s'.exchange = s.exchange ∧ s'.arb.current = none ∧ s'.hostMemory = s.hostMemory ∧
        s.Terminates s' t .busError 0 0 y.port.indicators := by
    intro k y hk hy hf
    obtain ⟨s', hexec, honly, hstore, hexch, hcur, hmem, -, hterm⟩ :=
      execBusTimeout_ended hk hwords hlen hy (by simp) rfl hf
    exact ⟨s', hexec, honly, hstore, hexch, hcur, hmem, hterm⟩
  rcases hkind with hk | hk | hk
  · have hfetch : x.kind = .fetch := hk.2.2.2.1
    simp only [hfetch, if_true]
    refine main _ { s.tr t with port := { (s.tr t).port with indicators := 0 } } hk ⟨hw.reporting, (hk.settled t).congr, rfl⟩ ?_
    simp [State.timedOut, hfetch]
  · have hprofile : x.kind = .profile := hk.2.2.2.1
    simp only [hprofile, reduceCtorEq, if_false]
    refine main _ (s.tr t) hk (.self hk hw) ?_
    simp [State.timedOut, hprofile]
  · have hdetector : x.kind = .detector := hk.2.2.2.1
    simp only [hdetector, reduceCtorEq, if_false]
    refine main _ (s.tr t) hk (.self hk hw) ?_
    simp [State.timedOut, hdetector]

/-- Settles O42. -/
theorem detectorApplied : Obligations.DetectorApplied := by
  intro s t x ws hreads hlen hw
  have hset := hreads.1.settled t
  refine ⟨fun hr => ?_, fun hr => ?_⟩
  · obtain ⟨s', hexec, honly, hstore, hexch, hcur, hmem, htr, hterm⟩ :=
      endRead_ended (f := fun t s => s.detectorRead t ws) hreads
        (y := { s.tr t with chan := (s.tr t).chan.accept (settingsOfWords ws) })
        (r := { condition := .normal, count := 0, value := 0, markBlock := none })
        (by simp [State.detectorRead, hr, State.endWith]) ⟨hw.reporting, hset.congr, rfl⟩
    exact ⟨s', hexec, honly, hexch, hcur, hstore, hmem, htr, hterm⟩
  · obtain ⟨s', hexec, honly, hstore, hexch, hcur, hmem, htr, hterm⟩ :=
      endRead_ended (f := fun t s => s.detectorRead t ws) hreads (y := s.tr t)
        (r := { condition := .parameter, count := 0, value := 0, markBlock := none })
        (by simp [State.detectorRead, hr, State.endWith]) (.self hreads.1 hw)
    exact ⟨s', hexec, honly, hexch, hcur, hstore, hmem, htr, hterm⟩

/-- A profile record read: the profile formed is accepted, and PARAMETER ADJUSTED joins when it was changed to fit
(R56, R57, R153). -/
theorem State.profileRead_eq {z : State} {t : Tr} {ws : List Word} (hw : (z.tr t).Working) :
    z.profileRead t ws =
      (z.setTr t { z.tr t with
        drive := (z.tr t).drive.acceptProfile (profileAdjust (profileFormed ws (z.tr t).drive.replaced)),
        port := { (z.tr t).port with
          indicators :=
            if profileAdjust (profileFormed ws (z.tr t).drive.replaced) = profileFormed ws (z.tr t).drive.replaced
            then (z.tr t).port.indicators else (z.tr t).port.indicators ||| 16#16 } }).endWith t .normal := by
  simp only [State.profileRead, State.raiseIndIf_eq, State.modDrive_setTr, State.modPort_setTr, State.tr_setTr_same,
    State.setTr_setTr, Port.raisedIf]
  by_cases hp : profileAdjust (profileFormed ws (z.tr t).drive.replaced) = profileFormed ws (z.tr t).drive.replaced
  · simp [hp]
  · simp [hp, Port.raiseInd, indicatorBit, eq_true hw.1]

/-- Settles O41. -/
theorem profileApplied : Obligations.ProfileApplied := by
  intro s t x ws hreads hlen hw
  have hset := hreads.1.settled t
  have hread := State.profileRead_eq (z := s.freePort x x.length) (t := t) (ws := ws) (by simpa using hw)
  simp only [State.freePort_tr] at hread
  refine ⟨fun hstand => ?_, fun hstand => ?_⟩
  · have haccept : ∀ p, (s.tr t).drive.acceptProfile p = { (s.tr t).drive with
        active := p, staged := none,
        windSpeed := if (s.tr t).drive.mode = .unthread ∧ (s.tr t).drive.windStopping = false then p.vRw / 4
          else (s.tr t).drive.windSpeed,
        windRem := if (s.tr t).drive.mode = .unthread ∧ (s.tr t).drive.windStopping = false then 0
          else (s.tr t).drive.windRem } := fun p => by
      simp [Drive.acceptProfile, hstand, Drive.activate, creepSpeed]
    rw [haccept] at hread
    obtain ⟨s', hexec, honly, hstore, hexch, hcur, hmem, htr, hterm⟩ :=
      endRead_ended (f := fun t s => s.profileRead t ws) hreads hread ⟨hw.reporting, hset, rfl⟩
    exact ⟨s', hexec, honly, hexch, hcur, hstore, hmem, htr, hterm⟩
  · have haccept : ∀ p, (s.tr t).drive.acceptProfile p = { (s.tr t).drive with staged := some p } := fun p => by
      simp [Drive.acceptProfile, hstand]
    rw [haccept] at hread
    obtain ⟨s', hexec, honly, hstore, hexch, hcur, hmem, htr, hterm⟩ :=
      endRead_ended (f := fun t s => s.profileRead t ws) hreads hread ⟨hw.reporting, hset, rfl⟩
    exact ⟨s', hexec, honly, hexch, hcur, hstore, hmem, htr, hterm⟩

/-! ### The fetched order validated (R18, R139) -/

section
variable {s : State} {t : Tr} {c : OrderCopy} {code : Nat}

/-- The data address is odd by its lowest bit. -/
theorem OrderCopy.odd_iff (c : OrderCopy) : c.w5.getLsbD 0 = true ↔ c.address % 2 = 1 := by
  have h : c.address % 2 = c.w5.toNat % 2 := by unfold OrderCopy.address; omega
  rw [h, BitVec.getLsbD, Nat.testBit_zero, decide_eq_true_eq]

/-- An order of the 22, with no odd data address: the test of R18 decides (R139). -/
theorem State.validate_eq (h1 : 1 ≤ c.code) (h22 : c.code ≤ 22) (ha : c.usesAddress = false ∨ c.address % 2 = 0) :
    s.validate t c = s.admission t c.code := by
  have h0 : c.code ≠ 0 := by omega
  have hodd : (c.usesAddress && c.w5.getLsbD 0) = false := by
    rcases ha with ha | ha
    · simp [ha]
    · have : ¬ c.w5.getLsbD 0 = true := by rw [OrderCopy.odd_iff]; omega
      rw [eq_false_of_ne_true this, Bool.and_false]
  have hcode : (decide (c.code < 1) || decide (22 < c.code)) = false := by simp; omega
  simp only [State.validate, hcode, hodd, Bool.false_eq_true, if_false]

/-- LOAD, the tape motion orders and CLEAR FAULT, by their codes (R18). -/
theorem motionGroup_iff : motionGroup code = true ↔ code = 1 ∨ code = 2 ∨ code = 3 ∨ code = 6 ∨ code = 7 ∨ code = 8 ∨
    code = 9 ∨ code = 10 ∨ code = 11 ∨ code = 16 ∨ code = 17 ∨ code = 18 := by
  simp only [motionGroup, motionCode, Bool.or_eq_true, Bool.and_eq_true, decide_eq_true_eq]
  omega

theorem mapChangingCode_iff : mapChangingCode code = true ↔ code = 12 ∨ code = 13 ∨ code = 14 ∨ code = 20 := by
  simp [mapChangingCode, or_assoc]

/-- The orders that no test of R18 refuses, from 1 to 22. -/
theorem admission_free (hm : motionGroup code = false) (hc : mapChangingCode code = false) : s.admission t code = none := by
  simp [State.admission, hm, hc]

theorem admission_offline (ho : (s.tr t).ctl.online = false) (hg : motionGroup code = true ∨ mapChangingCode code = true) :
    s.admission t code = some .notReady := by
  simp [State.admission, ho, hg]

theorem admission_mapChanging (ho : (s.tr t).ctl.online = true) (hm : motionGroup code = false) :
    s.admission t code = none := by
  simp [State.admission, ho, hm]

theorem admission_warned (ho : (s.tr t).ctl.online = true) (hm : motionGroup code = true)
    (hw : s.power.pwarn.level = true ∨ s.power.released.get t = false) : s.admission t code = some .powerStop := by
  simp [State.admission, ho, hm, State.pwarnFor, hw]

theorem admission_motion (ho : (s.tr t).ctl.online = true) (hm : motionGroup code = true)
    (hw : s.power.pwarn.level = false) (hr : s.power.released.get t = true) :
    s.admission t code = admitByState (s.tr t) code := by
  simp [State.admission, ho, hm, State.pwarnFor, hw, hr]

theorem admitByState_load {x : Transport} (hs : x.ctl.stopUnderWay = false) : admitByState x 1 =
    match x.ctl.state with
    | .unloaded => if x.sense.tapePresent.level then none else some .notReady
    | .ready => none
    | .powerHeld => some .powerStop
    | _ => some .notReady := by
  simp [admitByState, hs] <;> rfl

theorem admitByState_clearFault {x : Transport} (hs : x.ctl.stopUnderWay = false) : admitByState x 3 =
    match x.ctl.state with
    | .threading | .seekingLoadPoint | .unloading => some .notReady
    | .powerHeld => some .powerStop
    | _ => none := by
  simp [admitByState, hs] <;> rfl

theorem admitByState_motion {x : Transport} (hs : x.ctl.stopUnderWay = false) (h1 : code ≠ 1) (h3 : code ≠ 3) :
    admitByState x code =
      match x.ctl.state with
      | .ready | .inMotion => none
      | .powerHeld => some .powerStop
      | _ => some .notReady := by
  simp [admitByState, hs, h1, h3] <;> rfl

end

section
variable {s : State} {t : Tr} {x : BusTransfer} {ws : List Word} {c : OrderCopy} {e : Condition}

/-- The copy that the fetched words make is not looked at by the tests of R18. -/
theorem State.validate_fetched (s : State) (x : BusTransfer) (n : Nat) (t : Tr) (p : Port) (c : OrderCopy) :
    ((s.freePort x n).setTr t { s.tr t with port := p }).validate t c = s.validate t c := by
  simp [State.validate, State.admission, State.pwarnFor, admitByState]

/-- An order block read whose order is not refused. -/
theorem orderFetched_dispatched (h : s.Reads t x .fetch ws) (hv : s.validate t (copyOfWords ws) = none) :
    ∃ s', exec (.orderFetchComplete ws) s = .next s' ∧
        s.OnlyAtEach s' t ∧
        s'.store = s.store ∧
        s'.exchange = s.exchange ∧
        s'.hostMemory = s.hostMemory ∧
        s'.arb = { s.arb with current := none } ∧
        s'.tr t = Transport.refresh { s.tr t with
          port := { (s.tr t).port with copy := some (copyOfWords ws), stage := .dispatched } } := by
  obtain ⟨hk, hwords, -⟩ := id h
  have hf : (s.freePort x x.length).fetched t ws = (s.freePort x x.length).setTr t { s.tr t with
      port := { (s.tr t).port with copy := some (copyOfWords ws), stage := .dispatched } } := by
    simp [State.fetched, State.validate_fetched, hv]
  obtain ⟨hexec, honly⟩ := endRead_transfer (f := fun t s => s.fetched t ws) h hf (by simp) (by simp)
    (by simpa using (hk.settled t).congr)
  exact ⟨_, hexec, honly, by simp, by simp, by simp [hwords, memWriteWords_nil], by simp, by simp⟩

/-- An order block read whose order is refused. -/
theorem orderFetched_refused (h : s.Reads t x .fetch ws)
    (hy : Transport.EndsFrom { s.tr t with port := { (s.tr t).port with copy := some (copyOfWords ws) } } (s.tr t))
    (hv : s.validate t (copyOfWords ws) = some e) :
    ∃ s', exec (.orderFetchComplete ws) s = .next s' ∧
        s.OnlyAtEach s' t ∧
        s'.store = s.store ∧
        s'.exchange = s.exchange ∧
        s'.arb.current = none ∧
        s'.hostMemory = s.hostMemory ∧
        s.Terminates s' t e 0 0 (s.tr t).port.indicators := by
  obtain ⟨s', hexec, honly, hstore, hexch, hcur, hmem, -, hterm⟩ :=
    endRead_ended (f := fun t s => s.fetched t ws) (r := { condition := e, count := 0, value := 0, markBlock := none }) h
      (by simp [State.fetched, State.validate_fetched, hv, State.endWith]) hy
  exact ⟨s', hexec, honly, hstore, hexch, hcur, hmem, hterm⟩

end

/-- Settles O32: each clause is one outcome of the validation of the copy. -/
theorem orderFetched : Obligations.OrderFetched := by
  intro s t x ws hreads hlen
  have hset := hreads.1.settled t
  have hends : (s.tr t).Reporting →
      Transport.EndsFrom { s.tr t with port := { (s.tr t).port with copy := some (copyOfWords ws) } } (s.tr t) :=
    fun hw => ⟨hw, hset.congr, rfl⟩
  generalize hcopy : copyOfWords ws = c at hends ⊢
  refine ⟨fun hw h1 h22 ha hadm => ?_, fun hw ha hcode => ?_, fun hw ha hon hpw hrel hcode => ?_, fun hw hcode => ?_,
    fun hw h1 h22 hu hodd => ?_, fun hw h1 h22 ha hoff hcode => ?_, fun hw ha hon hpw hcode => ?_,
    fun hw ha hon hpw hrel hcode => ?_, fun hptr hheld hstop hpend hsuw ha hon hpw hrel hcode => ?_⟩ <;> subst hcopy
  · exact orderFetched_dispatched hreads ((State.validate_eq h1 h22 ha).trans hadm)
  · refine orderFetched_dispatched hreads ((State.validate_eq (by omega) (by omega) ha).trans (admission_free ?_ ?_))
    · rw [← Bool.not_eq_true, motionGroup_iff]; omega
    · rw [← Bool.not_eq_true, mapChangingCode_iff]; omega
  · have hrange : 1 ≤ (copyOfWords ws).code ∧ (copyOfWords ws).code ≤ 22 := by omega
    refine orderFetched_dispatched hreads ((State.validate_eq hrange.1 hrange.2 ha).trans ?_)
    rcases hcode with ⟨h1, hst⟩ | ⟨h3, hst⟩ | ⟨hm, hst⟩ | hmap
    · rw [h1, admission_motion hon rfl hpw hrel, admitByState_load hw.2.2.2.2]
      rcases hst with hst | ⟨hst, htape⟩ <;> simp [*]
    · rw [h3, admission_motion hon rfl hpw hrel, admitByState_clearFault hw.2.2.2.2]
      split <;> simp_all
    · rw [admission_motion hon (motionGroup_iff.2 (by omega)) hpw hrel,
        admitByState_motion hw.2.2.2.2 (by omega) (by omega)]
      rcases hst with hst | hst <;> simp [hst]
    · refine admission_mapChanging hon ?_
      rw [← Bool.not_eq_true, motionGroup_iff]
      omega
  · refine orderFetched_refused hreads (hends hw.reporting) ?_
    have hbad : (copyOfWords ws).code < 1 ∨ 22 < (copyOfWords ws).code := by omega
    simp only [State.validate, Bool.or_eq_true, decide_eq_true_eq, hbad, if_true]
  · refine orderFetched_refused hreads (hends hw.reporting) ?_
    have hbad : (decide ((copyOfWords ws).code < 1) || decide (22 < (copyOfWords ws).code)) = false := by simp; omega
    simp only [State.validate, hbad, hu, (OrderCopy.odd_iff _).2 hodd]
    rfl
  · refine orderFetched_refused hreads (hends hw.reporting) ((State.validate_eq h1 h22 ha).trans (admission_offline hoff ?_))
    rw [motionGroup_iff, mapChangingCode_iff]; omega
  · exact orderFetched_refused hreads (hends hw.reporting) ((State.validate_eq (by omega) (by omega) ha).trans
      (admission_warned hon (motionGroup_iff.2 (by omega)) hpw))
  · have hrange : 1 ≤ (copyOfWords ws).code ∧ (copyOfWords ws).code ≤ 22 := by omega
    refine orderFetched_refused hreads (hends hw.reporting) ((State.validate_eq hrange.1 hrange.2 ha).trans ?_)
    rcases hcode with ⟨h1, hready, hheld, htape⟩ | ⟨h3, hst⟩ | ⟨hm, hready, hmoving, hheld⟩
    · rw [h1, admission_motion hon rfl hpw hrel, admitByState_load hw.2.2.2.2]
      split <;> simp_all
    · rw [h3, admission_motion hon rfl hpw hrel, admitByState_clearFault hw.2.2.2.2]
      rcases hst with hst | hst | hst <;> simp [hst]
    · rw [admission_motion hon (motionGroup_iff.2 (by omega)) hpw hrel,
        admitByState_motion hw.2.2.2.2 (by omega) (by omega)]
      split <;> simp_all
  · refine orderFetched_refused hreads (hends ⟨hptr, hheld, hstop, hpend⟩)
      ((State.validate_eq (by omega) (by omega) ha).trans ?_)
    rw [admission_motion hon (motionGroup_iff.2 (by omega)) hpw hrel]
    simp [admitByState, hsuw]

end Sys2Proof.Machine
end

section
/-! PROOF. The words of the sense record and the requests of its order (8.8). -/
namespace Sys2Proof.Machine

/-! ### Fields of a word -/

section
variable {v w : Word} {k a m n : Nat}

/-- A field joined above those that a word holds. -/
theorem toNat_or_field (hw : w.toNat = m) (hv : v.toNat = 2 ^ k * a) (hm : m < 2 ^ k) :
    (w ||| v).toNat = m + 2 ^ k * a := by
  rw [BitVec.toNat_or, hv, hw, Nat.or_comm, ← Nat.two_pow_add_eq_or_of_lt hm, Nat.add_comm]

theorem bitIf_toNat (c : Bool) {i : Nat} (h : i < 16) : (bitIf c i).toNat = 2 ^ i * c.toNat := by
  cases c
  · simp [bitIf]
  · have : 2 ^ i < 2 ^ 16 := Nat.pow_lt_pow_right (by decide) h
    simpa [bitIf] using this

theorem ofNat_toNat (h : n < 65536) : (BitVec.ofNat 16 n).toNat = n := by
  simp only [BitVec.toNat_ofNat]
  omega

theorem getLsbD_iff (w : Word) (i : Nat) : w.getLsbD i = decide (w.toNat / 2 ^ i % 2 = 1) := by
  rw [BitVec.getLsbD, Nat.testBit_eq_decide_div_mod_eq]

theorem Bool.decide_toNat (c : Bool) : decide (c.toNat = 1) = c := by cases c <;> rfl

theorem stateCode_lt (x : TState) : stateCode x < 16 := by cases x <;> decide
theorem faultCode_lt (x : FaultKind) : faultCode x < 8 := by cases x <;> decide
theorem anchorCode_lt (x : Anchor) : anchorCode x < 4 := by cases x <;> decide
theorem reelStateCode_lt (x : ReelState) : reelStateCode x < 4 := by cases x <;> decide

theorem highWord_append_lowWord (v : BitVec 32) : highWord v ++ lowWord v = v := by
  apply BitVec.eq_of_toNat_eq
  simp only [highWord, lowWord, BitVec.toNat_append, BitVec.extractLsb'_toNat, Nat.shiftRight_eq_div_pow]
  rw [← Nat.shiftLeft_add_eq_or_of_lt (by omega), Nat.shiftLeft_eq]
  omega

theorem highWord_unsignedLong (n : Nat) : (highWord (unsignedLong n)).toNat = n / 65536 % 65536 := by
  simp only [highWord, unsignedLong, BitVec.extractLsb'_toNat, BitVec.toNat_ofNat, Nat.shiftRight_eq_div_pow]
  omega

theorem lowWord_unsignedLong (n : Nat) : lowWord (unsignedLong n) = BitVec.ofNat 16 n := by
  apply BitVec.eq_of_toNat_eq
  simp only [lowWord, unsignedLong, BitVec.extractLsb'_toNat, BitVec.toNat_ofNat, Nat.shiftRight_eq_div_pow]
  omega

theorem wordOf_toNat (hi lo : Byte) : (wordOf hi lo).toNat = hi.toNat * 256 + lo.toNat := by
  rw [wordOf, BitVec.toNat_append, ← Nat.shiftLeft_add_eq_or_of_lt lo.isLt, Nat.shiftLeft_eq]

theorem lowByte_toNat (w : Word) : (lowByte w).toNat = w.toNat % 256 := by
  simp [lowByte, BitVec.extractLsb'_toNat]

theorem tagWords_append (tag : Tag) :
    (tagWords tag).getD 0 0 ++ (tagWords tag).getD 1 0 ++ (tagWords tag).getD 2 0 = tag := by
  apply BitVec.eq_of_toNat_eq
  have h := tag.isLt
  simp only [tagWords, List.getD_cons_zero, List.getD_cons_succ, BitVec.toNat_append, BitVec.extractLsb'_toNat, Nat.shiftRight_eq_div_pow]
  rw [← Nat.shiftLeft_add_eq_or_of_lt (by omega), ← Nat.shiftLeft_add_eq_or_of_lt (by omega), Nat.shiftLeft_eq, Nat.shiftLeft_eq]
  omega

end

/-! ### The sense record -/

/-- Word 0 of the sense record as the sum of its fields. -/
theorem senseRecord_word0 (x : Transport) (r : ReelRecord) (n : Nat) : ((senseRecord x r n).getD 0 0).toNat =
    stateCode x.ctl.state + 16 * faultCode x.ctl.fault + 128 * x.ctl.online.toNat + 256 * anchorCode x.reck.anchor +
      1024 * x.reck.nextKnown.toNat + 2048 * r.eod.isSome.toNat + 4096 * reelStateCode r.state +
      16384 * r.tag.isSome.toNat := by
  have h1 := stateCode_lt x.ctl.state
  have h2 := faultCode_lt x.ctl.fault
  have h3 := x.ctl.online.toNat_le
  have h4 := anchorCode_lt x.reck.anchor
  have h5 := x.reck.nextKnown.toNat_le
  have h6 := r.eod.isSome.toNat_le
  have h7 := reelStateCode_lt r.state
  have h8 := r.tag.isSome.toNat_le
  have f2 : (BitVec.ofNat 16 (faultCode x.ctl.fault * 16)).toNat = 2 ^ 4 * faultCode x.ctl.fault := by
    rw [ofNat_toNat (by omega)]; omega
  have f4 : (BitVec.ofNat 16 (anchorCode x.reck.anchor * 256)).toNat = 2 ^ 8 * anchorCode x.reck.anchor := by
    rw [ofNat_toNat (by omega)]; omega
  have f7 : (BitVec.ofNat 16 (reelStateCode r.state * 4096)).toNat = 2 ^ 12 * reelStateCode r.state := by
    rw [ofNat_toNat (by omega)]; omega
  have e1 := ofNat_toNat (n := stateCode x.ctl.state) (by omega)
  have e2 := toNat_or_field e1 f2 (by omega)
  have e3 := toNat_or_field e2 (bitIf_toNat x.ctl.online (i := 7) (by decide)) (by omega)
  have e4 := toNat_or_field e3 f4 (by omega)
  have e5 := toNat_or_field e4 (bitIf_toNat x.reck.nextKnown (i := 10) (by decide)) (by omega)
  have e6 := toNat_or_field e5 (bitIf_toNat r.eod.isSome (i := 11) (by decide)) (by omega)
  have e7 := toNat_or_field e6 f7 (by omega)
  exact toNat_or_field e7 (bitIf_toNat r.tag.isSome (i := 14) (by decide)) (by omega)

/-- Word 1 of the sense record as the sum of its fields. -/
theorem senseRecord_word1 (x : Transport) (r : ReelRecord) (n : Nat) : ((senseRecord x r n).getD 1 0).toNat =
    x.port.attention.toNat + 256 * (x.reck.supplyPitch / 65536 % 8) + 4096 * (x.reck.takeupPitch / 65536 % 8) := by
  have h1 := x.port.attention.isLt
  have hp : ∀ p, (highWord (unsignedLong p)).toNat % 8 = p / 65536 % 8 := fun p => by rw [highWord_unsignedLong]; omega
  have f2 : (BitVec.ofNat 16 ((highWord (unsignedLong x.reck.supplyPitch)).toNat % 8 * 256)).toNat =
      2 ^ 8 * (x.reck.supplyPitch / 65536 % 8) := by
    rw [hp, ofNat_toNat (by omega)]; omega
  have f3 : (BitVec.ofNat 16 ((highWord (unsignedLong x.reck.takeupPitch)).toNat % 8 * 4096)).toNat =
      2 ^ 12 * (x.reck.takeupPitch / 65536 % 8) := by
    rw [hp, ofNat_toNat (by omega)]; omega
  have e1 : (x.port.attention.setWidth 16).toNat = x.port.attention.toNat := by simp; omega
  have e2 := toNat_or_field e1 f2 (by omega)
  exact toNat_or_field e2 f3 (by omega)

/-- The conditions of the attention set as bits (8.8). -/
theorem attention_bits (a : BitVec 5) :
    a.getLsbD 4 = (a &&& attentionBit .ready != 0) ∧ a.getLsbD 3 = (a &&& attentionBit .notReady != 0) ∧
      a.getLsbD 2 = (a &&& attentionBit .fault != 0) ∧ a.getLsbD 1 = (a &&& attentionBit .power != 0) ∧
      a.getLsbD 0 = (a &&& attentionBit .protocol != 0) := by
  revert a
  decide

/-- Settles O40: words 0 and 1 by their sums, the others word by word. -/
theorem senseRecordWords : Obligations.SenseRecordWords := by
  intro x r n
  have h1 := stateCode_lt x.ctl.state
  have h2 := faultCode_lt x.ctl.fault
  have h3 := x.ctl.online.toNat_le
  have h4 := anchorCode_lt x.reck.anchor
  have h5 := x.reck.nextKnown.toNat_le
  have h6 := r.eod.isSome.toNat_le
  have h7 := reelStateCode_lt r.state
  have h8 := r.tag.isSome.toNat_le
  have h9 := x.port.attention.isLt
  have hw0 := senseRecord_word0 x r n
  have hw1 := senseRecord_word1 x r n
  have hbit : ∀ i, i < 5 → ((senseRecord x r n).getD 1 0).getLsbD i = x.port.attention.getLsbD i := fun i hi => by
    have : ((senseRecord x r n).getD 1 0).toNat / 2 ^ i % 2 = x.port.attention.toNat / 2 ^ i % 2 := by
      rw [hw1]
      interval_cases i <;> omega
    rw [getLsbD_iff, this, BitVec.getLsbD, Nat.testBit_eq_decide_div_mod_eq]
  have hflag : ∀ (b : Bool) i, ((senseRecord x r n).getD 0 0).toNat / 2 ^ i % 2 = b.toNat →
      ((senseRecord x r n).getD 0 0).getLsbD i = b := fun b i h => by
    rw [getLsbD_iff, h, Bool.decide_toNat]
  obtain ⟨b4, b3, b2, b1, b0⟩ := attention_bits x.port.attention
  refine ⟨by simp [senseRecord, tagWords], by omega, by omega, hflag _ 7 (by omega), by omega, hflag _ 10 (by omega), hflag _ 11 (by omega), by omega,
    hflag _ 14 (by omega), hflag false 15 (by rw [Bool.toNat_false]; omega), (hbit 4 (by decide)).trans b4, (hbit 3 (by decide)).trans b3, (hbit 2 (by decide)).trans b2, (hbit 1 (by decide)).trans b1, (hbit 0 (by decide)).trans b0, by omega, by omega,
    ⟨by omega, by omega, by omega⟩, rfl, highWord_append_lowWord _, ?_, lowWord_unsignedLong _, ?_, lowWord_unsignedLong _, rfl, tagWords_append _, rfl, rfl,
    lowWord_unsignedLong _, lowWord_unsignedLong _⟩
  · have hlow := (lowByte (highWord (unsignedLong (r.eod.getD 0)))).isLt
    change (wordOf _ _).toNat / 256 = (x.reck.reportedNext / 65536) % 256
    rw [wordOf_toNat, lowByte_toNat, highWord_unsignedLong]
    omega
  · change (wordOf _ _).toNat % 256 = _
    rw [wordOf_toNat, lowByte_toNat (highWord (unsignedLong (r.eod.getD 0))), highWord_unsignedLong]
    omega

/-! ### The requests of SET PROFILE, SET DETECTOR and SENSE (R56, R89, R147) -/

section
variable {s : State} {t : Tr} {code : Nat} {c : OrderCopy} {f : State → OrderCopy → State} {y : State}

/-- An order that awaits its owner, with the state that its owner makes of it. -/
theorem exec_takes {i : Instr} (hi : exec i s = runTr t s fun s => s.takeOrder t code f) (ha : s.Awaits t code c)
    (hf : f (s.withTaken t) c = y) (hy : (y.tr t).Settled) : exec i s = .next ((y.refresh t).finish) :=
  exec_next (f := fun s => s.takeOrder t code f) hi ha.1.1 ((State.takeOrder_awaits ha).trans hf) hy

theorem State.withTaken_eq (s : State) (t : Tr) : s.withTaken t = s.setTr t (s.tr t).withTaken := rfl

/-- An owner whose whole answer to its order is a control request. -/
theorem exec_requests {i : Instr} {y : Transport} {b : BusTransfer} (hi : exec i s = runTr t s fun s => s.takeOrder t code f)
    (ha : s.Awaits t code c) (hf : f (s.withTaken t) c = (s.setTr t y).requestControl t b) (hy : y.Settled) :
    ∃ s', exec i s = .next s' ∧ s.OnlyAt s' t ∧ s'.store = s.store ∧ s'.exchange = s.exchange ∧ s.OnlyControl s' t ∧
      s'.tr t = y.refresh ∧ s'.arb.control.get t = some b := by
  refine ⟨_, exec_takes hi ha hf (by simpa using hy), State.onlyAt_finish (by simp) rfl, by simp, by simp, ?_, by simp, by simp⟩
  simp [State.OnlyControl]

end

/-- Settles O39. -/
theorem recordsRequested : Obligations.RecordsRequested := by
  intro s t c hset
  have hs := State.settled_iff.mp hset
  refine ⟨fun ha => ?_, fun ha => ?_, fun ha => ?_⟩
  · exact exec_requests (f := fun s c => s.readRecord t .profile c 14) rfl ha rfl hs
  · exact exec_requests (f := fun s c => s.readRecord t .detector c 4) rfl ha rfl hs
  · refine exec_requests (f := fun s c => s.takeSense t c) rfl ha ?_ hs
    simp [State.takeSense, State.withTaken_eq, Transport.withTaken, burst, State.reel_setTr]

end Sys2Proof.Machine
end

section
/-! PROOF. Emergency stops, failing loads and the unthreading wind (chapter 2). -/
namespace Sys2Proof.Machine

/-! ### Fields of the Drive Unit that the outputs leave -/

section
variable (x : Transport)

@[simp] theorem Transport.refresh_drive_phase : x.refresh.drive.phase = x.drive.phase := by
  obtain ⟨_, _, _, _, _, _, _, h⟩ := x.refresh_drive; rw [h]
@[simp] theorem Transport.refresh_drive_command : x.refresh.drive.command = x.drive.command := by
  obtain ⟨_, _, _, _, _, _, _, h⟩ := x.refresh_drive; rw [h]
@[simp] theorem Transport.refresh_drive_engaged : x.refresh.drive.engaged = x.drive.engaged := by
  obtain ⟨_, _, _, _, _, _, _, h⟩ := x.refresh_drive; rw [h]
@[simp] theorem Transport.refresh_drive_mode : x.refresh.drive.mode = x.drive.mode := by
  obtain ⟨_, _, _, _, _, _, _, h⟩ := x.refresh_drive; rw [h]
@[simp] theorem Transport.refresh_drive_stopTarget : x.refresh.drive.stopTarget = x.drive.stopTarget := by
  obtain ⟨_, _, _, _, _, _, _, h⟩ := x.refresh_drive; rw [h]
@[simp] theorem Transport.refresh_drive_holdOver : x.refresh.drive.holdOver = x.drive.holdOver := by
  obtain ⟨_, _, _, _, _, _, _, h⟩ := x.refresh_drive; rw [h]
@[simp] theorem Transport.refresh_drive_pending : x.refresh.drive.pending = x.drive.pending := by
  obtain ⟨_, _, _, _, _, _, _, h⟩ := x.refresh_drive; rw [h]
@[simp] theorem Transport.refresh_drive_shuttlePhase : x.refresh.drive.shuttlePhase = x.drive.shuttlePhase := by
  obtain ⟨_, _, _, _, _, _, _, h⟩ := x.refresh_drive; rw [h]
@[simp] theorem Transport.refresh_drive_shuttleTarget : x.refresh.drive.shuttleTarget = x.drive.shuttleTarget := by
  obtain ⟨_, _, _, _, _, _, _, h⟩ := x.refresh_drive; rw [h]
@[simp] theorem Transport.refresh_drive_stopKind : x.refresh.drive.stopKind = x.drive.stopKind := by
  obtain ⟨_, _, _, _, _, _, _, h⟩ := x.refresh_drive; rw [h]
@[simp] theorem Transport.refresh_drive_supplyReleased : x.refresh.drive.supplyReleased = x.drive.supplyReleased := by
  obtain ⟨_, _, _, _, _, _, _, h⟩ := x.refresh_drive; rw [h]
@[simp] theorem Transport.refresh_drive_takeupReleased : x.refresh.drive.takeupReleased = x.drive.takeupReleased := by
  obtain ⟨_, _, _, _, _, _, _, h⟩ := x.refresh_drive; rw [h]
@[simp] theorem Transport.refresh_drive_active : x.refresh.drive.active = x.drive.active := by
  obtain ⟨_, _, _, _, _, _, _, h⟩ := x.refresh_drive; rw [h]
@[simp] theorem Transport.refresh_drive_staged : x.refresh.drive.staged = x.drive.staged := by
  obtain ⟨_, _, _, _, _, _, _, h⟩ := x.refresh_drive; rw [h]

end

/-! ### Emergency stops (R30, R35, R53, R143) -/

section
variable {s : State} {t : Tr} {x y : Transport} {k : FaultKind}

/-- The Order Port told of an emergency stop, and FAULT raised when no order is in flight (R35, R143). -/
theorem State.raiseFault_stopBegins (s : State) (t : Tr) :
    (s.raiseCause t .fault).modPort t Port.stopBegins = s.setTr t { s.tr t with port := (s.tr t).port.stopTold } := by
  unfold State.raiseCause
  cases hp : (s.tr t).port.pointer <;>
    simp [hp, Port.inFlight, State.raiseAtt, Port.raiseAtt, attentionBit, Port.stopBegins, Port.stopTold]

/-- An emergency stop of the kind `k` has begun on the capstan of a transport whose record was `x` (R30, R53). -/
structure Transport.Stopped (x y : Transport) (k : FaultKind) : Prop where
  fault : y.ctl.fault = k
  underWay : y.ctl.stopUnderWay = true
  permission : y.ctl.permission = .none
  operation : y.ctl.operation = .none
  state : y.ctl.state = x.ctl.state
  kind : y.drive.stopKind = .emergency
  phase : y.drive.phase = .decel
  noShuttle : y.drive.shuttlePhase = .none
  pending : y.drive.pending = none
  port : y.port = x.port.stopTold

theorem Transport.Stopped.settled (h : x.Stopped y k) : y.Settled :=
  .of_moving (Drive.atRest_of_phase (by simp [h.phase]))

/-- The record of a running transport at the beginning of an emergency stop. -/
def Transport.emergencyStop (x : Transport) (k : FaultKind) : Transport :=
  { x with
    ctl := { x.ctl with
      fault := k, stopUnderWay := true, permission := .none, operation := .none, unloadEnding := false,
      stopByClear := false, pathIntact := k = .stall && x.sense.pathGood && x.sense.tapePresent.level },
    xfer := x.xfer.stopBegins, drive := x.drive.beginStop .emergency, port := x.port.stopTold }

theorem State.emergency_eq (h : (s.tr t).ctl.faultable = true) :
    s.emergency t k = s.setTr t ((s.tr t).emergencyStop k) := by
  simp only [State.emergency, h, if_true, State.raiseFault_stopBegins, State.modTr_setTr, State.tr_setTr_same,
    State.setTr_setTr, Transport.emergencyStop]

/-- A stop of the capstan in ACCEL or RUN (R52 to R54; log 69). -/
theorem Drive.beginStop_driving {d : Drive} {j : StopKind} (hk : d.stopKind = .none) (hp : d.phase = .accel ∨ d.phase = .run)
    (hs : d.shuttlePhase = .none) (hm : d.mode ≠ .unthread) : d.beginStop j = { d with
      stopKind := j, phase := .decel, pending := none, holdOver := none, stopTarget := none, shuttleTarget := none } := by
  rcases hp with hp | hp <;> simp [Drive.beginStop, Drive.bringToRest, Drive.decel, Drive.brake, hk, hp, hs, hm]

theorem Transport.Running.stopped (h : x.Running) : x.Stopped (x.emergencyStop k) k := by
  obtain ⟨-, -, hphase, hshuttle, hmode, hkind, -⟩ := h
  have hd := Drive.beginStop_driving (j := .emergency) hkind (.inr hphase) hshuttle (by simp [hmode])
  constructor <;> simp [Transport.emergencyStop, hd, hshuttle]

/-! What an event goes on to do leaves the stop under way. -/

theorem Transport.Stopped.congr {z : Transport} (h : x.Stopped y k) (hf : z.ctl.fault = y.ctl.fault)
    (hu : z.ctl.stopUnderWay = y.ctl.stopUnderWay) (hp : z.ctl.permission = y.ctl.permission)
    (ho : z.ctl.operation = y.ctl.operation) (hs : z.ctl.state = y.ctl.state) (hk : z.drive.stopKind = y.drive.stopKind)
    (hph : z.drive.phase = y.drive.phase) (hsh : z.drive.shuttlePhase = y.drive.shuttlePhase)
    (hpe : z.drive.pending = y.drive.pending) (hpo : z.port = y.port) : x.Stopped z k :=
  ⟨hf ▸ h.fault, hu ▸ h.underWay, hp ▸ h.permission, ho ▸ h.operation, hs ▸ h.state, hk ▸ h.kind, hph ▸ h.phase,
    hsh ▸ h.noShuttle, hpe ▸ h.pending, hpo ▸ h.port⟩

/-- A state that differs in the record of one transport, on which an emergency stop has begun. -/
def State.StoppedAt (s s' : State) (t : Tr) (k : FaultKind) : Prop :=
  s' = s.setTr t (s'.tr t) ∧ (s.tr t).Stopped (s'.tr t) k

variable {s' : State}

theorem State.StoppedAt.modTr {g : Transport → Transport} (h : s.StoppedAt s' t k)
    (hg : ∀ y, (s.tr t).Stopped y k → (s.tr t).Stopped (g y) k) : s.StoppedAt (s'.modTr t g) t k := by
  obtain ⟨heq, hy⟩ := h
  refine ⟨?_, by simpa using hg _ hy⟩
  rw [heq]
  simp

theorem State.StoppedAt.brakeReels (h : s.StoppedAt s' t k) : s.StoppedAt (s'.brakeReels t) t k :=
  h.modTr fun y hy => by
    refine hy.congr rfl rfl rfl rfl rfl ?_ ?_ ?_ ?_ rfl <;>
      · unfold Drive.brakeLostLoops; split <;> rfl

theorem State.StoppedAt.pathBroken (h : s.StoppedAt s' t k) : s.StoppedAt (s'.pathBroken t) t k :=
  h.modTr (g := fun x => { x with ctl := if x.ctl.faultStopping then { x.ctl with pathIntact := false } else x.ctl })
    fun y hy => by
      refine hy.congr ?_ ?_ ?_ ?_ ?_ rfl rfl rfl rfl rfl <;>
        · dsimp only; split <;> rfl

theorem State.pathLostDrive_decel (hp : (s.tr t).drive.phase = .decel) (hs : (s.tr t).drive.shuttlePhase = .none) :
    s.pathLostDrive t = s := by
  simp [State.pathLostDrive, Drive.unloadCreeping, Drive.driving, hp, hs]

theorem State.StoppedAt.pathUpdate (h : s.StoppedAt s' t k) : s.StoppedAt (s'.pathUpdate t) t k := by
  unfold State.pathUpdate
  dsimp only
  split
  · exact h
  · have hsense : s.StoppedAt (s'.modSense t fun x => { x with pathGood := pathGoodOf (s'.tr t).sense }) t k :=
      h.modTr fun y hy => hy.congr rfl rfl rfl rfl rfl rfl rfl rfl rfl rfl
    split
    · exact hsense
    · have hy := hsense.pathBroken
      rwa [State.pathLostDrive_decel hy.2.phase hy.2.noShuttle]

/-- While the stop is under way a zone event only breaks the path (R30). -/
theorem State.StoppedAt.zoneEventAt (h : s.StoppedAt s' t k) (hs : (s.tr t).ctl.state = .inMotion) (side : Side) (z : Zone) :
    s.StoppedAt (s'.zoneEventAt t side z) t k := by
  have hb := h.brakeReels
  have hstate := hb.2.state.trans hs
  simp only [State.zoneEventAt, State.zoneAtControl, hstate, State.columnCause, hb.2.underWay]
  split
  · simpa using hb.pathBroken
  · split
    · exact hb.pathBroken
    · exact hb

/-- What the commands that begin an emergency stop leave. -/
theorem exec_stops {c : Instr} {f : State → State} (hc : exec c s = runTr t s f) (hp : s.powered = true)
    (hf : s.StoppedAt (f s) t k) : ∃ s', exec c s = .next s' ∧ s.EmergencyBegun s' t k ∧ s.OnlyAt s' t ∧ s.SameShared s' := by
  obtain ⟨hfs, hy⟩ := hf
  obtain ⟨s', hexec, honly, hshared, htr⟩ := exec_becomes hc hp hfs hy.settled
  refine ⟨s', hexec, ?_, honly, hshared⟩
  simp [State.EmergencyBegun, htr, hy.fault, hy.underWay, hy.permission, hy.operation, hy.kind, hy.phase, hy.pending, hy.port,
    Port.stopTold]

/-! ### The causes of R30 in IN MOTION -/

/-- A transport whose Sensing Interface, brakes and stall timer alone have changed since it ran. -/
theorem State.StoppedAt.of_emergency {z : Transport} (hz : z.Running) (hctl : z.ctl = (s.tr t).ctl)
    (hport : z.port = (s.tr t).port) : s.StoppedAt ((s.setTr t z).emergency t k) t k := by
  have hf : ((s.setTr t z).tr t).ctl.faultable = true := by simp [Control.faultable, hz.1, hz.2.1]
  rw [State.emergency_eq hf]
  refine ⟨by simp, ?_⟩
  obtain ⟨h1, h2, h3, h4, h5, h6, h7, h8, h9, h10⟩ := hz.stopped (k := k)
  rw [State.tr_setTr_same, State.tr_setTr_same]
  exact ⟨h1, h2, h3, h4, h5.trans (by rw [hctl]), h6, h7, h8, h9, h10.trans (by rw [hport])⟩

theorem Transport.Running.braked (h : x.Running) (y : Sensing) :
    Transport.Running { x with sense := y, drive := x.drive.brakeLostLoops y } := by
  obtain ⟨h1, h2, h3, h4, h5, h6, h7⟩ := h
  unfold Drive.brakeLostLoops
  split
  · exact ⟨h1, h2, h3, h4, h5, h6, h7⟩
  · exact ⟨h1, h2, h3, h4, h5, h6, h7⟩

/-- Settles O23: every cause begins the stop, and what the event goes on to do leaves it under way. -/
theorem faultCausesStopTheTape : Obligations.FaultCausesStopTheTape := by
  intro s t side p n hp hrun
  have hstate : (s.tr t).ctl.state = .inMotion := hrun.1
  have hstop : (s.tr t).ctl.stopUnderWay = false := hrun.2.1
  have hset : ∀ y : Sensing, Transport.Running { s.tr t with sense := y } := fun y => hrun
  refine ⟨fun hvalid hz hne hfresh hn => ?_, fun hvalid hz hn h200 => ?_, fun hv hn h10 => ?_, fun hv hn h10 => ?_,
    fun hw hr hdue => ?_⟩
  · refine exec_stops (f := fun s => s.columnSamples t side p n) rfl hp ?_
    have hn' : n ≠ 0 := by omega
    have main : ∀ z, patternZone p = some z → zoneLimit z = true → s.StoppedAt (s.columnSamples t side p n) t .loop := by
      intro z hpz hlim
      have hc : (((s.tr t).sense.column side).samples p n).2 = .zone z := by
        have hne' : z ≠ ((s.tr t).sense.column side).zone := fun h => hne (by rw [hpz, h])
        simp [Column.samples, hn', hpz, Column.accepts, Column.identicalAfter, hfresh, hvalid, hne', hn]
      simp only [State.columnSamples, hc, State.modSense_setTr, State.zoneEventAt, State.brakeReels, State.modTr_setTr,
        State.tr_setTr_same, State.setTr_setTr, State.zoneAtControl, hstate, hlim, if_true, State.columnCause, hstop]
      exact State.StoppedAt.pathUpdate (.of_emergency (hrun.braked _) rfl rfl)
    rcases hz with hz | hz
    · exact main _ hz rfl
    · exact main _ hz rfl
  · refine exec_stops (f := fun s => s.columnSamples t side p n) rfl hp ?_
    have hn' : n ≠ 0 := by omega
    have hc : (((s.tr t).sense.column side).samples p n).2 = .fault := by
      simp [Column.samples, hn', hz, hvalid, h200]
    have hfault : ∀ y : Sensing, s.StoppedAt ((s.setTr t { s.tr t with sense := y }).sensorFaultAt t side) t .sensor := by
      intro y
      simp only [State.sensorFaultAt, State.tr_setTr_same, hstate, State.columnCause, hstop]
      exact .of_emergency (hset _) rfl rfl
    simp only [State.columnSamples, hc, State.modSense_setTr]
    exact ((hfault _).zoneEventAt hstate side .unknown).pathUpdate
  · refine exec_stops (f := fun s => s.vacuumSamples t side false n) rfl hp ?_
    have hc := (Level.samples_changes (l := (s.tr t).sense.vacuumLevel side) (need := 10) (v := false) hn (by simp [hv]) h10).1
    simp only [State.vacuumSamples, hc, if_true, State.modSense_setTr]
    refine State.StoppedAt.pathUpdate (State.StoppedAt.brakeReels ?_)
    simp only [State.vacuumAtControl, State.tr_setTr_same, hstate, State.columnCause, hstop]
    exact .of_emergency (hset _) rfl rfl
  · refine exec_stops (f := fun s => s.tapeSamples t false n) rfl hp ?_
    have hc := (Level.samples_changes (l := (s.tr t).sense.tapePresent) (need := 10) (v := false) hn (by simp [hv]) h10).1
    simp only [State.tapeSamples, hc, if_true, State.modSense_setTr, State.tapeAtControl, State.tr_setTr_same, hstate, hstop]
    exact .of_emergency (hset _) rfl rfl
  · have hd : (s.tr t).drive.stallDue = true := by simp [Drive.stallDue, hw, hr, hdue]
    refine exec_stops (f := fun s =>
      if (s.tr t).drive.stallDue then (s.modDrive t fun d => { d with stallReported := true }).stallAtControl t else s) rfl hp ?_
    simp only [hd, if_true, State.modDrive_setTr, State.stallAtControl, State.tr_setTr_same, hstate]
    exact .of_emergency hrun rfl rfl

end

end Sys2Proof.Machine
end

section
/-! PROOF. A transport at rest with no order in the Transfer Unit or Locate Unit: drive modes, the tape dropped, and the
orders LOAD, CLEAR FAULT and the timeouts (chapters 2 and 3). -/
namespace Sys2Proof.Machine

/-! ### The quiet channel -/

section
variable {c : Channel} {x : Transport} {s : State} {t : Tr}

theorem Channel.Quiet.toHunt (h : c.Quiet) : c.toHunt = c := by
  obtain ⟨-, -, hphase, hrecord, hpending, -⟩ := h
  cases c
  simp_all [Channel.toHunt]

theorem Channel.Quiet.discard (h : c.Quiet) : c.discard = (c, false) := by
  obtain ⟨-, -, -, -, -, -, -, hhand⟩ := id h
  rw [Channel.discard, h.toHunt]
  cases c
  simp_all

theorem Channel.Quiet.stopWriting (h : c.Quiet) : c.stopWriting = (c, none) := by
  obtain ⟨hact, hgate, -, -, -, hform, -⟩ := h
  cases c
  simp_all [Channel.stopWriting, Channel.setActivity]

/-- With nothing in progress a discarded record and the end of a motion leave the channel as it is (R77, R87). -/
theorem State.discardRecord_quiet (h : (s.tr t).chan.Quiet) (hx : (s.tr t).xfer.skipFirst = false) :
    s.discardRecord t = s := by
  have hskip : (s.tr t).skipOver = s.tr t := by
    generalize s.tr t = y at hx ⊢
    obtain ⟨_, _, _, _, _, _, xfer, _, _⟩ := y
    cases xfer
    simp_all [Transport.skipOver]
  simp only [State.discardRecord, h.discard, State.handingLostIf, State.modChan_setTr, Bool.false_eq_true, if_false]
  rw [show (s.setTr t { s.tr t with chan := (s.tr t).chan }) = s from State.setTr_tr s t, State.modTr, hskip, State.setTr_tr]

theorem State.chanStops_quiet (h : (s.tr t).chan.Quiet) (hx : (s.tr t).xfer.skipFirst = false) : s.chanStops t = s := by
  simp only [State.chanStops, State.discardRecord_quiet h hx, h.stopWriting, State.deliverWrittenIf]
  exact State.setTr_tr s t

/-! ### Reckoning and drive modes at rest -/

@[simp] theorem Reckoning.becomeLost_anchor (r : Reckoning) : r.becomeLost.anchor = .lost := by
  unfold Reckoning.becomeLost
  split
  · assumption
  · rfl

@[simp] theorem Reckoning.becomeLost_mode (r : Reckoning) : r.becomeLost.mode = r.mode := by
  unfold Reckoning.becomeLost; split <;> rfl

@[simp] theorem Reckoning.setMode_mode (r : Reckoning) (m : DriveMode) : (r.setMode m).mode = m := by
  unfold Reckoning.setMode; split
  · simp [*]
  · split <;> rfl

/-- A change to LOST that no LOCATE takes is a plain change of the reckoning (R135). -/
theorem Transport.setReck_plain {r : Reckoning} (h : x.loc.order ≠ .locateMark ∧ x.loc.order ≠ .locateBlock) :
    x.setReck r = { x with reck := r } := by
  unfold Transport.setReck Transport.locateLost
  split
  · simp [h.1, h.2]
  · rfl

theorem Transport.Unused.noLocate (h : x.Unused) : x.loc.order ≠ .locateMark ∧ x.loc.order ≠ .locateBlock := by
  obtain ⟨-, hloc, -⟩ := h
  simp [hloc, Locate.idle]

theorem Transport.Unused.noSkip (h : x.Unused) : x.xfer.skipFirst = false := by
  obtain ⟨hxfer, -, -⟩ := h
  simp [hxfer, Transfer.idle]

theorem Transport.setReck_anchor {r : Reckoning} (h : r.anchor = x.reck.anchor) : x.setReck r = { x with reck := r } := by
  simp [Transport.setReck, h]

theorem Reckoning.setMode_anchor (r : Reckoning) {m : DriveMode} (h : m ≠ .unthread) : (r.setMode m).anchor = r.anchor := by
  unfold Reckoning.setMode
  split
  · rfl
  · cases m <;> first | rfl | exact absurd rfl h

/-- A drive mode taken that does not leave CAPSTAN and is not UNTHREAD. -/
theorem State.driveMode_plain {m : DriveMode} (h : (s.tr t).reck.mode ≠ .capstan) (hm : m ≠ .unthread) :
    s.driveMode t m = s.setTr t { s.tr t with
      drive := { (s.tr t).drive with mode := m }, reck := (s.tr t).reck.setMode m } := by
  simp only [State.driveMode, h, false_and, if_false, State.modReck, State.modDrive_setTr, State.modTr_setTr,
    State.tr_setTr_same, State.setTr_setTr]
  exact congrArg _ (Transport.setReck_anchor (Reckoning.setMode_anchor _ hm))

/-- A drive mode taken, with nothing for the channel or the Locate Unit to do. -/
theorem State.driveMode_unused (h : (s.tr t).Unused) (m : DriveMode) : s.driveMode t m = s.setTr t { s.tr t with
    drive := { (s.tr t).drive with mode := m }, reck := (s.tr t).reck.setMode m } := by
  have hreck : (s.modDrive t fun d => { d with mode := m }).modReck t (·.setMode m) = s.setTr t { s.tr t with
      drive := { (s.tr t).drive with mode := m }, reck := (s.tr t).reck.setMode m } := by
    simp only [State.modReck, State.modDrive_setTr, State.modTr_setTr, State.tr_setTr_same, State.setTr_setTr]
    exact congrArg _ (Transport.setReck_plain h.noLocate)
  unfold State.driveMode
  rw [hreck]
  dsimp only
  split
  · rw [State.chanStops_quiet (by simpa using h.2.2) (by simpa using h.noSkip)]
  · rfl

theorem State.loseAnchor_unused (h : (s.tr t).Unused) : s.loseAnchor t = s.setTr t { s.tr t with
    reck := (s.tr t).reck.becomeLost } := by
  simp [State.loseAnchor, State.modReck, Transport.setReck_plain h.noLocate]

/-- The tape out of the drive's grip (R45). -/
theorem State.disengage_unused (h : (s.tr t).Unused) : s.disengage t = s.setTr t { s.tr t with
    drive := (s.tr t).drive.disengage, reck := (s.tr t).reck.setMode .halted } := by
  simp only [State.disengage, State.modDrive_setTr]
  rw [State.driveMode_unused (by simpa using h)]
  simp [Drive.disengage]

@[simp] theorem State.tr_holdReel (s : State) (t u : Tr) : (s.holdReel t).tr u = s.tr u := by
  unfold State.holdReel; split <;> rfl

@[simp] theorem State.setTr_holdReel (s : State) (t u : Tr) (x : Transport) :
    (s.holdReel u).setTr t x = (s.setTr t x).holdReel u := by
  by_cases h : (s.reel u).state = .active <;> simp [State.holdReel, h]

/-- The record of a transport whose tape is dropped (R23, R25, R33, R34, R45). -/
def Transport.dropped (x : Transport) : Transport :=
  { x with
    ctl := x.ctl.enter .unloaded, drive := x.drive.disengage, reck := (x.reck.setMode .halted).becomeLost }

theorem State.toUnloaded_unused (h : (s.tr t).Unused) : s.toUnloaded t = s.setTr t (s.tr t).dropped := by
  simp only [State.toUnloaded, State.disengage_unused h, State.enter, State.modCtl_setTr]
  rw [State.loseAnchor_unused (by simpa using h)]
  simp [Transport.dropped]

theorem State.dropTape_unused (h : (s.tr t).Unused) : s.dropTape t = (s.setTr t (s.tr t).dropped).holdReel t := by
  simp only [State.dropTape, State.disengage_unused h, State.enter, State.modCtl_setTr]
  rw [State.loseAnchor_unused (by simpa using h)]
  simp [Transport.dropped]

/-- READY entered by a transport whose capstan is engaged: the brakes are released (R45). -/
theorem State.enter_ready_engaged (h : (s.tr t).drive.engaged = true) : s.enter t .ready = s.setTr t { s.tr t with
    ctl := (s.tr t).ctl.enter .ready, drive := (s.tr t).drive.releaseBrakes } := by
  simp [State.enter, State.readyDrive, Drive.releaseBrakes, h]

/-- READY entered by a transport whose capstan is disengaged: the capstan is engaged too, at standstill (R45). -/
theorem State.enter_ready_disengaged (h : (s.tr t).drive.engaged = false) (hu : (s.tr t).Unused) :
    s.enter t .ready = s.setTr t { s.tr t with
      ctl := (s.tr t).ctl.enter .ready,
      drive := { (s.tr t).drive.releaseBrakes with engaged := true, phase := .stopped, mode := .capstan },
      reck := (s.tr t).reck.setMode .capstan } := by
  simp only [State.enter, State.readyDrive, State.modCtl_setTr, State.modDrive_setTr, State.tr_setTr_same,
    State.setTr_setTr, Drive.releaseBrakes, h, Bool.false_eq_true, if_false]
  rw [State.driveMode_unused (by simpa using hu)]
  simp

/-- The reel record that a dropped tape leaves: an ACTIVE one HELD, with its entries (R25, R94). -/
theorem State.holdReel_reel (s : State) (t : Tr) : (s.holdReel t).reel t =
    if (s.reel t).state = .active then { s.reel t with state := .held } else s.reel t := by
  unfold State.holdReel
  split <;> simp

theorem State.holdReel_poolFree (s : State) (t : Tr) : (s.holdReel t).store.poolFree = s.store.poolFree := by
  unfold State.holdReel
  split <;> simp [State.setReel]

@[simp] theorem State.holdReel_exchange (s : State) (t : Tr) : (s.holdReel t).exchange = s.exchange := by
  unfold State.holdReel; split <;> rfl

@[simp] theorem State.holdReel_arb (s : State) (t : Tr) : (s.holdReel t).arb = s.arb := by
  unfold State.holdReel; split <;> rfl

@[simp] theorem State.holdReel_power (s : State) (t : Tr) : (s.holdReel t).power = s.power := by
  unfold State.holdReel; split <;> rfl

end

/-! ### Orders that end at once -/

section
variable {s z : State} {t : Tr} {code : Nat} {c : OrderCopy} {f : State → OrderCopy → State} {r : OrderResult}

/-- Up to the end of its order a command has changed nothing but its transport's record and reel record. -/
structure State.OwnOnly (s z : State) (t : Tr) : Prop where
  beyond : z.beyond t = s.beyond t
  power : z.power = s.power
  exchange : z.exchange = s.exchange
  arb : z.arb = s.arb

/-- What a command of one transport leaves that ends the order in flight, after it has made `z` of the state (R141). -/
theorem State.ended_own (ho : s.OwnOnly z t) (hz : (z.tr t).EndsFrom (s.tr t)) (hc : r.count ≤ 65535)
    (hm : r.markBlock = none) :
    let y := z.endOrder t r
    let s' := (y.refresh t).finish
    (y.tr t).Settled ∧ s.OnlyAt s' t ∧ s'.exchange = s.exchange ∧ s.OnlyControl s' t ∧ s'.store = z.store ∧
      s'.tr t = Transport.refresh { z.tr t with
        port := { (z.tr t).port with pointer := .terminating, result := (s'.tr t).port.result } } ∧
      s.Terminates s' t r.condition r.count r.value (z.tr t).port.indicators := by
  obtain ⟨hb, hp, he, ha⟩ := ho
  obtain ⟨hz, hset, hi⟩ := hz
  have hend := State.endOrder_reporting hz hc
  have hheld := hz.2.1
  refine ⟨?_, State.onlyAt_finish (by simpa using hb) (by simpa [hend] using hp), ?_, ?_, ?_, ?_,
    State.terminates_of hz hi hc hm (by simp) (by simp)⟩
  all_goals simp only [hend, Transport.ended]
  · simpa using hset.congr
  · simpa using he
  · simp [State.OnlyControl, ha]
  · simp
  · simp [Transport.refresh, hheld]

/-- An order that awaits its owner and that its owner ends. -/
theorem exec_ends {i : Instr} (hi : exec i s = runTr t s fun s => s.takeOrder t code f) (ha : s.Awaits t code c)
    (hf : f (s.withTaken t) c = z.endOrder t r) (ho : s.OwnOnly z t) (hz : (z.tr t).EndsFrom (s.tr t))
    (hc : r.count ≤ 65535 := by simp) (hm : r.markBlock = none := by rfl) :
    ∃ s', exec i s = .next s' ∧ s.OnlyAt s' t ∧ s'.exchange = s.exchange ∧ s.OnlyControl s' t ∧ s'.store = z.store ∧
      s'.tr t = Transport.refresh { z.tr t with
        port := { (z.tr t).port with pointer := .terminating, result := (s'.tr t).port.result } } ∧
      s.Terminates s' t r.condition r.count r.value (z.tr t).port.indicators := by
  obtain ⟨hy, h⟩ := State.ended_own ho hz hc hm
  exact ⟨_, exec_takes hi ha hf hy, h⟩

/-- An order that awaits its owner, when its owner changes only the record of the transport and ends it. -/
theorem exec_ends_at {i : Instr} {y : Transport} (hi : exec i s = runTr t s fun s => s.takeOrder t code f)
    (ha : s.Awaits t code c) (hf : f (s.setTr t (s.tr t).withTaken) c = (s.setTr t y).endOrder t r)
    (hy : y.EndsFrom (s.tr t)) (hc : r.count ≤ 65535 := by simp) (hm : r.markBlock = none := by rfl) :
    ∃ s', exec i s = .next s' ∧ s.OnlyAt s' t ∧ s'.store = s.store ∧ s'.exchange = s.exchange ∧ s.OnlyControl s' t ∧
      s'.tr t = Transport.refresh { y with
        port := { y.port with pointer := .terminating, result := (s'.tr t).port.result } } ∧
      s.Terminates s' t r.condition r.count r.value y.port.indicators := by
  obtain ⟨s', hexec, honly, hexch, hctrl, hstore, htr, hterm⟩ := exec_ends hi ha hf ⟨by simp, rfl, rfl, rfl⟩ (by simpa using hy) hc hm
  rw [State.tr_setTr_same] at htr hterm
  exact ⟨s', hexec, honly, hstore, hexch, hctrl, htr, hterm⟩

/-- An order that awaits its owner, when its owner changes only the record of the transport. -/
theorem exec_takes_becomes {i : Instr} {y : Transport} (hi : exec i s = runTr t s fun s => s.takeOrder t code f)
    (ha : s.Awaits t code c) (hf : f (s.setTr t (s.tr t).withTaken) c = s.setTr t y) (hy : y.Settled) :
    ∃ s', exec i s = .next s' ∧ s.Becomes s' t y :=
  exec_becomes (f := fun s => s.takeOrder t code f) hi ha.1.1 ((State.takeOrder_awaits ha).trans hf) hy

theorem State.Awaits.reporting (ha : s.Awaits t code c) : (s.tr t).Reporting := ha.1.2.1.reporting

end

/-! ### CLEAR FAULT (R33, R45) -/

/-- What CLEAR FAULT does in FAULTED. -/
def clearFaultOf (t : Tr) (s : State) (_ : OrderCopy) : State :=
  if (s.tr t).ctl.state = .faulted then s.clearTheFault t else s.endWith t .normal

theorem exec_clearFault (t : Tr) (s : State) :
    exec (.clearFault t) s = runTr t s fun s => s.takeOrder t 3 (clearFaultOf t) := rfl

/-- Settles O38: the cause decides, and then PATH GOOD. -/
theorem clearFault : Obligations.ClearFault := by
  intro s t c ha hcalm hcreep hstop hend hmode hunused hstate
  obtain ⟨hphase, hshuttle, hkind, hpend⟩ := id hcalm
  obtain ⟨hptr, hheld, hnotice, hoff⟩ := ha.reporting
  have hst : (s.tr t).withTaken.ctl.state = .faulted := hstate
  have hun : (s.tr t).withTaken.Unused := hunused
  refine ⟨fun hcause => ?_, fun hgrip hcause hgood => ?_, fun hcap heng hcause hgood => ?_, fun hcause hgood => ?_⟩
  all_goals have hc : causePresent (s.tr t).withTaken = _ := hcause
  · obtain ⟨s', hexec, honly, hstore, hexch, hctrl, htr, hterm⟩ := exec_ends_at (exec_clearFault t s) ha
      (y := (s.tr t).withTaken) (r := { condition := .faultPersists, count := 0, value := 0, markBlock := none })
      (by simp [clearFaultOf, State.clearTheFault, hc, hst, State.endWith])
      ⟨⟨hptr, hheld, hnotice, hoff⟩, .of_calm hkind hend hpend, rfl⟩
    exact ⟨s', hexec, honly, hstore, hexch, hctrl, htr ▸ rfl, htr ▸ rfl, hterm⟩
  · have hg : (s.tr t).withTaken.sense.pathGood = true := hgood
    have heng : (s.tr t).withTaken.drive.engaged = false := hgrip.2.2.2.2.2.1
    obtain ⟨s', hexec, honly, hstore, hexch, hctrl, htr, hterm⟩ := exec_ends_at (exec_clearFault t s) ha
      (y := { (s.tr t).withTaken with
        ctl := Control.enter { (s.tr t).withTaken.ctl with fault := .none } .ready,
        drive := { (s.tr t).withTaken.drive.releaseBrakes with engaged := true, phase := .stopped, mode := .capstan },
        reck := (s.tr t).withTaken.reck.setMode .capstan })
      (r := { condition := .normal, count := 0, value := 0, markBlock := none })
      (by
        simp only [clearFaultOf, State.clearTheFault, State.tr_setTr_same, hc, hst, if_true, if_false,
          Bool.false_eq_true, State.modCtl_setTr, State.setTr_setTr, hg]
        rw [State.enter_ready_disengaged (by simpa using heng) (by simpa using hun)]
        simp [State.endWith])
      ⟨⟨hptr, hheld, hnotice, hoff⟩, .of_calm hkind hend hpend, rfl⟩
    refine ⟨s', hexec, honly, hstore, hexch, hctrl, ?_, ?_, ?_, ?_, ?_, ?_, htr ▸ rfl, hterm⟩ <;> rw [htr] <;>
      simp [Control.enter, hstop, pumpOf, permissionOf, Drive.releaseBrakes, Transport.withTaken]
  · have hg : (s.tr t).withTaken.sense.pathGood = true := hgood
    have heng' : (s.tr t).withTaken.drive.engaged = true := heng
    obtain ⟨s', hexec, honly, hstore, hexch, hctrl, htr, hterm⟩ := exec_ends_at (exec_clearFault t s) ha
      (y := { (s.tr t).withTaken with
        ctl := Control.enter { (s.tr t).withTaken.ctl with fault := .none } .ready,
        drive := (s.tr t).withTaken.drive.releaseBrakes })
      (r := { condition := .normal, count := 0, value := 0, markBlock := none })
      (by
        simp only [clearFaultOf, State.clearTheFault, State.tr_setTr_same, hc, hst, if_true, if_false,
          Bool.false_eq_true, State.modCtl_setTr, State.setTr_setTr, hg]
        rw [State.enter_ready_engaged (by simpa using heng')]
        simp [State.endWith])
      ⟨⟨hptr, hheld, hnotice, hoff⟩, .of_calm hkind hend hpend, rfl⟩
    refine ⟨s', hexec, honly, hstore, hexch, hctrl, ?_, ?_, ?_, ?_, ?_, ?_, htr ▸ rfl, hterm⟩ <;> rw [htr] <;>
      simp [Control.enter, hstop, pumpOf, permissionOf, Drive.releaseBrakes, Transport.withTaken, hphase, heng, hcap]
  · have hg : (s.tr t).withTaken.sense.pathGood = false := hgood
    obtain ⟨s', hexec, honly, hexch, hctrl, hstore, htr, hterm⟩ := exec_ends (exec_clearFault t s) ha
      (z := (s.setTr t (Transport.dropped { (s.tr t).withTaken with
        ctl := { (s.tr t).withTaken.ctl with fault := .none } })).holdReel t)
      (r := { condition := .normal, count := 0, value := 0, markBlock := none })
      (by
        rw [State.withTaken_eq]
        simp only [clearFaultOf, State.clearTheFault, State.tr_setTr_same, hc, hst, if_true, if_false,
          Bool.false_eq_true, State.modCtl_setTr, State.setTr_setTr, hg]
        rw [State.dropTape_unused (by simpa using hun)]
        simp [State.endWith])
      ⟨by simp, by simp, by simp, by simp⟩
      (by
        rw [State.tr_holdReel, State.tr_setTr_same]
        exact ⟨⟨hptr, hheld, hnotice, hoff⟩, .of_calm rfl hend rfl, rfl⟩)
    rw [State.tr_holdReel, State.tr_setTr_same] at htr hterm
    have hreel : s'.reel t = _ := congrArg (fun m : MapStore => m.reels.get t) hstore
    refine ⟨s', hexec, honly, hexch, hctrl, hreel.trans (State.holdReel_reel _ _), by rw [hstore, State.holdReel_poolFree]; rfl,
      ?_, ?_, ?_, ?_, ?_, ?_, ?_, hterm⟩ <;> rw [htr]
    all_goals simp [Transport.dropped, Drive.disengage, Control.enter, hstop, pumpOf, permissionOf, Transport.withTaken]

/-! ### LOAD (R20, R21, R24) -/

section
variable {s : State} {t : Tr}

/-- THREADING goes on while the columns do not both read vacuum PRESENT (R21). -/
theorem State.threadCheck_waits (hv : (s.tr t).sense.bothVacuum = false) (hr : (s.tr t).ctl.vacuumReached = false) :
    s.threadCheck t = s := by
  simp [State.threadCheck, hv, hr]

/-- A load begins in UNLOADED (R20, R46). -/
theorem State.beginLoad_unloaded (h : (s.tr t).Unloaded) (o : Operation) (tag : Option Tag) (autoFile : Bool) :
    s.beginLoad t o tag autoFile = s.setTr t ((s.tr t).threading o tag autoFile) := by
  obtain ⟨⟨-, -, -, -, -, -, -, -, hmode, hstop, -⟩, -⟩ := h
  simp only [State.beginLoad, State.enter, State.modCtl_setTr, State.modDrive_setTr, State.tr_setTr_same, State.setTr_setTr]
  rw [State.driveMode_plain (by simp [hmode]) (by simp)]
  simp [Transport.threading, Control.enter, hstop, pumpOf, permissionOf, Drive.releaseBrakes, Reckoning.setMode, hmode, seconds, cyclesPerSecond]

/-- The record brought into use, with MAP CHANGED when a map was retired (R24). -/
theorem State.attach_eq (tag : Option Tag) (autoFile : Bool) : s.attach t tag autoFile =
    (s.setTr t { s.tr t with port := (s.tr t).port.raisedIf (attachRetires (s.reel t) tag) .mapChanged }).setReel t
      (attachReel (s.reel t) tag autoFile) := by
  simp [State.attach, State.raiseIndIf_eq]

theorem Transport.ReadyStanding.settled {x y : Transport} (h : x.ReadyStanding) (hd : y.drive = x.drive) (hc : y.ctl = x.ctl) :
    y.Settled := by
  obtain ⟨⟨-, -, -, hk, hp, -, hu⟩, -⟩ := h
  exact .of_calm (hd ▸ hk) (hc ▸ hu) (hd ▸ hp)

/-- A LOAD on a READY transport brings the reel record into use and ends. -/
theorem exec_load_ready {c : OrderCopy} (ha : s.Awaits t 1 c) (hr : (s.tr t).ReadyStanding)
    (hn : s.attachCount t (loadTagOf c) ≤ 65535) :
    ∃ s', exec (.load t) s = .next s' ∧ s.OnlyAt s' t ∧ s'.exchange = s.exchange ∧ s.OnlyControl s' t ∧
      s'.reel t = attachReel (s.reel t) (loadTagOf c) (c.modifier 9) ∧
      s'.store.poolFree = s.store.poolFree + (s.reel t).entries.length -
        (attachReel (s.reel t) (loadTagOf c) (c.modifier 9)).entries.length ∧
      s.Terminates s' t .normal (s.attachCount t (loadTagOf c)) 0
        (if attachRetires (s.reel t) (loadTagOf c) then (s.tr t).port.indicators ||| 4#16 else (s.tr t).port.indicators) := by
  obtain ⟨hptr, hheld, hnotice, hoff⟩ := ha.reporting
  have hst : ¬ (s.tr t).ctl.state = .unloaded := by simp [hr.2.1]
  have hraise : ∀ b, (s.tr t).withTaken.port.raisedIf b .mapChanged = { (s.tr t).withTaken.port with
      indicators := if b then (s.tr t).port.indicators ||| 4#16 else (s.tr t).port.indicators } := fun b => by
    cases b <;> simp [Port.raisedIf, Port.raiseInd, Transport.withTaken, indicatorBit, eq_true hptr]
  obtain ⟨s', hexec, honly, hexch, hctrl, hstore, htr, hterm⟩ := exec_ends (i := .load t) (f := fun s c => s.takeLoad t c)
    (z := (s.withTaken t).attach t (loadTagOf c) (c.modifier 9))
    (r := { condition := .normal, count := s.attachCount t (loadTagOf c), value := 0, markBlock := none }) rfl ha
    (by
      have : ¬ ((s.withTaken t).tr t).ctl.state = .unloaded := by simpa [State.withTaken] using hst
      simp only [State.takeLoad, this, if_false, State.attachOrder]
      rfl)
    ⟨by simp [State.withTaken], by simp [State.attach_eq, State.withTaken], by simp [State.attach_eq, State.withTaken], by simp [State.attach_eq, State.withTaken]⟩
    (by
      rw [State.attach_eq, State.withTaken_eq, State.tr_setReel, State.tr_setTr_same, State.tr_setTr_same, hraise]
      exact ⟨⟨hptr, hheld, hnotice, hoff⟩, hr.settled rfl rfl, rfl⟩) hn
  rw [State.attach_eq] at hstore hterm
  refine ⟨s', hexec, honly, hexch, hctrl, ?_, ?_, ?_⟩
  · exact (congrArg (fun m : MapStore => m.reels.get t) hstore).trans (State.reel_setReel_same _ _ _)
  · rw [hstore]
    simp [State.setReel, State.withTaken]
  · rw [State.withTaken_eq, State.tr_setReel, State.tr_setTr_same, State.tr_setTr_same, hraise] at hterm
    exact hterm

end

/-- Settles O36. -/
theorem loadOrder : Obligations.LoadOrder := by
  intro s t c ha
  refine ⟨fun hu hv => ?_, fun hr hne htagged htag => ?_, fun hr hne htag hlen => ?_, fun hr hnone hempty => ?_⟩
  · refine exec_takes_becomes (f := fun s c => s.takeLoad t c) rfl ha ?_ (.of_calm hu.1.2.2.2.1 hu.1.2.2.2.2.2.2.2.2.2.2 hu.1.2.2.2.2.1)
    have hst : (s.tr t).withTaken.ctl.state = .unloaded := hu.2
    have hu' : (s.tr t).withTaken.Unloaded := hu
    have hv' : ∀ o g a, ((s.tr t).withTaken.threading o g a).sense.bothVacuum = false := fun _ _ _ => hv
    simp only [State.takeLoad, State.tr_setTr_same, hst, if_true]
    rw [State.beginLoad_unloaded (by simpa using hu'),
      State.threadCheck_waits (by simpa using hv' _ _ _) (by simp [Transport.threading])]
    simp [loadTagOf]
  · have hkeep : attachRetires (s.reel t) (loadTagOf c) = false := by
      simp [attachRetires, loadTagOf, htagged, tagsEqual, htag]
    have hreel : attachReel (s.reel t) (loadTagOf c) (c.modifier 9) = { s.reel t with state := .active } := by
      unfold attachReel
      split
      next h => exact absurd h hne
      next => simp [loadTagOf, htagged, tagsEqual, htag]
    have hcount : s.attachCount t (loadTagOf c) = 0 := by simp [State.attachCount, hkeep]
    obtain ⟨s', hexec, honly, hexch, hctrl, hr', hpool, hterm⟩ := exec_load_ready ha hr (by simp [hcount])
    rw [hkeep, hcount] at hterm
    rw [hreel] at hr' hpool
    exact ⟨s', hexec, honly, hexch, hctrl, hr', by simpa using hpool, hterm⟩
  · have hdiffer : tagsEqual (loadTagOf c) (s.reel t).tag = false := by
      rcases htag with htag | htag
      · simp [loadTagOf, htag, tagsEqual]
      · cases hc : c.modifier 8
        · simp [loadTagOf, hc, tagsEqual]
        · cases hrt : (s.reel t).tag with
          | none => simp [tagsEqual]
          | some g =>
            have hne : g ≠ c.tag := fun hg => htag (by rw [hrt, hg])
            simpa [loadTagOf, hc, tagsEqual] using hne.symm
    have hretire : attachRetires (s.reel t) (loadTagOf c) = true := by simp [attachRetires, hne, hdiffer]
    have hreel : attachReel (s.reel t) (loadTagOf c) (c.modifier 9) = newReel (loadTagOf c) (c.modifier 9) := by
      unfold attachReel
      split
      · rfl
      · simp [hdiffer]
    have hcount : s.attachCount t (loadTagOf c) = (s.reel t).entries.length := by simp [State.attachCount, hretire]
    obtain ⟨s', hexec, honly, hexch, hctrl, hr', hpool, hterm⟩ := exec_load_ready ha hr (by omega)
    rw [hretire, hcount] at hterm
    rw [hreel] at hr' hpool
    exact ⟨s', hexec, honly, hexch, hctrl, hr', by simpa [newReel] using hpool, hterm⟩
  · have hkeep : attachRetires (s.reel t) (loadTagOf c) = false := by simp [attachRetires, hnone]
    have hreel : attachReel (s.reel t) (loadTagOf c) (c.modifier 9) = newReel (loadTagOf c) (c.modifier 9) := by
      simp [attachReel, hnone]
    have hcount : s.attachCount t (loadTagOf c) = 0 := by simp [State.attachCount, hkeep]
    obtain ⟨s', hexec, honly, hexch, hctrl, hr', hpool, hterm⟩ := exec_load_ready ha hr (by simp [hcount])
    rw [hkeep, hcount] at hterm
    rw [hreel] at hr' hpool
    exact ⟨s', hexec, honly, hexch, hctrl, hr', by simpa [newReel, hempty] using hpool, hterm⟩

end Sys2Proof.Machine
end

section
/-! PROOF. Loads that fail at rest and phases that run out (R21, R23, R27). -/
namespace Sys2Proof.Machine

section
variable {s z : State} {t : Tr} {x : Transport}

/-! ### Standstill with nothing to report -/

theorem Reckoning.standstill_eq {r : Reckoning} (h : r.moving = false) : r.standstill = r := by
  cases r
  simp_all [Reckoning.standstill]

/-- The standstill at Position Reckoning and the Read Channel when nothing moved and the channel is quiet (R61, R77). -/
theorem State.restReported_quiet (hm : (s.tr t).reck.moving = false) (hu : (s.tr t).Unused) : s.restReported t = s := by
  have hr : s.modTr t (fun x => { x with reck := x.reck.standstill }) = s := by
    rw [State.modTr_setTr, Reckoning.standstill_eq hm]
    exact State.setTr_tr s t
  rw [State.restReported, hr, State.chanStops_quiet hu.2.2 hu.noSkip]

theorem State.takeRewound_none (h : (s.tr t).loc.rewindOutcome = none) : s.takeRewound t = s := by
  simp [State.takeRewound, h]

theorem Transport.Unused.noRewound (h : x.Unused) : x.loc.rewindOutcome = none := by
  obtain ⟨-, hloc, -⟩ := h
  simp [hloc, Locate.idle]

/-- The Drive Unit at standstill: which fields change (R37, R52, R57). -/
theorem Drive.rest_frame (d : Drive) : ∃ w n b, d.rest = { d.takeStaged with
    phase := .stopped, command := 0, commandRem := 0, stopKind := .none, stopTarget := none, holdOver := none,
    endedBy := .none, creep := none, watched := w, stallTimer := n, stallReported := b } := by
  unfold Drive.rest Drive.watch
  dsimp only
  split <;> exact ⟨_, _, _, rfl⟩

@[simp] theorem Drive.takeStaged_requester (d : Drive) : d.takeStaged.requester = d.requester := by
  unfold Drive.takeStaged; split <;> rfl

@[simp] theorem Drive.rest_requester (d : Drive) : d.rest.requester = d.requester := by
  obtain ⟨_, _, _, h⟩ := d.rest_frame; simp [h]

@[simp] theorem Drive.disengage_requester (d : Drive) : d.disengage.requester = d.requester := by
  simp [Drive.disengage]

/-! ### The end of a failing load (R23) -/

/-- A load that fails in THREADING has just begun its stop at rest. -/
structure Transport.LoadFailing (x : Transport) : Prop where
  unused : x.Unused
  state : x.ctl.state = .threading
  underWay : x.ctl.stopUnderWay = true
  rest : x.drive.atRest = true
  mode : x.drive.mode = .thread
  reck : x.reck.mode = .thread
  kind : x.drive.stopKind = .emergency
  pending : x.drive.pending = none
  requester : x.drive.requester = .transport

/-- The record of a transport whose failing load is over (R23, R45). -/
def Transport.loadFailed (x : Transport) : Transport :=
  Transport.dropped { x with
    drive := x.drive.rest,
    ctl := { x.ctl with
      stopUnderWay := false, operation := .none, failCondition := none, seek := .idle, vacuumReached := false } }

theorem Drive.brakeLostLoops_threading {d : Drive} {y : Sensing} (h : d.mode = .thread ∨ d.mode = .unthread) :
    d.brakeLostLoops y = d := by
  simp [Drive.brakeLostLoops, h]

theorem Transport.loadFailed_moving (h : x.reck.mode = .thread) : x.loadFailed.reck.moving = false := by
  simp only [Transport.loadFailed, Transport.dropped, Reckoning.setMode, h, reduceCtorEq, if_false, Reckoning.becomeLost]
  split <;> rfl

theorem Transport.loadFailed_settled (x : Transport) : x.loadFailed.Settled :=
  fun _ => ⟨rfl, fun hs => absurd hs TState.noConfusion, fun _ hr => absurd hr (by simp [Transport.loadFailed, Transport.dropped, Drive.disengage])⟩

theorem State.formTermination_frame (s : State) (t : Tr) (r : OrderResult) : ∃ o f p, (s.formTermination t r).tr t =
    { s.tr t with ctl := { (s.tr t).ctl with online := o, offlinePending := f }, port := p } := by
  have happly : ∃ o f p, (s.tr t).applyOffline =
      { s.tr t with ctl := { (s.tr t).ctl with online := o, offlinePending := f }, port := p } := by
    unfold Transport.applyOffline
    split
    · exact ⟨_, _, _, rfl⟩
    · exact ⟨_, _, _, rfl⟩
  obtain ⟨o, f, p, happly⟩ := happly
  refine ⟨o, f, { p with
    pointer := .terminating, held := none, stopNotice := false,
    result := ((s.formTermination t r).tr t).port.result }, ?_⟩
  unfold State.formTermination
  simp only [happly]
  rw [State.tr]
  simp [State.requestControl, State.setTr]

/-- Ending an order leaves all of its transport but the Order Port and the online flags. -/
theorem State.endOrder_frame (s : State) (t : Tr) (r : OrderResult) : ∃ o f p, (s.endOrder t r).tr t =
    { s.tr t with ctl := { (s.tr t).ctl with online := o, offlinePending := f }, port := p } := by
  unfold State.endOrder
  split
  · split
    · exact ⟨_, _, _, State.tr_modPort_same _ _ _⟩
    · exact s.formTermination_frame t r
  · exact ⟨_, _, _, rfl⟩

theorem State.releaseHeld_frame (s : State) (t : Tr) : ∃ o f p, (s.releaseHeld t).tr t =
    { s.tr t with ctl := { (s.tr t).ctl with online := o, offlinePending := f }, port := p } := by
  unfold State.releaseHeld
  split
  · split
    · exact s.formTermination_frame t _
    · exact ⟨_, _, _, rfl⟩
  · exact ⟨_, _, _, rfl⟩

/-- What befalls the Order Port at the end of a failing load: its own LOAD ends with the condition noted, and a
termination held is formed (R23, R143). -/
def State.reportLoad (s : State) (t : Tr) : Option Condition → State
  | some e => s.endWith t e
  | none => s.releaseHeld t

theorem State.reportLoad_frame (s : State) (t : Tr) (c : Option Condition) : ∃ o f p, (s.reportLoad t c).tr t =
    { s.tr t with ctl := { (s.tr t).ctl with online := o, offlinePending := f }, port := p } := by
  unfold State.reportLoad
  split
  · exact s.endOrder_frame t _
  · exact s.releaseHeld_frame t

/-- A failing load is over at once, the tape being at rest (R23, R37, R53). -/
theorem State.settled_loadFailing (h : (z.tr t).LoadFailing) :
    z.settled t = (z.setTr t (z.tr t).loadFailed).reportLoad t (z.tr t).ctl.failCondition := by
  obtain ⟨hu, hstate, hstop, hrest, hmode, hreck, hkind, hpend, hreq⟩ := h
  have hload : (z.tr t).ctl.loading = true := by simp [Control.loading, hstate]
  have hfail : (z.modTr t fun x => { x with drive := (x.drive.brakeLostLoops x.sense).rest }).emergencyComplete t =
      (z.setTr t (z.tr t).loadFailed).reportLoad t (z.tr t).ctl.failCondition := by
    rw [State.modTr_setTr, Drive.brakeLostLoops_threading (.inl hmode)]
    simp only [State.emergencyComplete, State.tr_setTr_same, hstop, hload, State.loadFailed, State.modCtl_setTr, State.setTr_setTr]
    rw [State.toUnloaded_unused (by simpa using hu)]
    simp only [State.tr_setTr_same, State.setTr_setTr]
    rfl
  obtain ⟨o, f, p, hframe⟩ := (z.setTr t (z.tr t).loadFailed).reportLoad_frame t (z.tr t).ctl.failCondition
  rw [State.tr_setTr_same] at hframe
  generalize (z.setTr t (z.tr t).loadFailed).reportLoad t (z.tr t).ctl.failCondition = w at hfail hframe ⊢
  have hquiet : w.restReported t = w :=
    State.restReported_quiet (by rw [hframe]; exact Transport.loadFailed_moving hreck) (by rw [hframe]; exact hu)
  have hrew : w.takeRewound t = w := State.takeRewound_none (by rw [hframe]; exact hu.noRewound)
  have hrequester : (w.tr t).drive.requester = .transport := by
    rw [hframe]
    simpa [Transport.loadFailed, Transport.dropped] using hreq
  have harrive : z.arrive t = w := by
    simp only [State.arrive, State.arriveAt, Drive.arrival, hkind, State.stopComplete, hfail, hquiet,
      State.requesterStandstill, hrequester, hrew, reduceCtorEq, if_false]
  refine State.settled_step (s' := w) (by simp [State.settleOnce, hrest, hkind, harrive]) ?_
  refine Option.isNone_iff_eq_none.mp (State.settled_iff.mpr ?_)
  rw [hframe]
  exact (Transport.loadFailed_settled _).congr

/-- THREADING at rest, with no stop under way and no order in the Transfer Unit or Locate Unit. -/
structure Transport.ThreadingAtRest (x : Transport) : Prop where
  unused : x.Unused
  state : x.ctl.state = .threading
  noStop : x.ctl.stopUnderWay = false
  calm : x.drive.Calm
  mode : x.drive.mode = .thread
  reck : x.reck.mode = .thread

/-- The record of a transport whose load has begun to fail (R23). -/
def Transport.loadStops (x : Transport) (c : Option Condition) : Transport :=
  { x with
    port := if x.loadInFlight then x.port else x.port.stopTold,
    ctl := { x.ctl with
      stopUnderWay := true, permission := .none, failCondition := if x.ctl.operation = .orderLoad then c else none },
    drive := Drive.beginStop { x.drive with requester := .transport } .emergency }

theorem State.failLoad_eq (c : Option Condition) (hl : (s.tr t).ctl.loading = true) (hs : (s.tr t).ctl.stopUnderWay = false) :
    s.failLoad t c = s.setTr t ((s.tr t).loadStops c) := by
  simp only [State.failLoad, hl, hs, State.raiseFault_stopBegins, Transport.loadStops]
  cases h : (s.tr t).loadInFlight <;> simp

theorem Transport.ThreadingAtRest.failing (h : x.ThreadingAtRest) (c : Option Condition) : (x.loadStops c).LoadFailing := by
  obtain ⟨hu, hstate, hstop, ⟨hphase, hshuttle, hkind, hpend⟩, hmode, hreck⟩ := h
  have hd : Drive.beginStop { x.drive with requester := .transport } .emergency = { x.drive with
      requester := .transport, stopKind := .emergency, pending := none, holdOver := none, stopTarget := none,
      shuttleTarget := none } := by
    simp [Drive.beginStop, Drive.bringToRest, Drive.decel, Drive.brake, hphase, hshuttle, hkind, hmode]
  have hrest : x.drive.atRest = true := by simp [Drive.atRest, Drive.standstill, hphase, hshuttle, hmode]
  simp only [Transport.loadStops, hd]
  exact ⟨hu, hstate, rfl, hrest, hmode, hreck, rfl, rfl, rfl⟩

/-- A load that fails in THREADING at rest is over at once. -/
theorem State.settled_failLoad (h : (s.tr t).ThreadingAtRest) (c : Option Condition) :
    (s.failLoad t c).settled t =
      (s.setTr t ((s.tr t).loadStops c).loadFailed).reportLoad t ((s.tr t).loadStops c).ctl.failCondition := by
  rw [State.failLoad_eq c (by simp [Control.loading, h.state]) h.noStop,
    State.settled_loadFailing (by simpa using h.failing c)]
  simp

/-- What a transport whose failing load is over shows (R23, R45). -/
theorem Transport.loadStops_loadFailed (x : Transport) (c : Option Condition) :
    let y := (x.loadStops c).loadFailed
    y.ctl.state = .unloaded ∧ y.ctl.operation = .none ∧ y.ctl.stopUnderWay = false ∧ y.ctl.pump = false ∧
      y.ctl.permission = .none ∧ y.drive.engaged = false ∧ y.drive.supplyReleased = false ∧
      y.drive.takeupReleased = false ∧ y.reck.anchor = .lost := by
  simp [Transport.loadFailed, Transport.dropped, Control.enter, pumpOf, permissionOf, Drive.disengage]

/-- A panel load fails in THREADING at rest: FAULT and the Order Port told, and no termination (R23, R35, R143). -/
theorem exec_panelLoadFails {i : Instr} {f : State → State} {c : Option Condition} (hi : exec i s = runTr t s f)
    (hp : s.powered = true) (hf : f s = (s.setTr t x).failLoad t c) (hx : x.ThreadingAtRest)
    (hop : x.ctl.operation = .panelLoad) (hport : x.port = (s.tr t).port) (hheld : x.port.held = none) :
    ∃ s', exec i s = .next s' ∧ s.OnlyAt s' t ∧ s.SameShared s' ∧
      (s'.tr t).ctl.state = .unloaded ∧ (s'.tr t).ctl.operation = .none ∧ (s'.tr t).ctl.stopUnderWay = false ∧
      (s'.tr t).ctl.pump = false ∧ (s'.tr t).ctl.permission = .none ∧ (s'.tr t).drive.engaged = false ∧
      (s'.tr t).drive.supplyReleased = false ∧ (s'.tr t).drive.takeupReleased = false ∧ (s'.tr t).reck.anchor = .lost ∧
      (s'.tr t).port = (s.tr t).port.stopTold := by
  have hflight : x.loadInFlight = false := by simp [Transport.loadInFlight, hop]
  have hsettled : (f s).settled t = s.setTr t (x.loadStops c).loadFailed := by
    rw [hf, State.settled_failLoad (by simpa using hx)]
    have hrelease : (x.loadStops c).loadFailed.port.held = none := by
      simpa [Transport.loadFailed, Transport.dropped, Transport.loadStops, hflight, Port.stopTold] using hheld
    simp [Transport.loadStops, hop, State.reportLoad, State.releaseHeld] at hrelease ⊢
    simp [hrelease]
  have hexec : exec i s = .next (((s.setTr t (x.loadStops c).loadFailed).refresh t).finish) := by
    rw [hi, runTr_powered hp, hsettled]
  obtain ⟨honly, hshared, htr⟩ := State.becomes_finish s t (x.loadStops c).loadFailed
  obtain ⟨h1, h2, h3, h4, h5, h6, h7, h8, h9⟩ := x.loadStops_loadFailed c
  refine ⟨_, hexec, honly, hshared, ?_⟩
  rw [htr]
  refine ⟨by simpa using h1, by simpa using h2, by simpa using h3, by simpa using h4, by simpa using h5,
    by simpa using h6, by simpa using h7, by simpa using h8, by simpa using h9, ?_⟩
  simp [Transport.loadFailed, Transport.dropped, Transport.loadStops, hflight, hport]

/-- A LOAD fails in THREADING at rest: it ends with its condition, and nothing else is told (R23). -/
theorem exec_orderLoadFails {i : Instr} {f : State → State} {c : Condition} (hi : exec i s = runTr t s f)
    (hp : s.powered = true) (hf : f s = (s.setTr t x).failLoad t (some c)) (hx : x.ThreadingAtRest)
    (hop : x.ctl.operation = .orderLoad) (hport : x.port = (s.tr t).port) (hw : x.Working) :
    ∃ s', exec i s = .next s' ∧ s.OnlyAt s' t ∧ s'.store = s.store ∧ s'.exchange = s.exchange ∧ s.OnlyControl s' t ∧
      (s'.tr t).ctl.state = .unloaded ∧ (s'.tr t).ctl.operation = .none ∧ (s'.tr t).ctl.stopUnderWay = false ∧
      (s'.tr t).ctl.pump = false ∧ (s'.tr t).ctl.permission = .none ∧ (s'.tr t).drive.engaged = false ∧
      (s'.tr t).drive.supplyReleased = false ∧ (s'.tr t).drive.takeupReleased = false ∧ (s'.tr t).reck.anchor = .lost ∧
      (s'.tr t).port.attention = (s.tr t).port.attention ∧ s.Terminates s' t c 0 0 (s.tr t).port.indicators := by
  obtain ⟨hptr, hheld, hnotice, hoff⟩ := hw.reporting
  have hflight : x.loadInFlight = true := by simp [Transport.loadInFlight, hop, Port.inFlight, hptr]
  have hpx : (x.loadStops (some c)).loadFailed.port = x.port := by
    simp [Transport.loadFailed, Transport.dropped, Transport.loadStops, hflight]
  have hends : (x.loadStops (some c)).loadFailed.EndsFrom (s.tr t) :=
    ⟨⟨hpx ▸ hptr, hpx ▸ hheld, hpx ▸ hnotice, hoff⟩, Transport.loadFailed_settled _, by rw [hpx, hport]⟩
  obtain ⟨-, honly, hexch, hctrl, hstore, htr, hterm⟩ := State.ended_own (s := s) (t := t)
    (z := s.setTr t (x.loadStops (some c)).loadFailed)
    (r := { condition := c, count := 0, value := 0, markBlock := none }) ⟨by simp, rfl, rfl, rfl⟩ (by simpa using hends)
    (by simp) rfl
  rw [State.tr_setTr_same, hpx, hport] at hterm
  have hsettled : (f s).settled t = (s.setTr t (x.loadStops (some c)).loadFailed).endWith t c := by
    rw [hf, State.settled_failLoad (by simpa using hx)]
    simp [Transport.loadStops, hop, State.reportLoad]
  obtain ⟨h1, h2, h3, h4, h5, h6, h7, h8, h9⟩ := x.loadStops_loadFailed (some c)
  refine ⟨_, by rw [hi, runTr_powered hp, hsettled]; rfl, honly, hstore, hexch, hctrl, ?_⟩
  rw [htr]
  refine ⟨by simpa using h1, by simpa using h2, by simpa using h3, by simpa using h4, by simpa using h5,
    by simpa using h6, by simpa using h7, by simpa using h8, by simpa using h9, by simp [hpx, hport], hterm⟩

end

section
variable (d : Drive)

@[simp] theorem Drive.brake_phase : d.brake.phase = d.phase := by unfold Drive.brake; split <;> rfl
@[simp] theorem Drive.brake_mode : d.brake.mode = d.mode := by unfold Drive.brake; split <;> rfl
@[simp] theorem Drive.brake_stopKind : d.brake.stopKind = d.stopKind := by unfold Drive.brake; split <;> rfl

end

/-- A stop of the capstan at speed, whatever the shuttle's record holds (R53). -/
theorem Drive.beginStop_run {d : Drive} {j : StopKind} (hk : d.stopKind = .none) (hp : d.phase = .run)
    (hm : d.mode ≠ .unthread) :
    (d.beginStop j).stopKind = j ∧ (d.beginStop j).phase = .decel ∧ (d.beginStop j).pending = none := by
  have hd : Drive.decel { d with stopKind := j } = { d with stopKind := j, phase := .decel, holdOver := none } := by
    simp [Drive.decel, hp]
  simp [Drive.beginStop, Drive.bringToRest, hk, hd, hm]

/-- What LOAD_PHASE_TIMEOUT does (R21). -/
def loadTimeoutOf (t : Tr) (s : State) : State :=
  if (s.tr t).ctl.state = .threading && !(s.tr t).ctl.stopUnderWay then
    (s.modCtl t fun c => { c with timer := 0 }).failLoad t (some .loadFailed)
  else s

theorem exec_loadPhaseTimeout (t : Tr) (s : State) :
    exec (.loadPhaseTimeout t) s = runTr t s (loadTimeoutOf t) := rfl

/-- What UNLOAD_PHASE_TIMEOUT does (R27). -/
def unloadTimeoutOf (t : Tr) (s : State) : State :=
  if (s.tr t).ctl.state = .unloading && !(s.tr t).ctl.unloadEnding && !(s.tr t).ctl.stopUnderWay then
    (s.modCtl t fun c => { c with timer := 0 }).emergency t .tapePath
  else s

theorem exec_unloadPhaseTimeout (t : Tr) (s : State) :
    exec (.unloadPhaseTimeout t) s = runTr t s (unloadTimeoutOf t) := rfl

/-- Settles O44. -/
theorem phaseTimeouts : Obligations.PhaseTimeouts := by
  intro s t hp hstop hunused
  have hdue : (s.tr t).ctl.state = .threading → loadTimeoutOf t s =
      (s.setTr t { s.tr t with ctl := { (s.tr t).ctl with timer := 0 } }).failLoad t (some .loadFailed) := fun h => by
    simp [loadTimeoutOf, h, hstop]
  refine ⟨fun hstate hcalm hmode hreck hop hheld => ?_, fun hstate hcalm hmode hreck hop hw => ?_,
    fun hstate hend hphase hmode hkind => ?_⟩
  · exact exec_panelLoadFails (exec_loadPhaseTimeout t s) hp (hdue hstate)
      ⟨hunused, hstate, hstop, hcalm, hmode, hreck⟩ hop rfl hheld
  · exact exec_orderLoadFails (exec_loadPhaseTimeout t s) hp (hdue hstate)
      ⟨hunused, hstate, hstop, hcalm, hmode, hreck⟩ hop rfl hw
  · obtain ⟨hk, hph, hpe⟩ := Drive.beginStop_run (d := (s.tr t).drive) (j := .emergency) hkind hphase (by simp [hmode])
    have hdue : unloadTimeoutOf t s = s.setTr t
        (Transport.emergencyStop { s.tr t with ctl := { (s.tr t).ctl with timer := 0 } } .tapePath) := by
      simp only [unloadTimeoutOf, hstate, hend, hstop, State.modCtl_setTr]
      simp only [decide_true, Bool.not_false, Bool.and_self, if_true]
      rw [State.emergency_eq (by simp [Control.faultable])]
      simp
    obtain ⟨s', hexec, honly, hshared, htr⟩ := exec_becomes (exec_unloadPhaseTimeout t s) hp hdue
      (.of_moving (Drive.atRest_of_phase (by simp [Transport.emergencyStop, hph])))
    refine ⟨s', hexec, honly, hshared, ?_⟩
    simp [State.EmergencyBegun, htr, Transport.emergencyStop, hk, hph, hpe, Port.stopTold]

end Sys2Proof.Machine
end

section
/-! PROOF. Arrival at standstill: the unthreading wind, the capstan and the shuttle (R28, R29, R31, R37, R48, R51). -/
namespace Sys2Proof.Machine

/-! ### The stall watch at standstill (R55) -/

section
variable {d : Drive} {x y : Transport}

theorem Drive.watch_of_watched (h : watchedTach d = d.watched) : d.watch = d := by simp [Drive.watch, h]

/-- The stall watch changes itself alone (R55). -/
theorem Drive.watch_frame (d : Drive) : ∃ w n b, d.watch = { d with watched := w, stallTimer := n, stallReported := b } := by
  unfold Drive.watch
  split <;> exact ⟨_, _, _, rfl⟩

section
variable (d : Drive)

@[simp] theorem Drive.watch_phase : d.watch.phase = d.phase := by obtain ⟨_, _, _, h⟩ := d.watch_frame; rw [h]
@[simp] theorem Drive.watch_mode : d.watch.mode = d.mode := by obtain ⟨_, _, _, h⟩ := d.watch_frame; rw [h]
@[simp] theorem Drive.watch_shuttlePhase : d.watch.shuttlePhase = d.shuttlePhase := by
  obtain ⟨_, _, _, h⟩ := d.watch_frame; rw [h]
@[simp] theorem Drive.watch_stopKind : d.watch.stopKind = d.stopKind := by obtain ⟨_, _, _, h⟩ := d.watch_frame; rw [h]
@[simp] theorem Drive.watch_pending : d.watch.pending = d.pending := by obtain ⟨_, _, _, h⟩ := d.watch_frame; rw [h]
@[simp] theorem Drive.watch_engaged : d.watch.engaged = d.engaged := by obtain ⟨_, _, _, h⟩ := d.watch_frame; rw [h]
@[simp] theorem Drive.watch_requester : d.watch.requester = d.requester := by
  obtain ⟨_, _, _, h⟩ := d.watch_frame; rw [h]
@[simp] theorem Drive.watch_shuttleTarget : d.watch.shuttleTarget = d.shuttleTarget := by
  obtain ⟨_, _, _, h⟩ := d.watch_frame; rw [h]
@[simp] theorem Drive.watch_active : d.watch.active = d.active := by obtain ⟨_, _, _, h⟩ := d.watch_frame; rw [h]

end

theorem Drive.watch_watch (d : Drive) : d.watch.watch = d.watch := by
  by_cases h : watchedTach d = d.watched
  · rw [Drive.watch_of_watched h, Drive.watch_of_watched h]
  · refine Drive.watch_of_watched ?_
    simp only [Drive.watch, h, if_false]
    rfl

theorem Drive.limitShuttle_watch (d : Drive) (r : Reckoning) : d.watch.limitShuttle r = (d.limitShuttle r).watch := by
  have hw : watchedTach (d.limitShuttle r) = watchedTach d ∧ (d.limitShuttle r).watched = d.watched := by
    unfold Drive.limitShuttle
    split
    · exact ⟨rfl, rfl⟩
    · exact ⟨rfl, rfl⟩
    · split <;> exact ⟨rfl, rfl⟩
  by_cases h : watchedTach d = d.watched
  · rw [Drive.watch_of_watched h, Drive.watch_of_watched (hw.1.trans (h.trans hw.2.symm))]
  · simp only [Drive.watch, h, hw, if_false]
    unfold Drive.limitShuttle
    dsimp only
    split
    · rfl
    · rfl
    · split <;> rfl

/-- The outputs follow the stall watch themselves (R55). -/
theorem Transport.refresh_of_watch (h : x.drive = d.watch) : x.refresh = Transport.refresh { x with drive := d } := by
  simp only [Transport.refresh, h, Drive.limitShuttle_watch, Drive.watch_watch]

/-- A command that replaces the record of its transport by one that shows the same with its outputs. -/
theorem exec_becomes_shown {s : State} {t : Tr} {f : State → State} {c : Instr} (hc : exec c s = runTr t s f)
    (hp : s.powered = true) (hf : f s = s.setTr t y) (hy : y.Settled) (hx : y.refresh = x.refresh) :
    ∃ s', exec c s = .next s' ∧ s.Becomes s' t x := by
  obtain ⟨s', hexec, honly, hshared, htr⟩ := exec_becomes hc hp hf hy
  exact ⟨s', hexec, honly, hshared, htr.trans hx⟩

end

/-! ### The arrival (R37, R51 to R54) -/

theorem Drive.takeStaged_eq {d : Drive} (h : d.mode ≠ .unthread) :
    d.takeStaged = { d with active := d.staged.getD d.active, staged := none } := by
  unfold Drive.takeStaged
  split
  next p hp => simp [Drive.activate, h, hp]
  next hn =>
    cases d
    simp_all

/-- At rest with no stop kind and no request pending nothing comes about by itself outside UNLOADING. -/
theorem Transport.Settled.of_rest {x : Transport} (hk : x.drive.stopKind = .none) (hs : x.ctl.state ≠ .unloading)
    (hp : x.drive.pending = none) : x.Settled := fun _ =>
  ⟨hk, fun h => absurd h hs, fun r hr => absurd (hp.symm.trans hr) (by simp)⟩

/-- The Drive Unit at standstill outside threading and unthreading: the staged profile takes effect, and a brake stays
released where its loop is in its column (R37, R45, R57). Its stall watch has still to follow. -/
def Drive.rested (d : Drive) (x : Sensing) : Drive :=
  { d with
    phase := .stopped, command := 0, commandRem := 0, stopTarget := none, holdOver := none, endedBy := .none,
    creep := none, stopKind := .none, active := d.staged.getD d.active, staged := none,
    supplyReleased := d.supplyReleased && x.loopIn .supply, takeupReleased := d.takeupReleased && x.loopIn .takeup }

theorem Drive.rest_eq {d : Drive} (x : Sensing) (hm : d.mode ≠ .unthread) (ht : d.mode ≠ .thread) :
    (d.brakeLostLoops x).rest = (d.rested x).watch := by
  have hb : d.brakeLostLoops x = { d with
      supplyReleased := d.supplyReleased && x.loopIn .supply,
      takeupReleased := d.takeupReleased && x.loopIn .takeup } := by
    simp [Drive.brakeLostLoops, hm, ht]
  have hs : (d.brakeLostLoops x).takeStaged = { d.brakeLostLoops x with
      active := (d.brakeLostLoops x).staged.getD (d.brakeLostLoops x).active, staged := none } :=
    Drive.takeStaged_eq (by simpa [hb] using hm)
  unfold Drive.rest
  rw [hs, hb]
  rfl

/-- The record of a transport whose tape has come to rest, with Position Reckoning told (R37, R61). -/
def Transport.atStandstill (x : Transport) : Transport :=
  { x with drive := (x.drive.rested x.sense).watch, reck := x.reck.standstill }

theorem Transport.atStandstill_refresh (x : Transport) : x.atStandstill.refresh = Transport.refresh { x with
    reck := { x.reck with moving := false }, drive := x.drive.rested x.sense } :=
  Transport.refresh_of_watch rfl

section
variable {s : State} {t : Tr}

theorem State.restReported_unused (h : (s.tr t).Unused) :
    s.restReported t = s.setTr t { s.tr t with reck := (s.tr t).reck.standstill } := by
  rw [State.restReported, State.modTr_setTr]
  exact State.chanStops_quiet (by simpa using h.2.2) (by simpa using h.noSkip)

theorem State.requesterStandstill_unused (h : (s.tr t).Unused) (a : Arrival) : s.requesterStandstill t a = s := by
  obtain ⟨hx, hl, -⟩ := h
  have hloc : s.locateStandstill t a = s := by simp [State.locateStandstill, hl, Locate.idle]
  have hxfer : s.xferStandstill t a = s := by simp [State.xferStandstill, hx, Transfer.idle]
  unfold State.requesterStandstill
  split
  · exact hloc
  · exact hxfer
  · rfl

/-- Standstill with no order in the Transfer Unit or Locate Unit, after a motion or a controlled stop. -/
theorem State.arriveAt_unused (h : (s.tr t).Unused) (hk : (s.tr t).drive.stopKind = .none ∨ (s.tr t).drive.stopKind = .controlled)
    (hm : (s.tr t).drive.mode ≠ .unthread) (ht : (s.tr t).drive.mode ≠ .thread) (off : Option Int) : s.arriveAt t off =
      ((s.setTr t (s.tr t).atStandstill).controlStandstill t ((s.tr t).drive.arrival off)).takeRewound t := by
  have hstop : ∀ z : State, z.stopComplete t (s.tr t).drive.stopKind = z := fun z => by
    rcases hk with hk | hk <;> rw [hk] <;> rfl
  have hrest := State.restReported_unused (s := s.setTr t { s.tr t with drive := ((s.tr t).drive.rested (s.tr t).sense).watch })
    (t := t) (by simpa using h)
  have hreq := State.requesterStandstill_unused (s := s.setTr t (s.tr t).atStandstill) (t := t)
    (by simpa [Transport.atStandstill] using h)
  simp only [State.tr_setTr_same, State.setTr_setTr] at hrest
  simp only [State.arriveAt, State.modTr_setTr, Drive.arrival, hstop, Drive.rest_eq _ hm ht, hrest]
  simp only [Transport.atStandstill] at hreq ⊢
  rcases hk with hk | hk <;> simp [hk, hreq]

theorem State.controlStandstill_unloaded (h : (s.tr t).ctl.state = .unloaded) (a : Arrival) : s.controlStandstill t a = s := by
  unfold State.controlStandstill
  simp [h]

/-! ### The unthreading wind (R48) -/

/-- What UNTHREAD_WIND_STOPPED does (R48). -/
def windStoppedOf (t : Tr) (s : State) : State :=
  if (s.tr t).drive.mode = .unthread && (s.tr t).drive.windStopping then s.windStopped t else s

theorem exec_unthreadWindStopped (t : Tr) (s : State) :
    exec (.unthreadWindStopped t) s = runTr t s (windStoppedOf t) := rfl

/-- Settles O48. -/
theorem windStopped : Obligations.WindStopped := by
  intro s t hp hstate hstop hcalm hmode hwind htake hreck hu
  obtain ⟨hphase, hshuttle, hkind, hpend⟩ := hcalm
  have hr : (s.tr t).reck.setMode .halted = { (s.tr t).reck with mode := .halted, moving := false } := by
    simp [Reckoning.setMode, hreck]
  have hwound : windStoppedOf t s = State.arrive (s.setTr t { s.tr t with
      drive := { (s.tr t).drive with
        windSpeed := 0, windRem := 0, windStopping := false, supplyReleased := false, mode := .halted },
      reck := { (s.tr t).reck with mode := .halted, moving := false } }) t := by
    simp only [windStoppedOf, hmode, hwind, State.windStopped, State.modDrive_setTr]
    rw [State.driveMode_plain (by simp [hreck]) (by simp)]
    simp [hr]
  refine exec_becomes_shown (f := windStoppedOf t) (y := Transport.atStandstill { s.tr t with
      drive := { (s.tr t).drive with
        windSpeed := 0, windRem := 0, windStopping := false, supplyReleased := false, mode := .halted },
      reck := { (s.tr t).reck with mode := .halted, moving := false } }) (exec_unthreadWindStopped t s) hp ?_ ?_ ?_
  · rw [hwound, State.arrive, State.arriveAt_unused (by simpa using hu) (by simp [hkind]) (by simp) (by simp)]
    simp only [State.tr_setTr_same, State.setTr_setTr]
    rw [State.controlStandstill_unloaded (by simp [Transport.atStandstill, hstate])]
    exact State.takeRewound_none (by simpa [Transport.atStandstill] using hu.noRewound)
  · exact .of_rest (by simp [Transport.atStandstill, Drive.rested]) (by simp [Transport.atStandstill, hstate])
      (by simpa [Transport.atStandstill, Drive.rested] using hpend)
  · refine (Transport.atStandstill_refresh _).trans ?_
    simp [Drive.rested, htake, hphase, hkind]

/-! ### The capstan comes to rest (R28, R29, R31, R37) -/

/-- What CAPSTAN_STANDSTILL does (R37). -/
def capstanStandstillOf (t : Tr) (s : State) : State := if (s.tr t).drive.phase = .decel then s.arrive t else s

theorem exec_capstanStandstill (t : Tr) (s : State) :
    exec (.capstanStandstill t) s = runTr t s (capstanStandstillOf t) := rfl

theorem Drive.releaseBrakes_watch (d : Drive) : d.watch.releaseBrakes = d.releaseBrakes.watch := by
  have hw : watchedTach d.releaseBrakes = watchedTach d ∧ d.releaseBrakes.watched = d.watched := ⟨rfl, rfl⟩
  unfold Drive.watch
  rw [hw.1, hw.2]
  split <;> rfl

/-- The record of a transport that has come to rest and is READY (R28, R29, R45). -/
def Transport.readyAtRest (x : Transport) : Transport :=
  { x with
    ctl := x.ctl.enter .ready, drive := (x.drive.rested x.sense).releaseBrakes.watch, reck := x.reck.standstill }

theorem Transport.readyAtRest_settled {x : Transport} (h : x.drive.pending = none) : x.readyAtRest.Settled :=
  .of_rest (by simp [Transport.readyAtRest, Drive.releaseBrakes, Drive.rested])
    (by simp [Transport.readyAtRest, Control.enter])
    (by simpa [Transport.readyAtRest, Drive.releaseBrakes, Drive.rested] using h)

/-- READY entered at standstill with the capstan engaged. -/
theorem State.enter_readyAtRest (he : (s.tr t).drive.engaged = true) (c : Control) :
    State.enter (s.setTr t { (s.tr t).atStandstill with ctl := c }) t .ready =
      s.setTr t (Transport.readyAtRest { s.tr t with ctl := c }) := by
  rw [State.enter_ready_engaged (by simpa [Transport.atStandstill, Drive.rested] using he)]
  simp [Transport.atStandstill, Transport.readyAtRest, Drive.releaseBrakes_watch]

theorem Transport.readyAtRest_refresh {x : Transport} (hstop : x.ctl.stopUnderWay = false) :
    x.readyAtRest.refresh = Transport.refresh { x with
      ctl := { x.ctl with state := .ready, pump := true, permission := .full },
      reck := { x.reck with moving := false },
      drive := { x.drive with
        phase := .stopped, command := 0, commandRem := 0, stopTarget := none, holdOver := none, endedBy := .none,
        creep := none, stopKind := .none, active := x.drive.staged.getD x.drive.active, staged := none,
        supplyReleased := true, takeupReleased := true } } := by
  refine (Transport.refresh_of_watch rfl).trans ?_
  simp [Transport.readyAtRest, Control.enter, pumpOf, permissionOf, hstop, Drive.rested, Drive.releaseBrakes, Reckoning.standstill]

theorem State.raiseCause_eq (s : State) (t : Tr) (a : Attention) : s.raiseCause t a = s.setTr t { s.tr t with
    port := { (s.tr t).port with
      attention := if (s.tr t).port.pointer = .inFlight then (s.tr t).port.attention
        else (s.tr t).port.attention ||| attentionBit a } } := by
  unfold State.raiseCause
  split
  next h =>
    have hp : (s.tr t).port.pointer = .inFlight := by simpa [Port.inFlight] using h
    rw [if_pos hp]
    exact (State.setTr_tr s t).symm
  next h =>
    have hp : (s.tr t).port.pointer ≠ .inFlight := by simpa [Port.inFlight] using h
    simp [State.raiseAtt, Port.raiseAtt, hp]

/-- The standstill of a motion that no stop has met makes the transport READY (R28). -/
theorem State.standstill_inMotion {a : Arrival} (he : (s.tr t).drive.engaged = true) (hs : (s.tr t).ctl.state = .inMotion)
    (hw : (s.tr t).ctl.stopUnderWay = false) :
    (s.setTr t (s.tr t).atStandstill).controlStandstill t a = s.setTr t (s.tr t).readyAtRest := by
  have hctl : (s.tr t).atStandstill.ctl = (s.tr t).ctl := rfl
  simp only [State.controlStandstill, State.tr_setTr_same, hctl, hw, hs]
  exact State.enter_readyAtRest he _

theorem State.controlStandstill_stopping {a : Arrival} (hs : (s.tr t).ctl.state = .stopping)
    (hw : (s.tr t).ctl.stopUnderWay = false) : s.controlStandstill t a =
      let z := (s.setTr t { s.tr t with ctl := { (s.tr t).ctl with stopByClear := false } }).enter t .ready
      if (s.tr t).ctl.stopByClear then z.raiseCause t .ready else z := by
  simp [State.controlStandstill, hs, hw]

/-- The standstill of a controlled stop makes the transport READY, and raises READY after a CLEAR (R29, R35). -/
theorem State.standstill_stopping {a : Arrival} (he : (s.tr t).drive.engaged = true) (hs : (s.tr t).ctl.state = .stopping)
    (hw : (s.tr t).ctl.stopUnderWay = false) :
    (s.setTr t (s.tr t).atStandstill).controlStandstill t a = s.setTr t (Transport.readyAtRest { s.tr t with
        ctl := { (s.tr t).ctl with stopByClear := false },
        port := { (s.tr t).port with
          attention := if (s.tr t).ctl.stopByClear = true ∧ (s.tr t).port.pointer ≠ .inFlight
            then (s.tr t).port.attention ||| 16#5 else (s.tr t).port.attention } }) := by
  have henter := State.enter_readyAtRest he { (s.tr t).ctl with stopByClear := false }
  rw [State.controlStandstill_stopping (by rw [State.tr_setTr_same]; exact hs) (by rw [State.tr_setTr_same]; exact hw),
    State.tr_setTr_same, State.setTr_setTr]
  refine (congrArg (fun z => if (s.tr t).ctl.stopByClear then State.raiseCause z t .ready else z) henter).trans ?_
  cases hc : (s.tr t).ctl.stopByClear
  · simp
  · by_cases hp : (s.tr t).port.pointer = .inFlight <;>
      simp [State.raiseCause_eq, Transport.readyAtRest, hp, attentionBit]

/-- A power stop is complete, with no UNLOAD order and nothing in the Transfer Unit or Locate Unit (R34, R54, R179). -/
theorem State.arriveAt_power (h : (s.tr t).Unused) (hk : (s.tr t).drive.stopKind = .power)
    (hm : (s.tr t).drive.mode ≠ .unthread) (ht : (s.tr t).drive.mode ≠ .thread) (ho : (s.tr t).hasOrder 2 = false)
    (hrel : s.power.pwarn.level = true ∨ s.power.released.get t = true) (off : Option Int) :
    s.arriveAt t off = s.setTr t (s.tr t).atStandstill := by
  have hu : (s.tr t).atStandstill.Unused := by simpa [Transport.atStandstill] using h
  have hstop : (s.setTr t { s.tr t with drive := ((s.tr t).drive.rested (s.tr t).sense).watch }).stopComplete t .power =
      s.setTr t { s.tr t with drive := ((s.tr t).drive.rested (s.tr t).sense).watch } := by
    simp only [State.stopComplete, State.endUnload, State.tr_setTr_same]
    exact if_neg (Bool.eq_false_iff.mp ho)
  have hlate : (s.setTr t (s.tr t).atStandstill).lateRelease t = s.setTr t (s.tr t).atStandstill := by
    rcases hrel with hrel | hrel <;> simp [State.lateRelease, hrel]
  simp only [State.arriveAt, State.modTr_setTr, Drive.arrival, Drive.rest_eq _ hm ht, hk, hstop, if_true]
  rw [State.restReported_unused (by simpa using h)]
  simp only [State.tr_setTr_same, State.setTr_setTr]
  refine Eq.trans ?_ hlate
  congr 1
  refine (congrArg (fun z => State.takeRewound z t) (State.requesterStandstill_unused (by simpa using h) _)).trans ?_
  exact State.takeRewound_none (by simpa using h.noRewound)

/-! ### The end of an emergency stop (R31, R143) -/

/-- The reel record after a stop that PATH GOOD has not outlived is HELD (R31, R94). -/
def State.heldUnlessGood (s : State) (t : Tr) : State := if (s.tr t).sense.pathGood then s else s.holdReel t

@[simp] theorem State.tr_heldUnlessGood (s : State) (t u : Tr) : (s.heldUnlessGood t).tr u = s.tr u := by
  unfold State.heldUnlessGood; split <;> simp

@[simp] theorem State.heldUnlessGood_exchange (s : State) (t : Tr) : (s.heldUnlessGood t).exchange = s.exchange := by
  unfold State.heldUnlessGood; split <;> simp

@[simp] theorem State.heldUnlessGood_arb (s : State) (t : Tr) : (s.heldUnlessGood t).arb = s.arb := by
  unfold State.heldUnlessGood; split <;> simp

@[simp] theorem State.heldUnlessGood_power (s : State) (t : Tr) : (s.heldUnlessGood t).power = s.power := by
  unfold State.heldUnlessGood; split <;> simp

theorem State.heldUnlessGood_poolFree (s : State) (t : Tr) : (s.heldUnlessGood t).store.poolFree = s.store.poolFree := by
  unfold State.heldUnlessGood; split
  · rfl
  · exact s.holdReel_poolFree t

theorem State.heldUnlessGood_reel (s : State) (t : Tr) : (s.heldUnlessGood t).reel t =
    if (s.reel t).state = .active ∧ (s.tr t).sense.pathGood = false then { s.reel t with state := .held } else s.reel t := by
  unfold State.heldUnlessGood
  cases h : (s.tr t).sense.pathGood <;> simp [State.holdReel_reel]

/-- FAULTED entered at the end of an emergency stop, the anchor LOST where the path has not stayed intact (R31). -/
def Transport.faulted (x : Transport) : Transport :=
  { x with
    ctl := { x.ctl with state := .faulted, pump := true, permission := .none, stopUnderWay := false },
    reck := if x.ctl.pathIntact then x.reck else x.reck.becomeLost }

theorem State.emergencyComplete_eq (hw : (s.tr t).ctl.stopUnderWay = true) (hl : (s.tr t).ctl.loading = false)
    (hn : (s.tr t).loc.order ≠ .locateMark ∧ (s.tr t).loc.order ≠ .locateBlock) :
    s.emergencyComplete t =
      (((s.setTr t (s.tr t).faulted).heldUnlessGood t).endUnload t .faultStop).releaseHeld t := by
  have hlost : (if (s.tr t).ctl.pathIntact then
      (s.setTr t { s.tr t with ctl := { (s.tr t).ctl with stopUnderWay := false } }).enter t .faulted else
      ((s.setTr t { s.tr t with ctl := { (s.tr t).ctl with stopUnderWay := false } }).enter t .faulted).loseAnchor t) =
      s.setTr t (s.tr t).faulted := by
    simp only [State.enter, State.modCtl_setTr, State.tr_setTr_same, State.setTr_setTr, Control.enter, pumpOf, permissionOf,
      State.loseAnchor, State.modReck, State.modTr_setTr, Transport.faulted]
    split
    · simp
    · rw [Transport.setReck_plain (by simpa using hn)]
      simp
  simp only [State.emergencyComplete, hw, hl, State.modCtl_setTr, hlost]
  rfl

theorem State.endUnload_other (h : (s.tr t).hasOrder 2 = false) (c : Condition) : s.endUnload t c = s := by
  simp [State.endUnload, h]

theorem State.releaseHeld_none (h : (s.tr t).port.held = none) : s.releaseHeld t = s := by
  simp [State.releaseHeld, h]

/-- The Order Port's record when a termination held through an emergency stop is about to be formed (R143). -/
def Port.released (p : Port) : Port := { p with held := none, stopNotice := false }

/-- The termination write of all but a LOCATE MARK that has found its entry (R142). -/
theorem terminationTransfer_short {x : Transport} {r : OrderResult} (h : r.condition ≠ .normal ∨ r.markBlock = none) (k : Nat) :
    terminationTransfer x r k =
      { kind := .termination, address := x.port.index.toNat * 8 + 14, length := 5, words := resultWords x r k, sizes := [],
        orphan := false } := by
  unfold terminationTransfer
  dsimp only
  split
  next hm =>
    have hc : r.condition ≠ .normal := h.resolve_right (by simp [hm])
    rw [if_neg hc]
  next => rfl

/-- The result that the Order Port reports of an order, an emergency stop noticed or not (R143). -/
def OrderResult.noticed (r : OrderResult) (p : Port) : OrderResult :=
  { r with condition := faultStopCondition p r.condition, markBlock := none }

/-- The termination is formed, an emergency stop noticed or not (R141, R143). -/
theorem State.formTermination_released {r : OrderResult} (hp : (s.tr t).port.pointer = .inFlight)
    (ho : (s.tr t).ctl.offlinePending = false) (hc : r.count ≤ 65535)
    (hm : faultStopCondition (s.tr t).port r.condition ≠ .normal ∨ r.markBlock = none) :
    s.formTermination t r = (s.setTr t { s.tr t with port := (s.tr t).port.released }).endOrder t
      (r.noticed (s.tr t).port) := by
  have happly : (s.tr t).applyOffline = s.tr t := by simp [Transport.applyOffline, ho]
  have hterm : terminationTransfer (s.tr t) { r with condition := faultStopCondition (s.tr t).port r.condition } s.freeIndex =
      terminationTransfer { s.tr t with port := (s.tr t).port.released } (r.noticed (s.tr t).port) s.freeIndex := by
    rw [terminationTransfer_short hm, terminationTransfer_short (.inr rfl)]
    rfl
  rw [State.endOrder_reporting (r := r.noticed (s.tr t).port)
    (by rw [State.tr_setTr_same]; exact ⟨hp, rfl, rfl, ho⟩) hc, State.formTermination, happly]
  dsimp only
  rw [if_pos hc, State.tr_setTr_same, State.setTr_setTr, State.setTr_freeIndex, ← hterm]
  rfl

theorem faultStopCondition_noticed {p : Port} (h : p.stopNotice = true) (c : Condition) : faultStopCondition p c =
    if c = .illegalOrder ∨ c = .parameter ∨ c = .busError then c else .faultStop := by
  cases c <;> simp [faultStopCondition, h]

/-- The termination held through an emergency stop is formed (R143). -/
theorem State.releaseHeld_noticed {r : OrderResult} (hp : (s.tr t).port.pointer = .inFlight)
    (hr : (s.tr t).port.held = some r) (hn : (s.tr t).port.stopNotice = true) (ho : (s.tr t).ctl.offlinePending = false)
    (hc : r.count ≤ 65535) :
    s.releaseHeld t = (s.setTr t { s.tr t with port := (s.tr t).port.released }).endOrder t
      (r.noticed (s.tr t).port) := by
  have hrel : s.releaseHeld t = s.formTermination t r := by simp [State.releaseHeld, hr, Port.inFlight, hp]
  rw [hrel]
  refine State.formTermination_released hp ho hc (.inl ?_)
  rw [faultStopCondition_noticed hn]
  split
  next h => rcases h with h | h | h <;> simp [h]
  next => simp

/-- The standstill report at Position Reckoning after the end of an order is one before it (R61, R141). -/
theorem State.endOrder_standstill {r : OrderResult} (h : (s.tr t).Reporting) (hc : r.count ≤ 65535) :
    (s.endOrder t r).setTr t { (s.endOrder t r).tr t with reck := ((s.endOrder t r).tr t).reck.standstill } =
      (s.setTr t { s.tr t with reck := (s.tr t).reck.standstill }).endOrder t r := by
  rw [State.endOrder_reporting h hc, State.endOrder_reporting (by rw [State.tr_setTr_same]; exact h) hc]
  simp only [Transport.ended, State.tr_requestControl, State.tr_setTr_same, State.setTr_requestControl, State.setTr_setTr]
  rfl

/-- The emergency stop of a transport without an order in the Transfer Unit or Locate Unit is complete (R31, R37). -/
theorem State.arriveAt_emergency {W : State} (hk : (s.tr t).drive.stopKind = .emergency)
    (hm : (s.tr t).drive.mode ≠ .unthread) (ht : (s.tr t).drive.mode ≠ .thread)
    (hW : (s.setTr t { s.tr t with drive := ((s.tr t).drive.rested (s.tr t).sense).watch }).emergencyComplete t = W)
    (hu : (W.tr t).Unused) (off : Option Int) :
    s.arriveAt t off = W.setTr t { W.tr t with reck := (W.tr t).reck.standstill } := by
  simp only [State.arriveAt, State.modTr_setTr, Drive.arrival, Drive.rest_eq _ hm ht, hk, State.stopComplete, hW,
    State.restReported_unused hu]
  rw [State.requesterStandstill_unused (by simpa using hu), State.takeRewound_none (by simpa using hu.noRewound)]
  rfl

end

end Sys2Proof.Machine
end

section
/-! PROOF. The Transfer Unit ends its order, and the tape comes to rest under it (R154, R159, R168, 9.9). -/
namespace Sys2Proof.Machine

section
variable {s z : State} {t : Tr} {x : Transport} {r : OrderResult} {c : Condition}

/-- What a command of one transport leaves that ends the order in flight, after it has made `z` of the state (R141). -/
theorem State.ended_from (hb : z.beyond t = s.beyond t) (hp : z.power = s.power) (hz : (z.tr t).EndsFrom (s.tr t))
    (hc : r.count ≤ 65535) (hm : r.markBlock = none) :
    let y := z.endOrder t r
    let s' := (y.refresh t).finish
    (y.tr t).Settled ∧ s.OnlyAt s' t ∧ s'.exchange = z.exchange ∧ s'.store = z.store ∧
      s'.arb = { z.arb with control := z.arb.control.set t (s'.arb.control.get t) } ∧
      s'.tr t = Transport.refresh { z.tr t with
        port := { (z.tr t).port with pointer := .terminating, result := (s'.tr t).port.result } } ∧
      s.Terminates s' t r.condition r.count r.value (z.tr t).port.indicators := by
  obtain ⟨hrep, hset, hi⟩ := hz
  have hend := State.endOrder_reporting hrep hc
  have hheld := hrep.2.1
  refine ⟨?_, State.onlyAt_finish (by simpa using hb) (by simpa [hend] using hp), ?_, ?_, ?_, ?_,
    State.terminates_of hrep hi hc hm (by simp) (by simp)⟩
  all_goals simp only [hend, Transport.ended]
  · simpa using hset.congr
  · simp
  · simp
  · simp
  · simp [Transport.refresh, hheld]

/-- A command of one transport that makes `z` of the state and ends the order in flight (R141). -/
theorem exec_ended {i : Instr} {f : State → State} (hi : exec i s = runTr t s f) (hpow : s.powered = true)
    (hf : f s = z.endOrder t r) (hb : z.beyond t = s.beyond t) (hp : z.power = s.power)
    (hz : (z.tr t).EndsFrom (s.tr t)) (hc : r.count ≤ 65535) (hm : r.markBlock = none) :
    ∃ s', exec i s = .next s' ∧ s.OnlyAt s' t ∧ s'.exchange = z.exchange ∧ s'.store = z.store ∧
      s'.arb = { z.arb with control := z.arb.control.set t (s'.arb.control.get t) } ∧
      s'.tr t = Transport.refresh { z.tr t with
        port := { (z.tr t).port with pointer := .terminating, result := (s'.tr t).port.result } } ∧
      s.Terminates s' t r.condition r.count r.value (z.tr t).port.indicators := by
  obtain ⟨hset, h⟩ := State.ended_from hb hp hz hc hm
  exact ⟨_, exec_next hi hpow hf hset, h⟩

/-- The record of a transport whose Transfer Unit has just ended its order, before the termination (R154, R168, 9.9). -/
def Transport.transferOver (x : Transport) : Transport :=
  { x with
    xfer := .idle, chan := x.chan.leaveTransfer x.xfer.order,
    port := { x.port.released with indicators := x.port.indicators ||| x.xfer.own } }

/-- The order in flight ends, and no emergency stop under way holds its termination back. -/
def Transport.MayEnd (x : Transport) : Prop :=
  x.port.pointer = .inFlight ∧ x.port.held = none ∧ x.ctl.offlinePending = false ∧
    (x.port.stopNotice = true → x.ctl.stopUnderWay = false)

/-- The end of an order that an emergency stop may have met, as the end of one that none has met (R143). -/
theorem State.endOrder_noticed (h : (s.tr t).MayEnd) (hc : r.count ≤ 65535) (hm : r.markBlock = none) :
    s.endOrder t r = (s.setTr t { s.tr t with port := (s.tr t).port.released }).endOrder t (r.noticed (s.tr t).port) := by
  obtain ⟨hp, hheld, ho, hn⟩ := h
  have hform : s.endOrder t r = s.formTermination t r := by
    simp only [State.endOrder, Port.inFlight, hp, hheld]
    cases hn' : (s.tr t).port.stopNotice
    · simp
    · simp [hn hn']
  rw [hform, State.formTermination_released hp ho hc (.inr hm)]

theorem State.withdrawData_requestControl (s : State) (t : Tr) (b : BusTransfer) :
    (s.requestControl t b).withdrawData t = (s.withdrawData t).requestControl t b := by
  obtain ⟨⟩ := s
  simp only [State.withdrawData, State.requestControl, Arbiter.orphanCurrent]
  split
  · split <;> rfl
  · rfl

/-- The end of a Transfer Unit's order is the end of the order once the unit has returned to IDLE (R154). -/
theorem State.xferEnd_eq (h : (s.tr t).MayEnd) (hc : transferCount (s.tr t) ≤ 65535) :
    s.xferEnd t c = ((s.withdrawData t).setTr t (s.tr t).transferOver).endOrder t
      { condition := faultStopCondition (s.tr t).port c, count := transferCount (s.tr t),
        value := signedLong (lastBlockStart (s.tr t).reck), markBlock := none } := by
  obtain ⟨hp, hheld, ho, hn⟩ := h
  have hind : s.modPort t (fun p =>
      if p.pointer = .inFlight then { p with indicators := p.indicators ||| (s.tr t).xfer.own } else p) =
      s.setTr t { s.tr t with port := { (s.tr t).port with indicators := (s.tr t).port.indicators ||| (s.tr t).xfer.own } } := by
    simp [hp]
  simp only [State.xferEnd, hind]
  rw [State.endOrder_noticed (by rw [State.tr_setTr_same]; exact ⟨hp, hheld, ho, hn⟩) hc rfl]
  simp only [State.tr_setTr_same, State.setTr_setTr]
  rw [State.endOrder_reporting (by rw [State.tr_setTr_same]; exact ⟨hp, rfl, rfl, ho⟩) hc,
    State.endOrder_reporting (by rw [State.tr_setTr_same]; exact ⟨hp, rfl, rfl, ho⟩) hc]
  rw [terminationTransfer_short (.inr rfl), terminationTransfer_short (.inr rfl)]
  simp only [State.tr_setTr_same, State.setTr_setTr, State.xferIdle, State.modTr_setTr, State.setTr_freeIndex,
    State.withdrawData_freeIndex, State.withdrawData_requestControl, State.setTr_requestControl, State.setTr_withdrawData,
    State.tr_requestControl, State.tr_withdrawData]
  rfl

/-! ### A READ in ENDING whose tape comes to rest (R77, R159, R168) -/

theorem State.xferTest_quiet (h : (s.tr t).xfer.quiet = true) : s.xferTest t = s := by
  have hw : (s.tr t).wantsBurst = none := by simp [Transport.wantsBurst, h]
  simp [State.xferTest, hw]

/-- The result bytes of a READ whose handing a standstill cuts off: those delivered when it began (log 78). -/
def Transport.cutResult (x : Transport) (noTransfer : Bool) : Nat :=
  if x.chan.handOver = .handing ∧ noTransfer = false then x.xfer.mark.2.1 else x.xfer.resultBytes

/-- The state with the Arbiter replaced. -/
def State.setArb (s : State) (a : Arbiter) : State := { s with arb := a }

@[simp] theorem State.tr_setArb (s : State) (a : Arbiter) (u : Tr) : (s.setArb a).tr u = s.tr u := rfl
@[simp] theorem State.setArb_arb (s : State) (a : Arbiter) : (s.setArb a).arb = a := rfl
@[simp] theorem State.setArb_self (s : State) : s.setArb s.arb = s := rfl
@[simp] theorem State.setArb_store (s : State) (a : Arbiter) : (s.setArb a).store = s.store := rfl
@[simp] theorem State.setArb_exchange (s : State) (a : Arbiter) : (s.setArb a).exchange = s.exchange := rfl
@[simp] theorem State.setArb_power (s : State) (a : Arbiter) : (s.setArb a).power = s.power := rfl
@[simp] theorem State.setArb_beyond (s : State) (a : Arbiter) : (s.setArb a).beyond t = s.beyond t := rfl
@[simp] theorem State.setTr_setArb (s : State) (a : Arbiter) (u : Tr) (x : Transport) :
    (s.setArb a).setTr u x = (s.setTr u x).setArb a := rfl

theorem State.setArb_withdrawData (s : State) (a : Arbiter) (t : Tr) :
    (s.setArb a).withdrawData t = s.setArb ({ a with data := a.data.set t none }.orphanCurrent t true) := rfl

/-- What the loss of a handing at a standstill leaves of a READ in ENDING (R159). -/
theorem State.handingLostIf_ending {noTransfer : Bool} (ho : (s.tr t).xfer.order = .read noTransfer)
    (hp : (s.tr t).xfer.phase = .ending) (hq : (s.tr t).xfer.quiet = true) (b : Bool) :
    ∃ a h w, s.handingLostIf t b = (s.setTr t { s.tr t with
        chan := { (s.tr t).chan with handOver := h }, xfer := w }).setArb a ∧
      a.control = s.arb.control ∧ w.order = .read noTransfer ∧ w.phase = .ending ∧ w.own = (s.tr t).xfer.own ∧
      w.resultBytes = if b = true ∧ noTransfer = false then (s.tr t).xfer.mark.2.1 else (s.tr t).xfer.resultBytes := by
  have hsame : ∃ a h w, s = (s.setTr t { s.tr t with
        chan := { (s.tr t).chan with handOver := h }, xfer := w }).setArb a ∧
      a.control = s.arb.control ∧ w.order = .read noTransfer ∧ w.phase = .ending ∧ w.own = (s.tr t).xfer.own ∧
      w.resultBytes = (s.tr t).xfer.resultBytes :=
    ⟨s.arb, (s.tr t).chan.handOver, (s.tr t).xfer, (State.setTr_tr s t).symm, rfl, ho, hp, rfl, rfl⟩
  cases b
  · simpa [State.handingLostIf] using hsame
  cases noTransfer
  · refine ⟨s.arb.giveBack t (s.tr t).xfer, .asked, (s.tr t).xfer.giveBack, ?_, rfl, ho, hp, rfl, by simp⟩
    simp only [State.handingLostIf, State.xferHandingLost, ho, hp, if_true, State.xferGiveBack]
    refine State.xferTest_quiet ?_
    rw [State.modTr_setTr, State.tr_setTr_same]
    exact hq
  · simpa [State.handingLostIf, State.xferHandingLost, ho] using hsame

theorem Channel.stopWriting_none {c : Channel} (h : c.formation = none) :
    c.stopWriting = ({ c.setActivity .listen with formation := none }, none) := by
  simp [Channel.stopWriting, h]

theorem State.chanStops_ending {noTransfer : Bool} (ho : (s.tr t).xfer.order = .read noTransfer)
    (hp : (s.tr t).xfer.phase = .ending) (hq : (s.tr t).xfer.quiet = true) (hf : (s.tr t).chan.formation = none) :
    ∃ a c w, s.chanStops t = (s.setTr t { s.tr t with chan := c, xfer := w }).setArb a ∧
      a.control = s.arb.control ∧ c.record = none ∧ c.phase = .hunt ∧ w.order = .read noTransfer ∧ w.phase = .ending ∧
      w.own = (s.tr t).xfer.own ∧ w.resultBytes = (s.tr t).cutResult noTransfer := by
  obtain ⟨a, h, w, heq, ha, hwo, hwp, hown, hres⟩ := State.handingLostIf_ending (s := s.setTr t { s.tr t with
    chan := (s.tr t).chan.discard.1 }) (t := t) (by simpa using ho) (by simpa using hp) (by simpa using hq) (s.tr t).chan.discard.2
  simp only [State.tr_setTr_same, State.setTr_setTr] at heq hown hres
  have hskip : (Transport.skipOver { s.tr t with chan := { (s.tr t).chan.discard.1 with handOver := h }, xfer := w }) =
      { s.tr t with chan := { (s.tr t).chan.discard.1 with handOver := h }, xfer := { w with skipFirst := false } } := by
    simp [Transport.skipOver, Channel.discard, Channel.toHunt]
  have hform : ({ (s.tr t).chan.discard.1 with handOver := h } : Channel).formation = none := hf
  refine ⟨a, ({ (s.tr t).chan.discard.1 with handOver := h } : Channel).stopWriting.1, { w with skipFirst := false }, ?_,
    ha, ?_, ?_, hwo, hwp, hown, ?_⟩
  · simp only [State.chanStops, State.discardRecord, State.modChan_setTr, heq, State.modTr_setTr, State.tr_setArb,
      State.tr_setTr_same, State.setTr_setArb, State.setTr_setTr, hskip, Channel.stopWriting_none hform,
      State.deliverWrittenIf]
  · rw [Channel.stopWriting_none hform]
    rfl
  · rw [Channel.stopWriting_none hform]
    rfl
  · simp [hres, Transport.cutResult, Channel.discard]

theorem Arbiter.orphanCurrent_control (a : Arbiter) (t : Tr) (b : Bool) : (a.orphanCurrent t b).control = a.control := by
  unfold Arbiter.orphanCurrent
  split
  · split <;> rfl
  · rfl

/-- The record of a transport whose READ a stop has just ended at the standstill, the channel left so, before the
termination (R154, R168). -/
def Transport.readStopped (x : Transport) (k : Channel) : Transport :=
  { x with
    reck := x.reck.standstill, chan := k, xfer := .idle,
    port := { x.port.released with indicators := x.port.indicators ||| x.xfer.own } }

/-- The result of a READ that a stop has ended (R168, 9.9). -/
def Transport.readResult (x : Transport) (noTransfer : Bool) (c : Condition) : OrderResult :=
  { condition := faultStopCondition x.port c, count := x.cutResult noTransfer,
    value := signedLong (lastBlockStart x.reck), markBlock := none }

/-- The standstill of an emergency or power stop ends a READ in ENDING (R168). -/
theorem State.restReported_read {noTransfer : Bool} (h : (s.tr t).MayEnd) (ho : (s.tr t).xfer.order = .read noTransfer)
    (hp : (s.tr t).xfer.phase = .ending) (hq : (s.tr t).xfer.quiet = true) (hf : (s.tr t).chan.formation = none)
    (hn : (s.tr t).cutResult noTransfer ≤ 65535) (c : Condition) :
    ∃ a k, (s.restReported t).xferEnd t c = ((s.setTr t ((s.tr t).readStopped k)).setArb a).endOrder t
          ((s.tr t).readResult noTransfer c) ∧
      a.control = s.arb.control ∧ k.record = none ∧ k.phase = .hunt ∧ k.handOver = .off := by
  obtain ⟨a, k, w, heq, ha, hrec, hph, hwo, hwp, hown, hres⟩ := State.chanStops_ending (s := s.setTr t { s.tr t with
    reck := (s.tr t).reck.standstill }) (t := t) (by simpa using ho) (by simpa using hp) (by simpa using hq) (by simpa using hf)
  simp only [State.tr_setTr_same, State.setTr_setTr] at heq hown hres
  have hres : w.resultBytes = (s.tr t).cutResult noTransfer := hres
  have hcount : ∀ y : Transport, y.xfer = w → transferCount y = (s.tr t).cutResult noTransfer := fun y hy => by
    simp [transferCount, hy, hwo, hres]
  refine ⟨{ a with data := a.data.set t none }.orphanCurrent t true, k.leaveTransfer w.order, ?_, ?_, ?_, ?_, rfl⟩
  · rw [State.restReported, State.modTr_setTr, heq, State.xferEnd_eq (by simpa [Transport.MayEnd] using h)
      (by rw [hcount _ (by simp)]; exact hn)]
    simp only [State.tr_setArb, State.tr_setTr_same]
    rw [hcount _ rfl]
    simp only [State.setArb_withdrawData, State.setTr_setArb, State.setTr_setTr, Transport.transferOver, hown]
    rfl
  · rw [Arbiter.orphanCurrent_control]
    exact ha
  · simpa [Channel.leaveTransfer, Channel.watchOff] using hrec
  · simpa [Channel.leaveTransfer, Channel.watchOff] using hph

/-! ### The capstan comes to rest (R28, R29, R31, R37) -/

theorem State.heldUnlessGood_beyond (s : State) (t : Tr) : (s.heldUnlessGood t).beyond t = s.beyond t := by
  unfold State.heldUnlessGood; split <;> simp

/-- The record of a transport whose Drive Unit has come to rest (R37). -/
def Transport.driveRested (x : Transport) : Transport := { x with drive := (x.drive.rested x.sense).watch }

theorem Transport.driveRested_refresh (x : Transport) :
    x.driveRested.refresh = Transport.refresh { x with drive := x.drive.rested x.sense } :=
  Transport.refresh_of_watch rfl

/-- What a standstill does at the requester of a READ in ENDING (R168). -/
theorem State.restReported_ends {noTransfer : Bool} {a : Arrival} (hr : (s.tr t).drive.requester = .transfer)
    (ho : (s.tr t).xfer.order = .read noTransfer) (hp : (s.tr t).xfer.phase = .ending) (hq : (s.tr t).xfer.quiet = true)
    (hf : (s.tr t).chan.formation = none) (ha : a.kind = .emergency ∧ c = .faultStop ∨ a.kind = .power ∧ c = .powerStop) :
    (s.restReported t).requesterStandstill t a = (s.restReported t).xferEnd t c := by
  obtain ⟨_, _, w, heq, -, -, -, -, hwp, -⟩ := State.chanStops_ending (s := s.setTr t { s.tr t with
    reck := (s.tr t).reck.standstill }) (t := t) (by simpa using ho) (by simpa using hp) (by simpa using hq) (by simpa using hf)
  have hreq : ((s.restReported t).tr t).drive.requester = .transfer := by
    rw [State.restReported, State.modTr_setTr, heq, State.tr_setArb, State.tr_setTr_same, State.tr_setTr_same]
    exact hr
  have hph : ((s.restReported t).tr t).xfer.phase = .ending := by
    rw [State.restReported, State.modTr_setTr, heq, State.tr_setArb, State.tr_setTr_same]
    exact hwp
  simp only [State.requesterStandstill, hreq, State.xferStandstill, hph]
  rcases ha with ⟨hk, rfl⟩ | ⟨hk, rfl⟩ <;> simp [hk]

theorem Drive.arrival_kind (d : Drive) (off : Option Int) : (d.arrival off).kind = d.stopKind := rfl

/-- The arrival of a READ in ENDING at standstill, after an emergency or power stop (R37, R168). -/
theorem State.arriveAt_read {Z : State} {noTransfer : Bool} (hm : (s.tr t).drive.mode ≠ .unthread)
    (ht : (s.tr t).drive.mode ≠ .thread)
    (hk : (s.tr t).drive.stopKind = .emergency ∧ c = .faultStop ∨ (s.tr t).drive.stopKind = .power ∧ c = .powerStop)
    (hZ : (s.setTr t (s.tr t).driveRested).stopComplete t (s.tr t).drive.stopKind = Z) (h : (Z.tr t).MayEnd)
    (hl : (Z.tr t).loc = Locate.idle) (hr : (Z.tr t).drive.requester = .transfer)
    (ho : (Z.tr t).xfer.order = .read noTransfer) (hp : (Z.tr t).xfer.phase = .ending)
    (hq : (Z.tr t).xfer.quiet = true) (hf : (Z.tr t).chan.formation = none) (hn : (Z.tr t).cutResult noTransfer ≤ 65535)
    (hrel : Z.power.pwarn.level = true ∨ Z.power.released.get t = true) (off : Option Int) :
    ∃ a k, s.arriveAt t off = ((Z.setTr t ((Z.tr t).readStopped k)).setArb a).endOrder t
          ((Z.tr t).readResult noTransfer c) ∧
      a.control = Z.arb.control ∧ k.record = none ∧ k.phase = .hunt ∧ k.handOver = .off := by
  obtain ⟨a, k, heq, hrest⟩ := State.restReported_read h ho hp hq hf hn c
  refine ⟨a, k, ?_, hrest⟩
  rw [← heq]
  have harr : ∀ z : State, (s.modTr t fun x => { x with drive := (x.drive.brakeLostLoops x.sense).rest }) = z →
      z = s.setTr t (s.tr t).driveRested := fun z hz => by
    rw [← hz, State.modTr_setTr, Drive.rest_eq _ hm ht]
    rfl
  have hreq := State.restReported_ends (a := (s.tr t).drive.arrival off) hr ho hp hq hf hk
  obtain ⟨_, _, _, hframe⟩ := State.endOrder_frame ((Z.setTr t ((Z.tr t).readStopped k)).setArb a) t
          ((Z.tr t).readResult noTransfer c)
  rw [← heq] at hframe
  have hrew : ((Z.restReported t).xferEnd t c).takeRewound t = (Z.restReported t).xferEnd t c :=
    State.takeRewound_none (by
      rw [hframe, State.tr_setArb, State.tr_setTr_same]
      exact congrArg Locate.rewindOutcome hl)
  have hpow : ((Z.restReported t).xferEnd t c).power = Z.power := by
    rw [heq, State.endOrder_reporting (by
      rw [State.tr_setArb, State.tr_setTr_same]
      exact ⟨h.1, rfl, rfl, h.2.2.1⟩) hn]
    rfl
  have hlate : ((Z.restReported t).xferEnd t c).lateRelease t = (Z.restReported t).xferEnd t c := by
    rcases hrel with hrel | hrel <;> simp [State.lateRelease, hpow, hrel]
  simp only [State.arriveAt, Drive.arrival_kind, harr _ rfl, hZ, hreq]
  rcases hk with ⟨hk, rfl⟩ | ⟨hk, rfl⟩ <;> simp [hk, hrew, hlate]

/-- The record of a transport whose emergency stop is complete, with Position Reckoning told of the standstill (R31, R37). -/
def Transport.faultedAtRest (x : Transport) : Transport :=
  { x.driveRested.faulted with reck := x.driveRested.faulted.reck.standstill }

theorem Transport.faultedAtRest_settled {x : Transport} (h : x.drive.pending = none) : x.faultedAtRest.Settled :=
  .of_rest (by simp [Transport.faultedAtRest, Transport.faulted, Transport.driveRested, Drive.rested])
    (by simp [Transport.faultedAtRest, Transport.faulted])
    (by simpa [Transport.faultedAtRest, Transport.faulted, Transport.driveRested, Drive.rested] using h)

/-- An emergency stop complete at Transport Control, before the Order Port has been told (R31). -/
theorem State.emergencyComplete_rested (hw : (s.tr t).ctl.stopUnderWay = true) (hl : (s.tr t).ctl.loading = false)
    (hn : (s.tr t).loc.order ≠ .locateMark ∧ (s.tr t).loc.order ≠ .locateBlock) (ho : (s.tr t).hasOrder 2 = false) :
    (s.setTr t (s.tr t).driveRested).emergencyComplete t =
      ((s.setTr t (s.tr t).driveRested.faulted).heldUnlessGood t).releaseHeld t := by
  rw [State.emergencyComplete_eq (by rw [State.tr_setTr_same]; exact hw) (by rw [State.tr_setTr_same]; exact hl)
    (by rw [State.tr_setTr_same]; exact hn), State.tr_setTr_same, State.setTr_setTr, State.endUnload_other]
  rw [State.tr_heldUnlessGood, State.tr_setTr_same]
  exact ho

/-- Settles O46. -/
theorem capstanStandstill : Obligations.CapstanStandstill := by
  intro s t hp hphase hshuttle hmode hpend heng
  have hdo : capstanStandstillOf t s = s.arrive t := by simp [capstanStandstillOf, hphase]
  refine ⟨fun hu hk hstate hstop hpath => ?_, fun hu hk hstate hstop hpath => ?_, fun hu hk hstate hstop hend hord hrel => ?_,
    fun hu hend hord hheld hstop hk hstate hperm => ?_,
    fun r hu hend hptr hheld hnotice hoff hc hstop hk hstate hperm => ?_, ?_⟩
  · refine exec_becomes_shown (exec_capstanStandstill t s) hp ?_ (Transport.readyAtRest_settled hpend) ?_
    · rw [hdo, State.arrive, State.arriveAt_unused hu (.inl hk) (by simp [hmode]) (by simp [hmode]),
        State.standstill_inMotion heng hstate hstop]
      exact State.takeRewound_none (by simpa [Transport.readyAtRest] using hu.noRewound)
    · exact Transport.readyAtRest_refresh hstop
  · refine exec_becomes_shown (y := Transport.readyAtRest { s.tr t with
        ctl := { (s.tr t).ctl with stopByClear := false },
        port := { (s.tr t).port with
          attention := if (s.tr t).ctl.stopByClear = true ∧ (s.tr t).port.pointer ≠ .inFlight
            then (s.tr t).port.attention ||| 16#5 else (s.tr t).port.attention } }) (f := capstanStandstillOf t)
      (exec_capstanStandstill t s) hp ?_ (Transport.readyAtRest_settled hpend) ?_
    · rw [hdo, State.arrive, State.arriveAt_unused hu (.inr hk) (by simp [hmode]) (by simp [hmode]),
        State.standstill_stopping heng hstate hstop]
      exact State.takeRewound_none (by simpa [Transport.readyAtRest] using hu.noRewound)
    · exact Transport.readyAtRest_refresh hstop
  · refine exec_becomes_shown (exec_capstanStandstill t s) hp (hdo.trans
      (State.arriveAt_power hu hk (by simp [hmode]) (by simp [hmode]) hord hrel none)) ?_ (s.tr t).atStandstill_refresh
    exact .of_rest (by simp [Transport.atStandstill, Drive.rested]) (by simp [Transport.atStandstill, hstate])
      (by simpa [Transport.atStandstill, Drive.rested] using hpend)
  · have hload : (s.tr t).ctl.loading = false := by
      rcases hstate with h | h | h <;> simp [Control.loading, h]
    have hdone := State.emergencyComplete_rested hstop hload hu.noLocate hord
    rw [State.releaseHeld_none (by rw [State.tr_heldUnlessGood, State.tr_setTr_same]; exact hheld)] at hdone
    have harrive := State.arriveAt_emergency hk (by simp [hmode]) (by simp [hmode]) hdone
      (by rw [State.tr_heldUnlessGood, State.tr_setTr_same]; exact hu) none
    rw [State.tr_heldUnlessGood, State.tr_setTr_same] at harrive
    refine ⟨_, exec_next (exec_capstanStandstill t s) hp (hdo.trans harrive)
      (by rw [State.tr_setTr_same]; exact Transport.faultedAtRest_settled hpend), ?_, ?_, ?_, ?_, ?_, ?_⟩
    · exact State.onlyAt_finish (by simp [State.heldUnlessGood_beyond]) (by simp)
    · simp
    · simp
    · rw [State.finish_reel, State.refresh_reel, State.reel_setTr, State.heldUnlessGood_reel, State.reel_setTr,
        State.tr_setTr_same]
      rfl
    · simp [State.heldUnlessGood_poolFree]
    · rw [State.finish_tr, State.tr_refresh_same, State.tr_setTr_same]
      exact Transport.refresh_of_watch rfl
  · have hload : (s.tr t).ctl.loading = false := by
      rcases hstate with h | h | h <;> simp [Control.loading, h]
    have hord : (s.tr t).hasOrder 2 = false := by simp [Transport.hasOrder, hheld]
    have hz : ((s.setTr t (s.tr t).driveRested.faulted).heldUnlessGood t).tr t = (s.tr t).driveRested.faulted := by simp
    have hdone := State.emergencyComplete_rested hstop hload hu.noLocate hord
    rw [State.releaseHeld_noticed (by rw [hz]; exact hptr) (by rw [hz]; exact hheld) (by rw [hz]; exact hnotice)
      (by rw [hz]; exact hoff) hc, hz] at hdone
    have hrep : Transport.Reporting { (s.tr t).driveRested.faulted with port := (s.tr t).port.released } := ⟨hptr, rfl, rfl, hoff⟩
    have hcount : (r.noticed (s.tr t).port).count ≤ 65535 := hc
    have harrive := State.arriveAt_emergency hk (by simp [hmode]) (by simp [hmode]) hdone (by
      obtain ⟨_, _, _, hframe⟩ := State.endOrder_frame (((s.setTr t (s.tr t).driveRested.faulted).heldUnlessGood t).setTr t
        { (s.tr t).driveRested.faulted with port := (s.tr t).port.released }) t (r.noticed (s.tr t).port)
      refine (congrArg Transport.Unused hframe).mpr ?_
      rw [State.tr_setTr_same]
      exact hu) none
    have hrest := (hdo.trans harrive).trans
      (State.endOrder_standstill (r := r.noticed (s.tr t).port) (by rw [State.tr_setTr_same]; exact hrep) hcount)
    rw [State.tr_setTr_same, State.setTr_setTr] at hrest
    obtain ⟨s', hexec, honly, hexch, hstore, harb, htr, hterm⟩ := exec_ended (exec_capstanStandstill t s) hp hrest
      (z := ((s.setTr t (s.tr t).driveRested.faulted).heldUnlessGood t).setTr t
        { (s.tr t).faultedAtRest with port := (s.tr t).port.released }) (r := r.noticed (s.tr t).port)
      (by simp [State.heldUnlessGood_beyond]) (by simp)
      (by rw [State.tr_setTr_same]; exact ⟨hrep, (Transport.faultedAtRest_settled hpend).congr, rfl⟩) hcount rfl
    rw [State.tr_setTr_same] at htr hterm
    refine ⟨s', hexec, honly, ?_, ?_, ?_, ?_, ?_, ?_⟩
    · exact hexch.trans (by simp)
    · refine (congrArg (fun m : MapStore => m.reels.get t) hstore).trans ?_
      refine (State.heldUnlessGood_reel _ t).trans ?_
      rw [State.reel_setTr, State.tr_setTr_same]
      rfl
    · exact (congrArg MapStore.poolFree hstore).trans (State.heldUnlessGood_poolFree _ t)
    · rw [State.setTr_arb, State.heldUnlessGood_arb, State.setTr_arb] at harb
      exact harb
    · exact htr.trans (Transport.refresh_of_watch rfl)
    · have hcond : (r.noticed (s.tr t).port).condition = _ := faultStopCondition_noticed hnotice r.condition
      rw [hcond] at hterm
      exact hterm
  · intro noTransfer c n hloc hform hquiet hn hreq horder hphase' hn' hend hptr hheld hoff hcopy hrel hcase
    have hord : (s.tr t).hasOrder 2 = false := by
      cases hc : (s.tr t).port.copy <;> simp_all [Transport.hasOrder]
    have hcase' : ((s.tr t).drive.stopKind = .emergency ∧ c = .faultStop ∨ (s.tr t).drive.stopKind = .power ∧ c = .powerStop) ∧
        ∃ Z, (s.setTr t (s.tr t).driveRested).stopComplete t (s.tr t).drive.stopKind = Z ∧
        Z.tr t = (if c = .faultStop then (s.tr t).driveRested.faulted else (s.tr t).driveRested) ∧
        (Z.tr t).MayEnd ∧ (Z.tr t).ctl.state ≠ .unloading ∧ faultStopCondition (s.tr t).port c = c ∧
        Z.beyond t = s.beyond t ∧ Z.power = s.power ∧ Z.exchange = s.exchange ∧
        Z.reel t = (if c = .faultStop ∧ (s.reel t).state = .active ∧ (s.tr t).sense.pathGood = false
          then { s.reel t with state := .held } else s.reel t) ∧ Z.store.poolFree = s.store.poolFree := by
      rcases hcase with ⟨hk, hstop, hstate, hperm, hnotice, rfl⟩ | ⟨hk, hstop, hstate, hnotice, rfl⟩
      · refine ⟨.inl ⟨hk, rfl⟩, (s.setTr t (s.tr t).driveRested.faulted).heldUnlessGood t, ?_, by simp, ?_, ?_, ?_, ?_,
          by simp, by simp, ?_, by simp [State.heldUnlessGood_poolFree]⟩
        · rw [hk, State.stopComplete, State.emergencyComplete_rested hstop (by simp [Control.loading, hstate])
            (by simp [hloc, Locate.idle]) hord, State.releaseHeld_none]
          rw [State.tr_heldUnlessGood, State.tr_setTr_same]
          exact hheld
        · rw [State.tr_heldUnlessGood, State.tr_setTr_same]
          exact ⟨hptr, hheld, hoff, fun _ => rfl⟩
        · simp [Transport.faulted]
        · rw [faultStopCondition_noticed hnotice]
          rfl
        · simp [State.heldUnlessGood_beyond]
        · refine (State.heldUnlessGood_reel _ t).trans ?_
          rw [State.reel_setTr, State.tr_setTr_same]
          simp only [true_and]
          rfl
      · refine ⟨.inr ⟨hk, rfl⟩, s.setTr t (s.tr t).driveRested, ?_, by simp, ?_, ?_, ?_, by simp, rfl, rfl, by simp, rfl⟩
        · rw [hk, State.stopComplete, State.endUnload_other]
          rw [State.tr_setTr_same]
          exact hord
        · rw [State.tr_setTr_same]
          exact ⟨hptr, hheld, hoff, fun _ => hstop⟩
        · simp [Transport.driveRested, hstate]
        · simp [faultStopCondition, hnotice]
    obtain ⟨hk, Z, hZ, hZt, hmay, hstate, hcond, hb, hpow, hexch, hreel, hpool⟩ := hcase'
    obtain ⟨hx, hch, hpt, hlc, hdr⟩ : (Z.tr t).xfer = (s.tr t).xfer ∧ (Z.tr t).chan = (s.tr t).chan ∧
        (Z.tr t).port = (s.tr t).port ∧ (Z.tr t).loc = (s.tr t).loc ∧ (Z.tr t).drive = (s.tr t).driveRested.drive := by
      rw [hZt]
      split <;> exact ⟨rfl, rfl, rfl, rfl, rfl⟩
    have hcut : (Z.tr t).cutResult noTransfer = n := by
      rw [hn, Transport.cutResult, hx, hch]
    obtain ⟨a, k, harrive, -, hrec, hph, hov⟩ := State.arriveAt_read (Z := Z) (noTransfer := noTransfer) (by simp [hmode])
      (by simp [hmode]) hk hZ hmay (hlc.trans hloc) (by rw [hdr]; exact (Drive.watch_requester _).trans hreq)
      (by rw [hx]; exact horder) (by rw [hx]; exact hphase') (by rw [hx]; exact hquiet) (by rw [hch]; exact hform)
      (by rw [hcut]; exact hn') (by rw [hpow]; exact hrel) none
    have hres : (Z.tr t).readResult noTransfer c =
        { condition := c, count := n, value := signedLong (lastBlockStart (Z.tr t).reck), markBlock := none } := by
      rw [Transport.readResult, hcut, hpt, hcond]
    have hset : Transport.Settled ((Z.tr t).readStopped k) := by
      refine .of_rest ?_ hstate ?_
      · rw [Transport.readStopped, hdr]
        exact Drive.watch_stopKind _
      · rw [Transport.readStopped, hdr]
        exact (Drive.watch_pending _).trans hpend
    obtain ⟨s', hexec, honly, hexch', hstore, -, htr, hterm⟩ := exec_ended (exec_capstanStandstill t s) hp
      (hdo.trans harrive) (by simp [hb]) (by simp [hpow])
      (by
        rw [State.tr_setArb, State.tr_setTr_same]
        exact ⟨⟨hmay.1, rfl, rfl, hmay.2.2.1⟩, hset, by rw [Transport.readStopped, hpt]; rfl⟩) (by rw [hres]; exact hn') rfl
    rw [State.tr_setArb, State.tr_setTr_same] at htr hterm
    have hchan : (s'.tr t).chan = k := congrArg Transport.chan htr
    have hreck : (s'.tr t).reck = (Z.tr t).reck.standstill := congrArg Transport.reck htr
    refine ⟨s', hexec, honly, hexch'.trans hexch, ?_, (congrArg MapStore.poolFree hstore).trans hpool, ?_, by rw [hchan, hrec],
      by rw [hchan, hph], by rw [hchan, hov], ?_⟩
    · exact (congrArg (fun m : MapStore => m.reels.get t) hstore).trans hreel
    · rw [Transport.readStopped, hpt, hx] at htr
      refine htr.trans ?_
      rw [hchan, hZt]
      rcases hk with ⟨-, rfl⟩ | ⟨-, rfl⟩
      · refine (Transport.refresh_of_watch rfl).trans ?_
        simp only [reduceCtorEq, false_or, if_true]
        rfl
      · refine (Transport.refresh_of_watch rfl).trans ?_
        simp only [reduceCtorEq, true_or, if_true, if_false]
        rfl
    · rw [hres] at hterm
      rw [hreck]
      simp only [Transport.readStopped, hpt, hx] at hterm
      exact hterm

end

end Sys2Proof.Machine
end

section
/-! PROOF. Motions that begin from standstill, and the shuttle's phases (R28, R40, R50, R51, R121, R130). -/
namespace Sys2Proof.Machine

section
variable {s : State} {t : Tr} {x y : Transport}

/-! ### A pending request begins (R40, R57) -/

/-- A RUN request waits at standstill under permission FULL in READY, so that its motion begins by itself (R28, R40). -/
structure Transport.Poised (x : Transport) (who : Requester) (dir : Dir) (speed : RunSpeed) (target : Option Int) : Prop where
  rest : x.drive.atRest = true
  kind : x.drive.stopKind = .none
  pending : x.drive.pending = some (.run dir speed target who)
  state : x.ctl.state = .ready
  permission : x.ctl.permission = .full
  stop : x.ctl.stopUnderWay = false
  path : x.sense.pathGood = true

theorem State.settleOnce_poised {who : Requester} {dir : Dir} {speed : RunSpeed} {target : Option Int}
    (h : (s.tr t).Poised who dir speed target) :
    s.settleOnce t = some (s.setTr t ((s.tr t).started who dir ((s.tr t).drive.active.speed speed) target)) := by
  obtain ⟨hrest, hkind, hpend, hstate, hperm, hstop, hpath⟩ := h
  have hrun : neededPermission (.run dir speed target who) = .full := rfl
  simp only [State.settleOnce, hrest, hkind, hpend, hstate, hperm, hrun, hpath]
  simp [State.beginPending, State.motionBegun, hstate, State.enter, Control.enter, pumpOf, permissionOf, hstop,
    Transport.started, Drive.beginCapstan]

theorem Transport.started_settled (x : Transport) (who : Requester) (dir : Dir) (speed : Nat) (target : Option Int) :
    (x.started who dir speed target).Settled :=
  .of_moving (Drive.atRest_of_phase (by simp [Transport.started]))

/-- The motion of a waiting RUN request begins, and nothing else comes about by itself. -/
theorem State.settled_poised {who : Requester} {dir : Dir} {speed : RunSpeed} {target : Option Int}
    (h : (s.tr t).Poised who dir speed target) :
    s.settled t = s.setTr t ((s.tr t).started who dir ((s.tr t).drive.active.speed speed) target) :=
  State.settled_step (State.settleOnce_poised h)
    (Option.isNone_iff_eq_none.mp (State.settled_iff.mpr (by
      rw [State.tr_setTr_same]
      exact Transport.started_settled _ _ _ _ _)))

/-- A command after which the transport settles in this record. -/
theorem exec_settles {c : Instr} {f : State → State} (hc : exec c s = runTr t s f) (hp : s.powered = true)
    (hf : (f s).settled t = s.setTr t y) (hx : y.refresh = x.refresh) : ∃ s', exec c s = .next s' ∧ s.Becomes s' t x := by
  refine ⟨_, hc.trans (runTr_powered hp), ?_⟩
  obtain ⟨honly, hshared, htr⟩ := State.becomes_finish s t y
  rw [hf]
  exact ⟨honly, hshared, htr.trans hx⟩

/-! ### The shuttle's phases (R50) -/

theorem shuttleBrakePoint_target {d : Drive} {r : Reckoning} {p : Int} (h : d.shuttlePhase = .accel ∨ d.shuttlePhase = .run)
    (ht : d.shuttleTarget = some p) (hn : dirSign d.dir * (p - r.position) ≤ rampDistance d.shuttleSpeed d.active.aR)
    (hl : d.dir = .backward ∨ p ≤ r.forwardLimit) : shuttleBrakePointOf d r = .target := by
  by_cases hf : d.dir = .forward
  · have hp : p ≤ r.forwardLimit := hl.resolve_left (by simp [hf])
    have hn' : p - r.position ≤ rampDistance d.shuttleSpeed d.active.aR := by simpa [hf, dirSign] using hn
    simp [shuttleBrakePointOf, h, ht, remaining, hf, dirSign, hn', hp]
  · simp [shuttleBrakePointOf, h, ht, remaining, hn, hf]

theorem shuttleBrakePoint_limit {d : Drive} {r : Reckoning} {p : Int} (h : d.shuttlePhase = .accel ∨ d.shuttlePhase = .run)
    (ht : d.shuttleTarget = some p) (hf : d.dir = .forward)
    (hn : r.forwardLimit - r.position ≤ rampDistance d.shuttleSpeed d.active.aR) (hl : r.forwardLimit < p) :
    shuttleBrakePointOf d r = .limit := by
  have hp : ¬ p ≤ r.forwardLimit := by omega
  simp [shuttleBrakePointOf, h, ht, remaining, hn, hf, dirSign, hp]

theorem Drive.brake_eq {d : Drive} (h : d.shuttlePhase = .accel ∨ d.shuttlePhase = .run) :
    d.brake = { d with shuttlePhase := .brake } := by
  rcases h with h | h <;> simp [Drive.brake, h]

/-- The brake point of a shuttle under way (R50). -/
theorem exec_brakes {e : EndedBy} (hp : s.powered = true)
    (h : (s.tr t).drive.shuttlePhase = .accel ∨ (s.tr t).drive.shuttlePhase = .run)
    (he : shuttleBrakePointOf (s.tr t).drive (s.tr t).reck = e) (hne : e ≠ .none) :
    ∃ s', exec (.shuttleBrakePoint t) s = .next s' ∧
      s.Becomes s' t { s.tr t with drive := { (s.tr t).drive with shuttlePhase := .brake, endedBy := e } } := by
  refine exec_becomes (f := fun s => s.doBrakePoint t) rfl hp ?_ (.of_moving (Drive.atRest_of_shuttle (by simp)))
  simp [State.doBrakePoint, he, hne, Drive.brake_eq h]

/-! ### The end of a shuttle (R51, R60, R61, R65) -/

theorem Transport.setReck_known {r : Reckoning} (h : r.anchor ≠ .lost) : x.setReck r = { x with reck := r } := by
  simp [Transport.setReck, h]

theorem Reckoning.increaseBound_known {r : Reckoning} {k : Nat} (h : r.anchor ≠ .lost) (hk : r.drift + k ≤ 20000) :
    r.increaseBound k = { r with anchor := .drifted, bound := some (r.drift + k) } := by
  have hk' : ¬ 20000 < r.bound.getD 0 + k := by rw [Reckoning.drift] at hk; omega
  simp [Reckoning.increaseBound, h, hk', Reckoning.drift]

/-- A shuttle in BRAKE that ends well: engage is asserted, and the drift bound stays known (R51, R65). -/
structure Transport.ShuttleEnding (x : Transport) : Prop where
  phase : x.drive.shuttlePhase = .brake
  mode : x.drive.mode = .shuttle
  pending : x.drive.pending = none
  reck : x.reck.mode = .shuttle
  anchor : x.reck.anchor ≠ .lost
  drift : x.reck.drift + 64 ≤ 20000
  stop : x.ctl.stopUnderWay = false
  path : x.sense.pathGood = true

/-- The record of a transport whose shuttle has ended, before its arrival at standstill (R51, R61, R65). -/
def Transport.shuttleEnded (x : Transport) : Transport :=
  { x with
    drive := { x.drive with
      shuttlePhase := .none, shuttleSpeed := 0, shuttleRem := 0, shuttleTarget := none, engaged := true, phase := .stopped,
      mode := .capstan, supplyReleased := x.drive.supplyReleased && x.sense.loopIn .supply,
      takeupReleased := x.drive.takeupReleased && x.sense.loopIn .takeup },
    reck := { x.reck.restartWindows none with
      anchor := .drifted, bound := some (x.reck.drift + 64), mode := .capstan, moving := false } }

theorem State.endShuttle_eq (h : (s.tr t).ShuttleEnding) (hk : (s.tr t).drive.stopKind ≠ .emergency) :
    s.endShuttle t = (s.setTr t (s.tr t).shuttleEnded).arriveAt t
      ((s.tr t).drive.shuttleTarget.map fun p => p - (s.tr t).reck.position) := by
  obtain ⟨hphase, hmode, hpend, hreck, hanchor, hdrift, hstop, hpath⟩ := h
  have hok : (s.tr t).mayEngage = true := by simp [Transport.mayEngage, hpath, hstop, hk]
  have hend : (s.tr t).reck.shuttleEnd = { (s.tr t).reck with anchor := .drifted, bound := some ((s.tr t).reck.drift + 64) } :=
    Reckoning.increaseBound_known hanchor hdrift
  have hreck' : ∀ d, (s.setTr t { s.tr t with drive := d }).modReck t (·.shuttleEnd) = s.setTr t { s.tr t with
      drive := d, reck := { (s.tr t).reck with anchor := .drifted, bound := some ((s.tr t).reck.drift + 64) } } := fun d => by
    rw [State.modReck, State.modTr_setTr, State.tr_setTr_same, State.setTr_setTr, hend, Transport.setReck_known (by simp)]
  simp only [State.endShuttle, hok, State.modDrive_setTr, hreck', if_true]
  rw [State.driveMode_plain (by simp [hreck]) (by simp)]
  simp only [State.tr_setTr_same, State.setTr_setTr, State.modTr_setTr]
  simp only [Reckoning.setMode, hreck, reduceCtorEq, if_false, Reckoning.restartWindows, Transport.shuttleEnded, Drive.brakeLostLoops]
  rfl

/-! ### A leg of the Locate Unit comes to rest, and the next begins (R118 to R122, R130) -/

/-- An order of the Locate Unit whose leg a standstill ends in motion, with nothing else at work (R37, R51). -/
structure Transport.LegEnding (x : Transport) : Prop where
  kind : x.drive.stopKind = .none
  capstan : x.drive.mode = .capstan
  engaged : x.drive.engaged = true
  requester : x.drive.requester = .locate
  endedBy : x.drive.endedBy ≠ .limit
  state : x.ctl.state = .inMotion
  stop : x.ctl.stopUnderWay = false
  permission : x.ctl.permission = .full
  path : x.sense.pathGood = true
  idle : x.xfer = Transfer.idle
  quiet : x.chan.Quiet
  order : x.loc.order ≠ .none
  failing : x.loc.failing = none
  outcome : x.loc.rewindOutcome = none

/-- The arrival of a leg of the Locate Unit, the unit having asked for the next motion (R37, R118). -/
theorem State.arriveAt_leg {off : Option Int} (h : x.LegEnding)
    (hl : (s.setTr t x.atStandstill).locateStandstill t (x.drive.arrival off) = s.setTr t y)
    (hy : y.ctl = x.ctl) (he : y.drive.engaged = true) (ho : y.loc.rewindOutcome = none) :
    (s.setTr t x).arriveAt t off = s.setTr t { y with ctl := y.ctl.enter .ready, drive := y.drive.releaseBrakes } := by
  obtain ⟨hkind, hmode, -, hreq, -, hstate, hstop, -, -, hidle, hquiet, -⟩ := h
  have hrest : (s.setTr t { x with drive := (x.drive.rested x.sense).watch }).restReported t =
      s.setTr t x.atStandstill := by
    rw [State.restReported, State.modTr_setTr, State.tr_setTr_same, State.setTr_setTr, State.chanStops_quiet]
    · rfl
    · simpa using hquiet
    · simp [hidle, Transfer.idle]
  have hreq' : ∀ a, (s.setTr t x.atStandstill).requesterStandstill t a =
      (s.setTr t x.atStandstill).locateStandstill t a := fun a => by
    have hr : x.atStandstill.drive.requester = .locate := (Drive.watch_requester _).trans hreq
    simp [State.requesterStandstill, hr]
  simp only [State.arriveAt, State.modTr_setTr, State.tr_setTr_same, State.setTr_setTr, Drive.rest_eq _ (d := x.drive) (by simp [hmode]) (by simp [hmode]),
    Drive.arrival_kind, hkind, State.stopComplete, hrest, hreq', hl]
  have hcontrol : ∀ a, (s.setTr t y).controlStandstill t a =
      s.setTr t { y with ctl := y.ctl.enter .ready, drive := y.drive.releaseBrakes } := fun a => by
    simp only [State.controlStandstill, State.tr_setTr_same, hy, hstop, hstate]
    refine (State.enter_ready_engaged (by rw [State.tr_setTr_same]; exact he)).trans ?_
    rw [State.tr_setTr_same, State.setTr_setTr, hy]
  simp only [hcontrol, reduceCtorEq, if_false]
  refine State.takeRewound_none ?_
  rw [State.tr_setTr_same]
  exact ho

/-- A RUN request taken at rest under permission FULL waits (R40). -/
theorem Transport.run_waits {who : Requester} {dir : Dir} {speed : RunSpeed} {target : Option Int}
    (hp : x.ctl.permission = .full) (hd : x.drive.driving = false) : x.run who dir speed target =
      { x with drive := { x.drive with requester := who, pending := some (.run dir speed target who) } } := by
  have hd' : Drive.driving { x.drive with requester := who } = false := hd
  simp [Transport.run, hp, hd']

theorem Drive.rested_driving (d : Drive) (x : Sensing) : (d.rested x).watch.driving = false := by
  simp [Drive.driving, Drive.rested]

/-- The record of a transport whose leg of the Locate Unit has come to rest and that asks for the next RUN (R118). -/
def Transport.asksLeg (x : Transport) (k : Channel) (l : Locate) (dir : Dir) (target : Option Int) : Transport :=
  { x.atStandstill with
    chan := k, loc := l,
    drive := { x.atStandstill.drive with
      requester := .locate, pending := some (.run dir .fs target .locate) } }

/-- The record of a transport whose leg of the Locate Unit has come to rest and whose next RUN request waits, READY
(R28, R40). -/
def Transport.nextLeg (x : Transport) (k : Channel) (l : Locate) (dir : Dir) (target : Option Int) : Transport :=
  { x.atStandstill with
    ctl := x.ctl.enter .ready, chan := k, loc := l,
    drive := Drive.releaseBrakes { x.atStandstill.drive with
      requester := .locate, pending := some (.run dir .fs target .locate) } }

theorem Transport.LegEnding.poised (h : x.LegEnding) (hs : x.drive.shuttlePhase = .none) (k : Channel) (l : Locate) (dir : Dir)
    (target : Option Int) : (x.nextLeg k l dir target).Poised .locate dir .fs target where
  rest := by simp [Transport.nextLeg, Drive.releaseBrakes, Transport.atStandstill, Drive.atRest, Drive.standstill, Drive.rested, hs, h.capstan]
  kind := by simp [Transport.nextLeg, Drive.releaseBrakes, Transport.atStandstill, Drive.rested]
  pending := rfl
  state := rfl
  permission := by simp [Transport.nextLeg, Control.enter, h.stop, permissionOf]
  stop := h.stop
  path := h.path

end

section
variable {s : State} {t : Tr} {x y : Transport}

/-- A leg that has come to rest and whose next RUN request begins at once: the Drive Unit, Transport Control and Position
Reckoning of the motion (R28, R37, R40). -/
theorem Transport.LegEnding.begun {k : Channel} {l : Locate} {dir : Dir} {target : Option Int} {off : Option Int}
    (h : x.LegEnding) (hs : x.drive.shuttlePhase = .none) (ho : l.rewindOutcome = none)
    (hl : (s.setTr t x.atStandstill).locateStandstill t (x.drive.arrival off) = s.setTr t (x.asksLeg k l dir target)) :
    ((s.setTr t x).arriveAt t off).settled t = s.setTr t ((x.nextLeg k l dir target).started .locate dir
      (x.drive.staged.getD x.drive.active).vFs target) := by
  have heng : x.atStandstill.drive.engaged = true := (Drive.watch_engaged _).trans h.engaged
  rw [State.arriveAt_leg h hl rfl heng ho, State.settled_poised (by
    rw [State.tr_setTr_same]
    exact h.poised hs k l dir target), State.tr_setTr_same, State.setTr_setTr]
  have hspeed : (x.nextLeg k l dir target).drive.active.speed .fs =
      (x.drive.staged.getD x.drive.active).vFs := by
    simp [Transport.nextLeg, Transport.atStandstill, Drive.releaseBrakes, Drive.rested, Profile.speed]
  exact congrArg (fun v => s.setTr t ((x.nextLeg k l dir target).started .locate dir v target)) hspeed

/-- What the outputs show of the next leg after a shuttle: the stall watch restarts with the capstan's motion (R55). -/
theorem Transport.nextLeg_refresh (hm : x.drive.mode = .capstan) (hs : x.drive.shuttlePhase = .none)
    (hw : x.drive.watched = some .takeup) (hp : x.drive.pending = none) (k : Channel) (l : Locate) (dir : Dir) (v : Nat) (target : Option Int) :
    Transport.refresh ((x.nextLeg k l dir target).started .locate dir v target) = Transport.refresh { x with
      drive := { x.drive with
        phase := .accel, command := 0, commandRem := 0, dir := dir, targetSpeed := v, stopTarget := target, holdOver := none,
        endedBy := .none, creep := none, stopKind := .none, supplyReleased := true, takeupReleased := true,
        active := x.drive.staged.getD x.drive.active, staged := none, requester := .locate },
      ctl := { x.ctl with state := .inMotion, pump := true, permission := .full },
      reck := x.reck.standstill.motionBegun dir, chan := k, loc := l } := by
  simp [Transport.refresh, Transport.started, Transport.nextLeg, Drive.releaseBrakes, Transport.atStandstill,
    Drive.rested, Drive.limitShuttle, hs, Drive.watch, watchedTach, hm, hw, hp, Control.enter]

/-- The standstill of a leg that neither failed nor met the forward limit leaves the plan to its phase (R118). -/
theorem State.locateStandstill_leg {a : Arrival} (h : x.LegEnding) (ha : a.endedBy ≠ .limit) :
    (s.setTr t x.atStandstill).locateStandstill t a = match x.loc.phase with
      | .rewinding => (s.setTr t x.atStandstill).rewindStandstill t
      | .shuttle => s.setTr t x.atStandstill.planAim
      | _ => (s.setTr t x.atStandstill).locateStandstill t a := by
  have hloc : x.atStandstill.loc = x.loc := rfl
  have hctl : x.atStandstill.ctl = x.ctl := rfl
  cases hp : x.loc.phase <;>
    simp [State.locateStandstill, hloc, hctl, h.order, h.state, h.failing, ha, hp]

/-- The shuttle leg of a rewind goes on backward (R130). -/
theorem State.locateStandstill_rewindBack {a : Arrival} (h : x.LegEnding) (ha : a.endedBy ≠ .limit)
    (hphase : x.loc.phase = .rewinding) (hleg : x.loc.leg = .shuttle) (hanchor : x.reck.anchor = .drifted)
    (hlow : 0 ≤ x.reck.position + x.reck.drift) (hhigh : x.reck.position ≤ 200000) :
    (s.setTr t x.atStandstill).locateStandstill t a = s.setTr t (x.asksLeg
      (x.chan.setMode .spacing) { x.loc with leg := .back, step := .moving } .backward
      (some (x.reck.position + x.reck.drift + 2000))) := by
  have hplan : planRewind x.atStandstill.reck = .back := by
    have hlow' : ¬ x.reck.position + x.reck.drift < 0 := by omega
    have hhigh' : ¬ 200000 < x.reck.position := by omega
    rw [show planRewind x.atStandstill.reck = planRewind x.reck from rfl]
    simp [planRewind, Reckoning.atLoadPoint, hanchor, hlow', hhigh']
  have hleg' : x.atStandstill.loc.leg = .shuttle := hleg
  have hrun := Transport.run_waits (x := { x.atStandstill with
      chan := x.chan.setMode .spacing, loc := { x.loc with phase := .rewinding, leg := .back, step := .moving } })
    (who := .locate) (dir := .backward) (speed := .fs) (target := some (x.reck.position + x.reck.drift + 2000))
    h.permission (Drive.rested_driving _ _)
  rw [State.locateStandstill_leg h ha, hphase]
  simp only [State.rewindStandstill, State.tr_setTr_same, hleg', State.planRewinding, hplan, State.modTr_setTr,
    State.setTr_setTr, Transport.rewindRow]
  refine congrArg (s.setTr t) (hrun.trans ?_)
  rw [← hphase]
  rfl

/-- The shuttle leg of a locate goes on with a fast space to the approach point (R120, R122). -/
theorem State.locateStandstill_fastSpace {a : Arrival} {q : Int × Nat} (h : x.LegEnding) (ha : a.endedBy ≠ .limit)
    (hphase : x.loc.phase = .shuttle) (haim : x.loc.aim = some q)
    (hnear : x.reck.position < x.loc.standOff - (4000 + planBound x.reck q.2 : Nat))
    (hfar : x.loc.standOff - x.reck.position ≤ 200000) :
    (s.setTr t x.atStandstill).locateStandstill t a = s.setTr t (x.asksLeg
      (x.chan.setMode .spacing)
      { x.loc with phase := .fastSpace, leg := .none, step := .moving, beta := planBound x.reck q.2 } .forward
      (some (x.loc.standOff - (4000 + planBound x.reck q.2 : Nat) - x.reck.position))) := by
  have hleg : x.atStandstill.aimedLeg x.loc.standOff q.2 = .fastSpace := by
    have hb : x.atStandstill.aimedLeg x.loc.standOff q.2 = planLeg x.reck.position x.loc.standOff
      (shuttleBraking x.atStandstill.drive.active) (planBound x.reck q.2) := rfl
    rw [hb, planLeg]
    repeat rw [if_neg (by omega)]
  have haim' : x.atStandstill.loc.aim = some q := haim
  have hrun := Transport.run_waits (x := { x.atStandstill with
      chan := x.chan.setMode .spacing,
      loc := { x.loc with phase := .fastSpace, leg := .none, step := .moving, beta := planBound x.reck q.2 } })
    (who := .locate) (dir := .forward) (speed := .fs)
    (target := some (x.loc.standOff - (4000 + planBound x.reck q.2 : Nat) - x.reck.position))
    h.permission (Drive.rested_driving _ _)
  have hplan : x.atStandstill.planAim = x.atStandstill.takeLeg .fastSpace := by
    have hloc : x.atStandstill.loc = x.loc := rfl
    simp only [Transport.planAim, hloc, haim, hleg]
  have htake : x.atStandstill.takeLeg .fastSpace = Transport.fastSpaceTo { x.atStandstill with
      loc := { x.loc with beta := planBound x.reck q.2 } } (x.loc.standOff - (4000 + planBound x.reck q.2 : Nat)) := by
    have hloc : x.atStandstill.loc = x.loc := rfl
    have hreck : ∀ e, planBound x.atStandstill.reck e = planBound x.reck e := fun _ => rfl
    simp only [Transport.takeLeg, hloc, haim, hreck]
    push_cast
    rfl
  have hdist : ((x.loc.standOff - (4000 + planBound x.reck q.2 : Nat) - x.reck.position).natAbs : Int) =
      x.loc.standOff - (4000 + planBound x.reck q.2 : Nat) - x.reck.position := by omega
  rw [State.locateStandstill_leg h ha, hphase]
  refine congrArg (s.setTr t) ?_
  rw [hplan, htake]
  have hpos : x.atStandstill.reck.position = x.reck.position := rfl
  simp only [Transport.fastSpaceTo, hpos, hnear, if_true, hdist]
  exact hrun

/-- Position Reckoning when the next leg begins after a shuttle: the windows restart with its direction (R61). -/
theorem Transport.shuttleEnded_begun (x : Transport) (d : Dir) : x.shuttleEnded.reck.standstill.motionBegun d =
    { x.reck.restartWindows (some d) with
      anchor := .drifted, bound := some (x.reck.drift + 64), mode := .capstan, moving := true } := by
  simp [Reckoning.motionBegun, Reckoning.standstill, Transport.shuttleEnded, Reckoning.restartWindows, Window.restart]

/-- What SHUTTLE_END does (R51). -/
def shuttleEndOf (t : Tr) (s : State) : State := if (s.tr t).drive.shuttlePhase = .brake then s.endShuttle t else s

theorem exec_shuttleEnd (t : Tr) (s : State) : exec (.shuttleEnd t) s = runTr t s (shuttleEndOf t) := rfl

/-- A shuttle that ends with no order left makes the transport READY, after a controlled stop too (R28, R29, R51). -/
theorem State.endShuttle_unused (h : (s.tr t).ShuttleEnding) (hu : (s.tr t).Unused)
    (hk : ((s.tr t).drive.stopKind = .none ∧ (s.tr t).ctl.state = .inMotion) ∨
      ((s.tr t).drive.stopKind = .controlled ∧ (s.tr t).ctl.state = .stopping ∧ (s.tr t).ctl.stopByClear = false)) :
    s.endShuttle t = s.setTr t (s.tr t).shuttleEnded.readyAtRest := by
  have hready : ∀ a, (s.setTr t (s.tr t).shuttleEnded.atStandstill).controlStandstill t a =
      s.setTr t (s.tr t).shuttleEnded.readyAtRest := fun a => by
    rcases hk with ⟨-, hs⟩ | ⟨-, hs, hclear⟩
    · have hstand := State.standstill_inMotion (s := s.setTr t (s.tr t).shuttleEnded) (t := t) (a := a)
        (by rw [State.tr_setTr_same]; rfl) (by rw [State.tr_setTr_same]; exact hs) (by rw [State.tr_setTr_same]; exact h.stop)
      simpa only [State.tr_setTr_same, State.setTr_setTr] using hstand
    · have hstand := State.standstill_stopping (s := s.setTr t (s.tr t).shuttleEnded) (t := t) (a := a)
        (by rw [State.tr_setTr_same]; rfl) (by rw [State.tr_setTr_same]; exact hs) (by rw [State.tr_setTr_same]; exact h.stop)
      have hctl : { (s.tr t).shuttleEnded.ctl with stopByClear := false } = (s.tr t).shuttleEnded.ctl := by
        rw [← hclear]
        rfl
      simp only [State.tr_setTr_same, State.setTr_setTr, hctl] at hstand
      have hclear' : (s.tr t).shuttleEnded.ctl.stopByClear = false := hclear
      simpa only [hclear', Bool.false_eq_true, false_and, if_false] using hstand
  rw [State.endShuttle_eq h (by rcases hk with hk | hk <;> simp [hk.1]), State.arriveAt_unused (by rw [State.tr_setTr_same]; exact hu)
    (by rw [State.tr_setTr_same]; exact hk.imp And.left And.left) (by rw [State.tr_setTr_same]; simp [Transport.shuttleEnded])
    (by rw [State.tr_setTr_same]; simp [Transport.shuttleEnded])]
  simp only [State.tr_setTr_same, State.setTr_setTr, hready]
  refine State.takeRewound_none ?_
  rw [State.tr_setTr_same]
  exact hu.noRewound

/-- A shuttle of a locate or a rewind that ends, the next leg beginning at once (R51, R120, R130). -/
theorem exec_shuttleLeg {k : Channel} {l : Locate} {dir : Dir} {target : Option Int} (hp : s.powered = true)
    (h : (s.tr t).ShuttleEnding) (hleg : (s.tr t).shuttleEnded.LegEnding) (hw : (s.tr t).drive.watched = some .takeup)
    (ho : l.rewindOutcome = none)
    (hl : ∀ a : Arrival, a.endedBy ≠ .limit → (s.setTr t (s.tr t).shuttleEnded.atStandstill).locateStandstill t a =
      s.setTr t ((s.tr t).shuttleEnded.asksLeg k l dir target)) :
    ∃ s', exec (.shuttleEnd t) s = .next s' ∧ s.Becomes s' t { s.tr t with
      drive := { (s.tr t).drive with
        shuttlePhase := .none, shuttleSpeed := 0, shuttleRem := 0, shuttleTarget := none, engaged := true,
        mode := .capstan, phase := .accel, command := 0, commandRem := 0, dir := dir,
        targetSpeed := ((s.tr t).drive.staged.getD (s.tr t).drive.active).vFs, stopTarget := target,
        holdOver := none, endedBy := .none, creep := none, supplyReleased := true, takeupReleased := true,
        active := (s.tr t).drive.staged.getD (s.tr t).drive.active, staged := none },
      ctl := { (s.tr t).ctl with state := .inMotion, pump := true, permission := .full },
      reck := { (s.tr t).reck.restartWindows (some dir) with
        anchor := .drifted, bound := some ((s.tr t).reck.drift + 64), mode := .capstan, moving := true },
      chan := k, loc := l } := by
  have hkind : (s.tr t).drive.stopKind = .none := hleg.kind
  have hreq : (s.tr t).drive.requester = .locate := hleg.requester
  have hdo : shuttleEndOf t s = (s.setTr t (s.tr t).shuttleEnded).arriveAt t
      ((s.tr t).drive.shuttleTarget.map fun p => p - (s.tr t).reck.position) := by
    rw [shuttleEndOf, if_pos h.phase, State.endShuttle_eq h (by simp [hkind])]
  have hbegun := hleg.begun (s := s) (t := t) (off := (s.tr t).drive.shuttleTarget.map fun p => p - (s.tr t).reck.position)
    rfl ho (hl _ hleg.endedBy)
  refine exec_settles (exec_shuttleEnd t s) hp ((congrArg (State.settled · t) hdo).trans hbegun) ?_
  refine ((s.tr t).shuttleEnded.nextLeg_refresh rfl rfl hw h.pending _ _ _ _ _).trans ?_
  rw [Transport.shuttleEnded_begun]
  simp only [Transport.shuttleEnded, hkind, hreq]

/-- Settles O47. -/
theorem shuttlePhases : Obligations.ShuttlePhases := by
  intro s t hp
  refine ⟨fun h => ?_, fun p h hd ht hn => ?_, fun p h hd ht hn hl => ?_, fun p h hd ht hn hl => ?_,
    fun hphase hmode hpend hreck hanchor hdrift hstop hpath hgood hu hcase => ?_, ?_, ?_⟩
  · refine exec_becomes (f := fun s => s.modTr t Transport.shuttleReached) rfl hp ?_
      (.of_moving (Drive.atRest_of_shuttle (by simp)))
    simp [Transport.shuttleReached, h]
  · refine exec_brakes hp h (shuttleBrakePoint_target h ht ?_ (.inl hd)) (by simp)
    simp only [hd, dirSign]
    omega
  · refine exec_brakes hp h (shuttleBrakePoint_target h ht ?_ (.inr hl)) (by simp)
    simp only [hd, dirSign]
    omega
  · exact exec_brakes hp h (shuttleBrakePoint_limit h ht hd hn hl) (by simp)
  · have hending : (s.tr t).ShuttleEnding := ⟨hphase, hmode, hpend, hreck, hanchor, hdrift, hstop, hpath⟩
    have hdo : shuttleEndOf t s = s.setTr t (s.tr t).shuttleEnded.readyAtRest := by
      rw [shuttleEndOf, if_pos hphase, State.endShuttle_unused hending hu hcase]
    obtain ⟨s', hexec, honly, hshared, htr⟩ := exec_becomes (exec_shuttleEnd t s) hp hdo
      (Transport.readyAtRest_settled (by exact hpend))
    have hctl : (s.tr t).ctl.enter .ready = { (s.tr t).ctl with state := .ready, pump := true, permission := .full } := by
      simp [Control.enter, pumpOf, permissionOf, hstop]
    refine ⟨s', hexec, honly, hshared, (congrArg Transport.ctl htr).trans hctl, congrArg Transport.reck htr, ?_⟩
    rw [htr]
    simp [Transport.readyAtRest, Transport.shuttleEnded, Drive.releaseBrakes, Drive.rested]
  · intro hphase hmode hpend hreck hanchor hdrift hstop hpath hgood hkind hstill hreq hwatch hended hstate hperm hxfer hquiet
      hfail hout horder hlphase hleg hlow hhigh
    have hending : (s.tr t).shuttleEnded.LegEnding :=
      ⟨hkind, rfl, rfl, hreq, hended, hstate, hstop, hperm, hpath, hxfer, hquiet, horder, hfail, hout⟩
    exact exec_shuttleLeg (l := { (s.tr t).loc with leg := .back, step := .moving }) hp
      ⟨hphase, hmode, hpend, hreck, hanchor, hdrift, hstop, hpath⟩ hending hwatch hout
      fun a ha => State.locateStandstill_rewindBack hending ha hlphase hleg rfl hlow hhigh
  · intro q hphase hmode hpend hreck hanchor hdrift hstop hpath hgood hkind hstill hreq hwatch hended hstate hperm hxfer hquiet
      hfail hout horder hlphase haim hnear hfar
    have horder' : (s.tr t).loc.order ≠ .none := by rcases horder with h | h <;> simp [h]
    have hending : (s.tr t).shuttleEnded.LegEnding :=
      ⟨hkind, rfl, rfl, hreq, hended, hstate, hstop, hperm, hpath, hxfer, hquiet, horder', hfail, hout⟩
    exact exec_shuttleLeg (l := { (s.tr t).loc with
        phase := .fastSpace, leg := .none, step := .moving, beta := planBound (s.tr t).shuttleEnded.reck q.2 }) hp
      ⟨hphase, hmode, hpend, hreck, hanchor, hdrift, hstop, hpath⟩ hending hwatch hout
      fun a ha => State.locateStandstill_fastSpace hending ha hlphase haim hnear hfar

end

end Sys2Proof.Machine
end

section
/-! PROOF. Orders of the Transfer Unit that start the tape from standstill (R157, R158, R162, R166, R167). -/
namespace Sys2Proof.Machine

section
variable {s z : State} {t : Tr} {x : Transport} {code : Nat} {c : OrderCopy} {f : State → OrderCopy → State} {w : Transfer}
  {who : Requester} {dir : Dir} {speed : RunSpeed} {target : Option Int}

/-- An order whose owner asks for a RUN from standstill, which begins at once (R40). -/
theorem exec_starts {i : Instr} (hi : exec i s = runTr t s fun s => s.takeOrder t code f) (ha : s.Awaits t code c)
    (hf : f (s.setTr t (s.tr t).withTaken) c = s.setTr t x) (hx : x.Poised who dir speed target) :
    ∃ s', exec i s = .next s' ∧ s.Becomes s' t (x.started who dir (x.drive.active.speed speed) target) := by
  refine exec_settles hi ha.1.1 ?_ rfl
  rw [State.takeOrder_awaits ha]
  refine (congrArg (State.settled · t) hf).trans ?_
  rw [State.settled_poised (by rw [State.tr_setTr_same]; exact hx), State.tr_setTr_same, State.setTr_setTr]

/-! ### Taking an order at standstill (R157, R158) -/

theorem Transport.Unused.supersede (h : x.Unused) : x.supersedeUnload = x := by
  obtain ⟨-, hloc, -⟩ := h
  simp [Transport.supersedeUnload, hloc, Locate.idle]

theorem Drive.standstill_driving {d : Drive} (h : d.phase = .stopped) : d.driving = false := by simp [Drive.driving, h]

/-- The record of a transport whose Transfer Unit has handed the RUN of its order at rest (R158). -/
def Transport.asksRun (x : Transport) (w : Transfer) : Transport :=
  { x with
    xfer := w,
    drive := { x.drive with
      requester := .transfer, pending := some (.run w.dir (orderRunSpeed w.order) none .transfer) } }

theorem Transport.ReadyStanding.run (h : x.ReadyStanding) (w : Transfer) :
    Transport.xferRun { x with xfer := w } = x.asksRun w :=
  Transport.run_waits h.2.2.1 (Drive.standstill_driving h.1.1)

/-- An order that passes its checks, taken on a transport at rest with no other order, goes at once (R157, R158). -/
theorem State.xferTake_standing (h : (s.tr t).ReadyStanding) (hu : (s.tr t).Unused)
    (hc : transferCheck { s.tr t with xfer := w } w.order = none) :
    s.xferTake t w = ((s.setTr t { s.tr t with xfer := w }).xferGo t false).xferTest t := by
  obtain ⟨⟨hphase, hshuttle, -⟩, -⟩ := h
  have hjoins : Transport.joins { s.tr t with xfer := w } = false := by
    simp [Transport.joins, Drive.standstill_driving hphase]
  simp [State.xferTake, hc, hu.supersede, State.xferStart, hjoins, Drive.standstill, hphase, hshuttle]

theorem Transport.ReadyStanding.poised (h : x.ReadyStanding) {d : Drive} (k : Channel) (v : Transfer) (p : Port)
    (hd : d = { x.drive with requester := d.requester, pending := some (.run dir speed target who) }) :
    Transport.Poised { x with chan := k, xfer := v, port := p, drive := d } who dir speed target := by
  obtain ⟨⟨hphase, hshuttle, hmode, hkind, -⟩, hstate, hperm, hstop, hpath, -⟩ := h
  rw [hd]
  exact ⟨by simp [Drive.atRest, Drive.standstill, hphase, hshuttle, hmode], hkind, rfl, hstate, hperm, hstop, hpath⟩

/-! ### READ and SPACE (R159, R167) -/

/-- The record of a transport at rest once a READ or SPACE order has asked for its motion (R158, R159, R167). -/
def Transport.asksRead (x : Transport) (w : Transfer) : Transport := (x.asksRun w).goRead false

theorem State.xferTest_none (h : (s.tr t).wantsBurst = none) : s.xferTest t = s := by
  simp [State.xferTest, h]

theorem State.xferTake_reads (h : (s.tr t).ReadyStanding) (hu : (s.tr t).Unused)
    (ho : (∃ b, w.order = .read b) ∨ ∃ d b, w.order = .space d b)
    (hc : transferCheck { s.tr t with xfer := w } w.order = none) (hw : ((s.tr t).asksRead w).wantsBurst = none) :
    s.xferTake t w = s.setTr t ((s.tr t).asksRead w) := by
  have hgo : (s.setTr t { s.tr t with xfer := w }).xferGo t false = s.setTr t ((s.tr t).asksRead w) := by
    obtain ⟨b, ho⟩ | ⟨d, b, ho⟩ := ho <;>
      simp [State.xferGo, ho, h.run, Transport.asksRead]
  rw [State.xferTake_standing h hu hc, hgo, State.xferTest_none (by rw [State.tr_setTr_same]; exact hw)]

/-- A READ or SPACE order taken on a READY transport at rest (R157 to R159, R167). -/
theorem exec_reads {i : Instr} (hi : exec i s = runTr t s fun s => s.takeOrder t code f) (ha : s.Awaits t code c)
    (h : (s.tr t).ReadyStanding) (hu : (s.tr t).Unused)
    (hf : f (s.setTr t (s.tr t).withTaken) c = (s.setTr t (s.tr t).withTaken).xferTake t w)
    (ho : (∃ b, w.order = .read b) ∨ ∃ d b, w.order = .space d b)
    (hc : transferCheck { (s.tr t).withTaken with xfer := w } w.order = none)
    (hw : ((s.tr t).withTaken.asksRead w).wantsBurst = none) :
    ∃ s', exec i s = .next s' ∧ s.Becomes s' t (((s.tr t).withTaken.asksRead w).started .transfer w.dir
      ((s.tr t).drive.active.speed (orderRunSpeed w.order)) none) := by
  refine exec_starts hi ha (x := (s.tr t).withTaken.asksRead w) (hf.trans ?_) ?_
  · rw [State.xferTake_reads (by rw [State.tr_setTr_same]; exact h) (by rw [State.tr_setTr_same]; exact hu) ho
      (by rw [State.tr_setTr_same]; exact hc) (by rw [State.tr_setTr_same]; exact hw), State.tr_setTr_same,
      State.setTr_setTr]
  · exact h.poised (d := ((s.tr t).withTaken.asksRead w).drive) _ _ _ rfl

end

/-- Settles O51. -/
theorem readAndSpaceStart : Obligations.ReadAndSpaceStart := by
  intro s t c h hu hth
  obtain ⟨hact, -, -, -, -, -, hwatch, hoff⟩ := hu.2.2
  refine ⟨fun ha hroom => ?_, fun ha hn => ?_, fun ha hn hbot => ?_⟩
  · have hcheck : transferCheck { (s.tr t).withTaken with xfer := readOrder c } (readOrder c).order = none := by
      obtain hroom | hmod := hroom
      · simp [transferCheck, readOrder, Transfer.taken, hroom]
      · simp [transferCheck, readOrder, Transfer.taken, hmod]
    have hwant : ((s.tr t).withTaken.asksRead (readOrder c)).wantsBurst = none := by
      have hth' : (s.tr t).withTaken.drive.active.threshold ≠ 0 := Nat.ne_of_gt hth
      cases hmod : c.modifier 8 <;>
        simp [Transport.wantsBurst, Transport.asksRead, Transport.goRead, Transport.asksRun, readOrder, Transfer.taken,
          Transfer.idle, Transport.handing, hmod, hth']
    obtain ⟨s', hx, hb⟩ := exec_reads (i := .read t) (w := readOrder c) rfl ha h hu rfl (.inl ⟨_, rfl⟩) hcheck hwant
    refine ⟨s', hx, (congrArg (s.Becomes s' t) ?_).mp hb⟩
    cases hmod : c.modifier 8 <;>
      simp [Transport.asksRead, Transport.goRead, Transport.asksRun, Transport.started, Transport.withTaken, readOrder, Transfer.taken,
        Channel.endErasing, hact, Channel.setMode, Channel.watchOn, Transfer.idle, orderDir, hmod, Profile.speed, orderRunSpeed, hoff]
  · have hf : ∀ s' : State, s'.takeSpaceForward t c = s'.xferTake t (.taken (.space .forward (c.modifier 8)) c.opA 0 0) := by
      intro s'
      simp [State.takeSpaceForward, hn]
    obtain ⟨s', hx, hb⟩ := exec_reads (i := .spaceForward t) rfl ha h hu (hf _) (.inr ⟨_, _, rfl⟩) rfl
      (by simp [Transport.wantsBurst, Transport.asksRead, Transport.goRead, Transport.asksRun, Transfer.taken])
    refine ⟨s', hx, (congrArg (s.Becomes s' t) ?_).mp hb⟩
    cases hmod : c.modifier 8 <;>
      simp [Transport.asksRead, Transport.goRead, Transport.asksRun, Transport.started, Transport.withTaken, Transfer.taken,
        Channel.endErasing, hact, Channel.setMode, Channel.watchOn, Transfer.idle, orderDir, Profile.speed, orderRunSpeed, hoff]
  · have hf : ∀ s' : State, (s'.tr t).reck = (s.tr t).reck →
        s'.takeSpaceBackward t c = s'.xferTake t (.taken (.space .backward (c.modifier 8)) c.opA 0 0) := by
      intro s' hr
      simp [State.takeSpaceBackward, hn, hr, hbot]
    obtain ⟨s', hx, hb⟩ := exec_reads (i := .spaceBackward t) rfl ha h hu (hf _ (by rw [State.tr_setTr_same]; rfl))
      (.inr ⟨_, _, rfl⟩) rfl
      (by simp [Transport.wantsBurst, Transport.asksRead, Transport.goRead, Transport.asksRun, Transfer.taken])
    refine ⟨s', hx, (congrArg (s.Becomes s' t) ?_).mp hb⟩
    cases hmod : c.modifier 8 <;>
      simp [Transport.asksRead, Transport.goRead, Transport.asksRun, Transport.started, Transport.withTaken, Transfer.taken,
        Channel.endErasing, hact, Channel.setMode, Transfer.idle, orderDir, Profile.speed, orderRunSpeed, hoff, hwatch]

end Sys2Proof.Machine
end

section
/-! PROOF. Orders of the Transfer Unit that write from standstill (R105, R106, R157, R158, R162, R166). -/
namespace Sys2Proof.Machine

/-! ### Write starts (R105, R106) -/

/-- The reel record after a write start for block `n`, or with the block unknown (R105, R106). -/
def ReelRecord.writeStarted (r : ReelRecord) (n : Option Nat) : ReelRecord :=
  match r.state, n with
  | .none, _ => r
  | .held, _ => .none
  | .active, some n => { r with entries := r.entries.filter (·.block < n), eod := some n }
  | .active, .none => { r with entries := [], eod := Option.none }

/-- A write start retires entries (R105, R106). -/
def ReelRecord.writeRetires (r : ReelRecord) (n : Option Nat) : Bool :=
  match r.state, n with
  | .none, _ => false
  | .held, _ => r.entries ≠ []
  | .active, some n => r.entries.any fun e => n ≤ e.block
  | .active, .none => r.entries ≠ []

section
variable {s z : State} {t : Tr} {x : Transport} {code : Nat} {c : OrderCopy} {f : State → OrderCopy → State} {w v : Transfer}
  {k : Channel} {n : Option Nat} {r : ReelRecord}

theorem ReelRecord.writeStarted_length (r : ReelRecord) (n : Option Nat) : (r.writeStarted n).entries.length ≤ r.entries.length := by
  unfold ReelRecord.writeStarted
  split
  · exact le_rfl
  · exact Nat.zero_le _
  · exact List.length_filter_le _ _
  · exact Nat.zero_le _

theorem State.setReel_reel (s : State) (t : Tr) : s.setReel t (s.reel t) = s := by
  simp [State.setReel, State.reel]

theorem State.writeStart_eq (s : State) (t : Tr) (n : Option Nat) :
    s.writeStart t n = (s.setReel t ((s.reel t).writeStarted n)).modPort t fun p =>
      p.raisedIf ((s.reel t).writeRetires n) .mapChanged := by
  unfold State.writeStart ReelRecord.writeStarted ReelRecord.writeRetires
  split
  next h =>
    simp only [h, State.setReel_reel]
    exact (State.setTr_tr s t).symm
  next h => simp [h, State.raiseIndIf_eq]
  next h => simp [h, State.setEod, State.raiseIndIf_eq]
  next h => simp [h, State.raiseIndIf_eq]

/-- The pool counts every slot that a shorter list of entries returns (R93). -/
theorem State.poolFree_setReel (h : r.entries.length ≤ (s.reel t).entries.length) :
    (s.setReel t r).store.poolFree + r.entries.length = s.store.poolFree + (s.reel t).entries.length := by
  simp only [State.setReel]
  omega

/-! ### Orders that write, taken at standstill (R157, R158, R162, R166) -/

/-- The record of a transport at rest once an order that writes has asked for its motion, with the channel and the unit
prepared for it, and MAP CHANGED as the entries retired give it (R105, R158). -/
def Transport.asksWrite (x : Transport) (w : Transfer) (k : Channel) (v : Transfer) (retires : Bool) : Transport :=
  { x.asksRun w with chan := k, xfer := v, port := x.port.raisedIf retires .mapChanged }

/-- The data request that the test of R156 makes. -/
def Arbiter.asked (a : Arbiter) (t : Tr) (k : Option TransferKind) : Arbiter :=
  match k with
  | some k => { a with data := a.data.set t (some k) }
  | none => a

@[simp] theorem State.reel_setArb (s : State) (a : Arbiter) (u : Tr) : (s.setArb a).reel u = s.reel u := rfl

theorem State.xferTest_eq (hb : s.dataBusy t = false) :
    s.xferTest t = s.setArb (s.arb.asked t (s.tr t).wantsBurst) := by
  simp only [State.xferTest, hb, Bool.false_eq_true, if_false]
  cases (s.tr t).wantsBurst <;> rfl

/-- The state once an order that writes has asked for its motion, before it begins (R105, R156, R158). -/
def State.asksWrite (s : State) (t : Tr) (w : Transfer) (k : Channel) (v : Transfer) (n : Option Nat) (b : Option TransferKind) :
    State :=
  ((s.setReel t ((s.reel t).writeStarted n)).setTr t
    ((s.tr t).withTaken.asksWrite w k v ((s.reel t).writeRetires n))).setArb (s.arb.asked t b)

theorem State.xferTake_writes (h : (s.tr t).ReadyStanding) (hu : (s.tr t).Unused) (hb : s.dataBusy t = false)
    (hc : transferCheck { (s.tr t).withTaken with xfer := w } w.order = none)
    (hgo : (s.setTr t { (s.tr t).withTaken with xfer := w }).xferGo t false =
      (s.setTr t { (s.tr t).withTaken.asksRun w with chan := k, xfer := v }).writeStart t n) :
    (s.setTr t (s.tr t).withTaken).xferTake t w = s.asksWrite t w k v n
      ((s.tr t).withTaken.asksWrite w k v ((s.reel t).writeRetires n)).wantsBurst := by
  have hgo' : ((s.setTr t (s.tr t).withTaken).setTr t { (s.tr t).withTaken with xfer := w }).xferGo t false =
      (s.setReel t ((s.reel t).writeStarted n)).setTr t
        ((s.tr t).withTaken.asksWrite w k v ((s.reel t).writeRetires n)) := by
    rw [State.setTr_setTr, hgo, State.writeStart_eq]
    simp only [State.reel_setTr, State.modPort_setTr, State.tr_setReel, State.tr_setTr_same]
    rw [State.setTr_setReel, State.setTr_setTr, State.setTr_setReel]
    rfl
  rw [State.xferTake_standing (by rw [State.tr_setTr_same]; exact h) (by rw [State.tr_setTr_same]; exact hu)
    (by rw [State.tr_setTr_same]; exact hc), State.tr_setTr_same, hgo', State.xferTest_eq (by simpa [State.dataBusy] using hb),
    State.tr_setTr_same]
  rfl

/-- An order that writes, taken on a READY transport at rest. -/
theorem exec_writes {i : Instr} {y : Transport} {b : Option TransferKind}
    (hi : exec i s = runTr t s fun s => s.takeOrder t code f) (ha : s.Awaits t code c) (h : (s.tr t).ReadyStanding) (hu : (s.tr t).Unused) (hb : s.dataBusy t = false)
    (hf : f (s.setTr t (s.tr t).withTaken) c = (s.setTr t (s.tr t).withTaken).xferTake t w)
    (hd : w.dir = .forward) (hs : orderRunSpeed w.order = .rw)
    (hc : transferCheck { (s.tr t).withTaken with xfer := w } w.order = none)
    (hgo : (s.setTr t { (s.tr t).withTaken with xfer := w }).xferGo t false =
      (s.setTr t { (s.tr t).withTaken.asksRun w with chan := k, xfer := v }).writeStart t n)
    (hw : ((s.tr t).withTaken.asksWrite w k v ((s.reel t).writeRetires n)).wantsBurst = b)
    (hy : ((s.tr t).withTaken.asksWrite w k v ((s.reel t).writeRetires n)).started .transfer .forward (s.tr t).drive.active.vRw none = y) :
    ∃ s', exec i s = .next s' ∧ s.OnlyAt s' t ∧ s'.exchange = s.exchange ∧
      s'.reel t = (s.reel t).writeStarted n ∧
      s'.store.poolFree + (s'.reel t).entries.length = s.store.poolFree + (s.reel t).entries.length ∧
      s'.arb = s.arb.asked t b ∧
      s'.tr t = y.refresh := by
  have hposed : ((s.tr t).withTaken.asksWrite w k v ((s.reel t).writeRetires n)).Poised .transfer .forward .rw none := by
    refine h.poised k v _ ?_
    simp only [Transport.asksRun, hd, hs]
    rfl
  have hset : (f (s.setTr t (s.tr t).withTaken) c).settled t =
      (((s.setReel t ((s.reel t).writeStarted n)).setTr t y)).setArb
        (s.arb.asked t b) := by
    rw [hf, State.xferTake_writes h hu hb hc hgo, hw, State.settled_poised (by simpa [State.asksWrite] using hposed)]
    subst hy
    simp [State.asksWrite]
    rfl
  refine ⟨_, hi.trans (runTr_powered ha.1.1), ?_⟩
  rw [State.takeOrder_awaits ha, State.withTaken_eq, hset]
  have hpool := State.poolFree_setReel (s := s.setTr t y) (t := t) (ReelRecord.writeStarted_length (s.reel t) n)
  exact ⟨State.onlyAt_finish (by simp) (by simp), by simp, by simp, by simpa using hpool, by simp, by simp⟩

end


/-- The formation that a form request leaves waiting (R86). -/
def Formation.asked (block file declared : Nat) (kind : RecordKind) (volumeCheck : Byte) : Formation :=
  { block := block, file := file, kind := kind, volumeCheck := volumeCheck,
    declared := declared, phase := .waiting, ambleSteps := 0, partBytes := 0, written := 0, sum := 0, bytes := [],
    start := 0, steps := 0, fill := false, cut := false, hostBytes := 0, readBacks := 0,
    readBackGood := false, due := false, spoiled := false }

section
variable {s : State} {t : Tr} {c : OrderCopy} {x : Transport}

theorem ReelRecord.writeStarted_known {r : ReelRecord} (h : r.state = .active) (n : Nat) :
    r.writeStarted (some n) = { r with entries := r.entries.filter (·.block < n), eod := some n } := by
  simp [ReelRecord.writeStarted, h]

theorem ReelRecord.writeStarted_unknown {r : ReelRecord} (h : r.state = .active) :
    r.writeStarted .none = { r with entries := [], eod := .none } := by
  simp [ReelRecord.writeStarted, h]

theorem ReelRecord.writeStarted_inactive {r : ReelRecord} (h : r.state ≠ .active) (n : Option Nat) :
    r.writeStarted n = if r.state = .held then .none else r := by
  cases hr : r.state <;> simp_all [ReelRecord.writeStarted]

theorem ReelRecord.writeRetires_known {r : ReelRecord} (h : r.state = .active) (n : Nat) :
    r.writeRetires (some n) = r.entries.any fun e => n ≤ e.block := by
  simp [ReelRecord.writeRetires, h]

theorem ReelRecord.writeRetires_unknown {r : ReelRecord} (h : r.state = .active) :
    r.writeRetires .none = decide (r.entries ≠ []) := by
  simp [ReelRecord.writeRetires, h]

theorem ReelRecord.writeRetires_inactive {r : ReelRecord} (h : r.state ≠ .active) (n : Option Nat) :
    r.writeRetires n = decide (r.state = .held ∧ r.entries ≠ []) := by
  cases hr : r.state <;> simp_all [ReelRecord.writeRetires]

theorem writeVolumeCheck_active {r : ReelRecord} (h : r.state = .active) : writeVolumeCheck r = r.volumeCheck := if_pos h

theorem writeVolumeCheck_inactive {r : ReelRecord} (h : r.state ≠ .active) : writeVolumeCheck r = 0 := if_neg h

/-- The channel of a transport at rest prepared for a write (R85, R162, R166). -/
def Channel.prepared (k : Channel) (f : Option Formation) : Channel :=
  { k with mode := .decode, activity := .erasing, writeGate := true, formation := f }

/-- The record of a transport at rest whose order of the Transfer Unit that writes has started (R162, R166). -/
def Transport.writeBegun (x : Transport) (f : Option Formation) (v : Transfer) (indicators : BitVec 16) : Transport :=
  { x.withTaken.started .transfer .forward x.drive.active.vRw none with
    chan := x.chan.prepared f, xfer := v, port := { x.port with stage := .taken, indicators := indicators } }

/-- What a write order leaves once it has started from standstill (R105, R106, R156, R162, R166). -/
def State.WriteBegun (s s' : State) (t : Tr) (n : Option Nat) (f : Option Formation) (v : Transfer) (k : Option TransferKind) : Prop :=
  s.OnlyAt s' t ∧ s'.exchange = s.exchange ∧ s'.reel t = (s.reel t).writeStarted n ∧
    s'.store.poolFree + (s'.reel t).entries.length = s.store.poolFree + (s.reel t).entries.length ∧
    s'.arb = s.arb.asked t k ∧ s'.tr t = ((s.tr t).writeBegun f v
      (if (s.reel t).writeRetires n then (s.tr t).port.indicators ||| 4#16 else (s.tr t).port.indicators)).refresh

theorem Channel.Quiet.erase {k : Channel} (h : k.Quiet) : (k.setMode .decode).erase = k.prepared none := by
  obtain ⟨hact, -, -, -, -, hform, -⟩ := h
  simp [Channel.erase, Channel.setMode, hact, Channel.setActivity, Channel.prepared, hform]

theorem Transport.asksWrite_started (hp : (s.tr t).port.pointer = .inFlight) (w v : Transfer) (f : Option Formation) (b : Bool) :
    ((s.tr t).withTaken.asksWrite w ((s.tr t).chan.prepared f) v b).started .transfer .forward (s.tr t).drive.active.vRw none =
      (s.tr t).writeBegun f v (if b then (s.tr t).port.indicators ||| 4#16 else (s.tr t).port.indicators) := by
  have hport : (s.tr t).withTaken.port.raisedIf b .mapChanged = { (s.tr t).port with
      stage := .taken, indicators := if b then (s.tr t).port.indicators ||| 4#16 else (s.tr t).port.indicators } := by
    cases b <;> simp [Port.raisedIf, Port.raiseInd, Transport.withTaken, indicatorBit, eq_true hp]
  simp only [Transport.asksWrite, hport]
  rfl

/-- The state a write order makes before its write start, once its motion is asked for (R162, R166). -/
theorem State.xferGo_erase {n : Nat} (ho : x.xfer.order = .erase n) : (s.setTr t x).xferGo t false =
    (s.setTr t x.xferRun.goErase).writeStart t (if x.reck.nextKnown then some x.reck.nextBlock else none) := by
  simp [State.xferGo, ho]

theorem State.xferGo_write {n : Nat} (ho : x.xfer.order = .write n) (hk : x.reck.nextKnown = true) (hl : x.reck.nextBlock ≠ 16777215) :
    (s.setTr t x).xferGo t false = (s.setTr t (x.xferRun.goWrite .data n (writeVolumeCheck (s.reel t)))).writeStart t (some x.reck.nextBlock) := by
  simp [State.xferGo, ho, State.beginWrite, hk, hl]

theorem State.xferGo_writeFileMark (ho : x.xfer.order = .writeFileMark) (hk : x.reck.nextKnown = true) (hl : x.reck.nextBlock ≠ 16777215) :
    (s.setTr t x).xferGo t false = (s.setTr t (x.xferRun.goWrite .fileMark 0 (writeVolumeCheck (s.reel t)))).writeStart t (some x.reck.nextBlock) := by
  simp [State.xferGo, ho, State.beginWrite, hk, hl]

theorem Transport.ReadyStanding.goErase (h : x.ReadyStanding) (hu : x.Unused) (w : Transfer) :
    (Transport.xferRun { x.withTaken with xfer := w }).goErase = { x.withTaken.asksRun w with
      chan := x.chan.prepared none, xfer := { w with phase := .running, erased := 0 } } := by
  have hrun : Transport.xferRun { x.withTaken with xfer := w } = x.withTaken.asksRun w :=
    Transport.ReadyStanding.run (x := x.withTaken) h w
  rw [hrun]
  exact congrArg (fun k => { x.withTaken.asksRun w with chan := k, xfer := { w with phase := .running, erased := 0 } }) hu.2.2.erase

theorem Transport.ReadyStanding.goWrite (h : x.ReadyStanding) (hu : x.Unused) (w : Transfer) (kind : RecordKind) (n : Nat) (v : Byte) :
    (Transport.xferRun { x.withTaken with xfer := w }).goWrite kind n v = { x.withTaken.asksRun w with
      chan := x.chan.prepared (some (.asked x.reck.nextBlock x.reck.fileNumber n kind v)),
      xfer := { w with phase := .writing, gapExtension := 0, formRefused := false } } := by
  have hrun : Transport.xferRun { x.withTaken with xfer := w } = x.withTaken.asksRun w :=
    Transport.ReadyStanding.run (x := x.withTaken) h w
  have hk : ((x.withTaken.asksRun w).chan.setMode .decode).erase = x.chan.prepared none := hu.2.2.erase
  rw [hrun, Transport.goWrite, hk]
  rfl

theorem exec_erase_starts (ha : s.Awaits t 9 c) (h : (s.tr t).ReadyStanding) (hu : (s.tr t).Unused) (hb : s.dataBusy t = false)
    (hring : (s.tr t).sense.writeRing.level = true) (h1 : 1 ≤ c.opB) (h2 : c.opB ≤ 200000) :
    ∃ s', exec (.erase t) s = .next s' ∧
      s.WriteBegun s' t (if (s.tr t).reck.nextKnown then some (s.tr t).reck.nextBlock else none) none
        { Transfer.idle with order := .erase c.opB, phase := .running } none := by
  refine exec_writes (f := fun s c => s.xferTake t (.taken (.erase c.opB) 0 0 0)) (w := .taken (.erase c.opB) 0 0 0)
    (k := (s.tr t).chan.prepared none)
    (v := { Transfer.idle with order := .erase c.opB, phase := .running }) rfl ha h hu hb rfl rfl rfl ?_ ?_ ?_
    (Transport.asksWrite_started ha.1.2.1.1 _ _ _ _)
  · have h0 : ¬ c.opB = 0 := by omega
    have h3 : ¬ 200000 < c.opB := by omega
    simp [transferCheck, Transfer.taken, h0, h3, Transport.withTaken, hring]
  · exact (State.xferGo_erase (n := c.opB)
      (x := { (s.tr t).withTaken with xfer := .taken (.erase c.opB) 0 0 0 }) rfl).trans (by rw [h.goErase hu]; rfl)
  · rfl

theorem exec_write_starts (ha : s.Awaits t 7 c) (h : (s.tr t).ReadyStanding) (hu : (s.tr t).Unused) (hb : s.dataBusy t = false)
    (hring : (s.tr t).sense.writeRing.level = true) (hn : 1 ≤ c.opC) (hknown : (s.tr t).reck.nextKnown = true)
    (hlast : (s.tr t).reck.nextBlock ≠ 16777215) :
    ∃ s', exec (.write t) s = .next s' ∧
      s.WriteBegun s' t (some (s.tr t).reck.nextBlock)
        (some (.asked (s.tr t).reck.nextBlock (s.tr t).reck.fileNumber c.opC .data (writeVolumeCheck (s.reel t))))
        { Transfer.idle with
          order := .write c.opC, phase := .writing, roomLeft := c.opC, hostAddress := c.address, mark := (c.opC, 0, c.address) }
        (some .writeBurst) := by
  refine exec_writes (i := .write t) (f := fun s c => s.xferTake t (.taken (.write c.opC) 0 c.opC c.address))
    (w := .taken (.write c.opC) 0 c.opC c.address)
    (k := (s.tr t).chan.prepared (some (.asked (s.tr t).reck.nextBlock (s.tr t).reck.fileNumber c.opC .data (writeVolumeCheck (s.reel t)))))
    (v := { Transfer.idle with
      order := .write c.opC, phase := .writing, roomLeft := c.opC, hostAddress := c.address, mark := (c.opC, 0, c.address) })
    rfl ha h hu hb rfl rfl rfl ?_ ?_ ?_ (Transport.asksWrite_started ha.1.2.1.1 _ _ _ _)
  · have h0 : ¬ c.opC = 0 := by omega
    simp [transferCheck, Transfer.taken, h0, Transport.withTaken, hring, hknown, hlast]
  · exact (State.xferGo_write (n := c.opC)
      (x := { (s.tr t).withTaken with xfer := .taken (.write c.opC) 0 c.opC c.address }) rfl hknown hlast).trans (by rw [h.goWrite hu]; rfl)
  · have hpos : 0 < c.opC := hn
    have hroom : min 16 c.opC ≤ 256 := (Nat.min_le_left _ _).trans (by decide)
    simp [Transport.wantsBurst, Transport.asksWrite, Transport.asksRun, Transfer.idle, hpos, hroom]

theorem exec_writeFileMark_starts (ha : s.Awaits t 8 c) (h : (s.tr t).ReadyStanding) (hu : (s.tr t).Unused) (hb : s.dataBusy t = false)
    (hring : (s.tr t).sense.writeRing.level = true) (hknown : (s.tr t).reck.nextKnown = true)
    (hlast : (s.tr t).reck.nextBlock ≠ 16777215) :
    ∃ s', exec (.writeFileMark t) s = .next s' ∧
      s.WriteBegun s' t (some (s.tr t).reck.nextBlock)
        (some (.asked (s.tr t).reck.nextBlock (s.tr t).reck.fileNumber 0 .fileMark (writeVolumeCheck (s.reel t))))
        { Transfer.idle with order := .writeFileMark, phase := .writing } none := by
  refine exec_writes (f := fun s _ => s.xferTake t (.taken .writeFileMark 0 0 0)) (w := .taken .writeFileMark 0 0 0)
    (k := (s.tr t).chan.prepared (some (.asked (s.tr t).reck.nextBlock (s.tr t).reck.fileNumber 0 .fileMark (writeVolumeCheck (s.reel t)))))
    (v := { Transfer.idle with order := .writeFileMark, phase := .writing })
    rfl ha h hu hb rfl rfl rfl ?_ ?_ ?_ (Transport.asksWrite_started ha.1.2.1.1 _ _ _ _)
  · simp [transferCheck, Transfer.taken, Transport.withTaken, hring, hknown, hlast]
  · exact (State.xferGo_writeFileMark (x := { (s.tr t).withTaken with xfer := .taken .writeFileMark 0 0 0 }) rfl hknown hlast).trans (by rw [h.goWrite hu]; rfl)
  · rfl

end

/-- Settles O52. -/
theorem writesStart : Obligations.WritesStart := by
  intro s t c h hu hring hb
  refine ⟨fun ha hn hact hknown hlast => ?_, fun ha hact hknown hlast => ?_, fun ha hact hknown hlast h1 h2 => ?_,
    fun ha hact hknown h1 h2 => ?_, fun ha hn hact hknown hlast => ?_, fun ha hact hknown hlast => ?_, fun ha hact h1 h2 => ?_⟩
  · obtain ⟨s', hx, h⟩ := exec_write_starts ha h hu hb hring hn hknown hlast
    rw [State.WriteBegun, ReelRecord.writeStarted_known hact, ReelRecord.writeRetires_known hact, writeVolumeCheck_active hact] at h
    exact ⟨s', hx, h⟩
  · obtain ⟨s', hx, h⟩ := exec_writeFileMark_starts ha h hu hb hring hknown hlast
    rw [State.WriteBegun, ReelRecord.writeStarted_known hact, ReelRecord.writeRetires_known hact, writeVolumeCheck_active hact] at h
    exact ⟨s', hx, h⟩
  · obtain ⟨s', hx, h⟩ := exec_erase_starts ha h hu hb hring h1 h2
    rw [if_pos hknown, State.WriteBegun, ReelRecord.writeStarted_known hact, ReelRecord.writeRetires_known hact] at h
    exact ⟨s', hx, h⟩
  · obtain ⟨s', hx, h⟩ := exec_erase_starts ha h hu hb hring h1 h2
    rw [hknown, if_neg Bool.false_ne_true, State.WriteBegun, ReelRecord.writeStarted_unknown hact, ReelRecord.writeRetires_unknown hact] at h
    simp only [decide_eq_true_eq] at h
    exact ⟨s', hx, h⟩
  · obtain ⟨s', hx, h⟩ := exec_write_starts ha h hu hb hring hn hknown hlast
    rw [State.WriteBegun, ReelRecord.writeStarted_inactive hact, ReelRecord.writeRetires_inactive hact,
      writeVolumeCheck_inactive hact] at h
    simp only [decide_eq_true_eq] at h
    exact ⟨s', hx, h⟩
  · obtain ⟨s', hx, h⟩ := exec_writeFileMark_starts ha h hu hb hring hknown hlast
    rw [State.WriteBegun, ReelRecord.writeStarted_inactive hact, ReelRecord.writeRetires_inactive hact,
      writeVolumeCheck_inactive hact] at h
    simp only [decide_eq_true_eq] at h
    exact ⟨s', hx, h⟩
  · obtain ⟨s', hx, h⟩ := exec_erase_starts ha h hu hb hring h1 h2
    rw [State.WriteBegun, ReelRecord.writeStarted_inactive hact, ReelRecord.writeRetires_inactive hact] at h
    simp only [decide_eq_true_eq] at h
    exact ⟨s', hx, h⟩

end Sys2Proof.Machine
end

section
/-! PROOF. Orders of the Locate Unit that start the tape from standstill, and the scan budget (R117 to R120, R123, R128,
R130, R133). -/
namespace Sys2Proof.Machine

section
variable {s z : State} {t : Tr} {x y : Transport} {code : Nat} {c : OrderCopy} {f : State → OrderCopy → State}
  {who : Requester} {dir : Dir} {speed : RunSpeed} {target : Option Int} {k : Channel} {l : Locate}

/-- The record of a transport at rest whose Locate Unit has handed a RUN, with the channel, the plan and the reckoning it
then holds (R40, R118). -/
def Transport.asksLocate (x : Transport) (k : Channel) (l : Locate) (r : Reckoning) (dir : Dir) (speed : RunSpeed)
    (target : Option Int) : Transport :=
  { x with
    chan := k, loc := l, reck := r,
    drive := { x.drive with requester := .locate, pending := some (.run dir speed target .locate) } }

theorem Transport.ReadyStanding.asksLocate_poised (h : x.ReadyStanding) (k : Channel) (l : Locate) (r : Reckoning) :
    (x.withTaken.asksLocate k l r dir speed target).Poised .locate dir speed target := by
  obtain ⟨⟨hphase, hshuttle, hmode, hkind, -⟩, hstate, hperm, hstop, hpath, -⟩ := h
  exact ⟨by simp [Transport.asksLocate, Transport.withTaken, Drive.atRest, Drive.standstill, hphase, hshuttle, hmode], hkind,
    rfl, hstate, hperm, hstop, hpath⟩

/-- An order of the Locate Unit, taken on a READY transport at rest, whose first leg begins at once (R40, R118). -/
theorem exec_locates {i : Instr} {r : Reckoning} (hi : exec i s = runTr t s fun s => s.takeOrder t code f) (ha : s.Awaits t code c)
    (h : (s.tr t).ReadyStanding)
    (hf : f (s.setTr t (s.tr t).withTaken) c = s.setTr t ((s.tr t).withTaken.asksLocate k l r dir speed target)) :
    ∃ s', exec i s = .next s' ∧ s.Becomes s' t { (Transport.started { (s.tr t).withTaken with reck := r } .locate dir
      ((s.tr t).drive.active.speed speed) target) with chan := k, loc := l } :=
  exec_starts hi ha hf (h.asksLocate_poised k l r)

theorem Transport.ReadyStanding.runs (h : x.ReadyStanding) (k : Channel) (l : Locate) (r : Reckoning) :
    Transport.run { x.withTaken with chan := k, loc := l, reck := r } .locate dir speed target =
      x.withTaken.asksLocate k l r dir speed target :=
  Transport.run_waits h.2.2.1 (Drive.standstill_driving h.1.1)

/-! ### LOCATE MARK and LOCATE BLOCK (R117, R119, R120, R123, R128) -/

theorem State.locateBegin_standing (h : (s.tr t).ReadyStanding) : s.locateBegin t = s.locatePlan t := by
  obtain ⟨⟨hphase, hshuttle, -⟩, -⟩ := h
  simp [State.locateBegin, Drive.standstill, hphase, hshuttle]

/-- The scan budget with which a decode approach begins (R123). -/
def Locate.approach (l : Locate) : Locate :=
  { l with phase := .decode, leg := .none, step := .moving, budget := some (l.budget.getD (40000 + 4 * l.beta)) }

theorem Channel.Quiet.endErasing (h : k.Quiet) : k.endErasing = k := by
  simp [Channel.endErasing, h.1]

theorem Transport.ReadyStanding.decodeApproach (h : x.ReadyStanding) (hu : x.Unused) (l : Locate) :
    Transport.decodeApproach { x.withTaken with loc := l } =
      x.withTaken.asksLocate { x.chan with mode := .decode, blankWatch := some (.locate, 0) } l.approach x.reck .forward .rw none := by
  have hk : x.withTaken.chan.endErasing = x.chan := hu.2.2.endErasing
  simp only [Transport.decodeApproach, hk]
  exact h.runs _ _ _

theorem Transport.ReadyStanding.countSpace (h : x.ReadyStanding) (hu : x.Unused) (l : Locate) :
    Transport.countSpace { x.withTaken with loc := l } =
      x.withTaken.asksLocate { x.chan with mode := .spacing, blankWatch := some (.locate, 0) }
        { l with phase := .countSpace, leg := .none, step := .moving } x.reck .forward .fs none := by
  have hk : x.withTaken.chan.endErasing = x.chan := hu.2.2.endErasing
  simp only [Transport.countSpace, hk]
  exact h.runs _ _ _

theorem Transport.planAim_decode {q : Int} {eps : Nat} (ha : x.loc.aim = some (q, eps))
    (hd : x.aimedLeg x.loc.standOff eps = .decode) :
    x.planAim = Transport.decodeApproach { x with loc := { x.loc with beta := planBound x.reck eps } } := by
  simp only [Transport.planAim, ha, hd, Transport.takeLeg]

/-- The plan of a LOCATE MARK taken on a READY transport at rest, its entry a decode approach away (R117, R120). -/
theorem State.takeLocateMark_decode {e : Entry} {m : Nat} (h : (s.tr t).ReadyStanding) (hu : (s.tr t).Unused)
    (hc : locateMarkCheck (s.tr t).withTaken (s.reel t) m = none) (he : findMark (s.reel t).entries m = some e)
    (hd : (s.tr t).aimedLeg (e.position - 160) (e.bound.getD 0) = .decode) :
    (s.setTr t (s.tr t).withTaken).takeLocateMark t m = s.setTr t ((s.tr t).withTaken.asksLocate
      { (s.tr t).chan with mode := .decode, blankWatch := some (.locate, 0) }
      (Locate.approach { Locate.forMark e with beta := planBound (s.tr t).reck (e.bound.getD 0) })
      (s.tr t).reck .forward .rw none) := by
  have hsup : (s.tr t).withTaken.supersedeUnload = (s.tr t).withTaken :=
    Transport.Unused.supersede (x := (s.tr t).withTaken) hu
  have hbegin := State.locateBegin_standing (s := s.setTr t { (s.tr t).withTaken with loc := .forMark e }) (t := t)
    (by rw [State.tr_setTr_same]; exact h)
  have hplan : (s.setTr t { (s.tr t).withTaken with loc := .forMark e }).locatePlan t =
      s.setTr t (Transport.planAim { (s.tr t).withTaken with loc := .forMark e }) := by
    simp [State.locatePlan, Locate.forMark]
  simp only [State.takeLocateMark, State.tr_setTr_same, State.reel_setTr, hc, he, State.modTr_setTr, hsup, State.setTr_setTr,
    State.modLoc]
  rw [hbegin, hplan, Transport.planAim_decode rfl hd]
  exact congrArg (s.setTr t) (h.decodeApproach hu _)

/-- The plan of a LOCATE BLOCK taken on a READY transport at rest toward a known next block (R128). -/
theorem State.takeLocateBlock_present {n : Nat} (h : (s.tr t).ReadyStanding) (hu : (s.tr t).Unused)
    (hc : locateBlockCheck (s.tr t).withTaken (s.reel t) n = none) (hr : (s.reel t).state ≠ .active)
    (hk : (s.tr t).reck.nextKnown = true) (hn : (s.tr t).reck.nextBlock ≤ n) :
    (s.setTr t (s.tr t).withTaken).takeLocateBlock t n = s.setTr t
      (if 64 < n - (s.tr t).reck.nextBlock then
        Transport.countSpace { (s.tr t).withTaken with loc := { Locate.forBlock n with beta := (s.tr t).reck.drift } }
      else
        Transport.decodeApproach { (s.tr t).withTaken with loc := { Locate.forBlock n with beta := (s.tr t).reck.drift } }) := by
  have hsup : (s.tr t).withTaken.supersedeUnload = (s.tr t).withTaken :=
    Transport.Unused.supersede (x := (s.tr t).withTaken) hu
  have hbegin := State.locateBegin_standing (s := s.setTr t { (s.tr t).withTaken with loc := .forBlock n }) (t := t)
    (by rw [State.tr_setTr_same]; exact h)
  have hway : chooseWaypoint (s.tr t).withTaken.reck (s.reel t) n = .present := by
    simp [chooseWaypoint, Transport.withTaken, hk, hn, hr]
  have hplan : (s.setTr t { (s.tr t).withTaken with loc := .forBlock n }).locatePlan t =
      s.setTr t (Transport.planPresent { (s.tr t).withTaken with loc := .forBlock n }) := by
    simp [State.locatePlan, Locate.forBlock, hway, Transport.planBlock]
  have hleft : Transport.blocksLeft { (s.tr t).withTaken with loc := .forBlock n } = some (n - (s.tr t).reck.nextBlock) := by
    simp [Transport.blocksLeft, Locate.forBlock, Transport.withTaken, hk]
  simp only [State.takeLocateBlock, State.tr_setTr_same, State.reel_setTr, hc, State.modTr_setTr, hsup, State.setTr_setTr,
    State.modLoc]
  rw [hbegin, hplan, Transport.planPresent, hleft, Transport.approachOver]
  simp only [Option.any_some, decide_eq_true_eq]
  rfl

/-! ### REWIND (R130, R131, R133) -/

/-- A rewind taken on a READY transport at rest plans at once. -/
theorem State.beginRewind_standing (h : (s.tr t).ReadyStanding) (o : LocateOrder) (ho : o = .rewind ∨ o = .unloadRewind) :
    s.beginRewind t o = (s.setTr t { s.tr t with
      reck := { (s.tr t).reck with lastBlock := none }, loc := { Locate.idle with order := o } }).planRewinding t := by
  rw [State.beginRewind, State.modTr_setTr, State.locateBegin_standing (by rw [State.tr_setTr_same]; exact h)]
  rcases ho with rfl | rfl <;> simp [State.locatePlan]

theorem planRewind_back {r : Reckoning} (h : r.anchor ≠ .lost) (hlo : 100 < r.position) (hhi : r.position ≤ 200000) :
    planRewind r = .back := by
  have hbot : ¬ r.atLoadPoint = true := by
    simp only [Reckoning.atLoadPoint, Bool.and_eq_true, decide_eq_true_eq, not_and, not_le]
    exact fun _ => hlo
  have hdrift : ¬ r.position + r.drift < 0 := by omega
  rw [planRewind, if_neg hbot, if_neg h, if_neg hdrift, if_neg (Int.not_lt.mpr hhi)]

/-- What REWIND does with its order (R130). -/
def takeRewindOf (t : Tr) (s : State) (_ : OrderCopy) : State := (s.modTr t Transport.supersedeUnload).beginRewind t .rewind

/-- The record of a transport that has taken a REWIND, before its plan (R130). -/
def Transport.rewinding (x : Transport) : Transport :=
  { x.withTaken with reck := { x.reck with lastBlock := none }, loc := { Locate.idle with order := .rewind } }

theorem Transport.rewinding_atLoadPoint (x : Transport) : x.rewinding.reck.atLoadPoint = x.reck.atLoadPoint := rfl

theorem takeRewindOf_standing (h : (s.tr t).ReadyStanding) (hu : (s.tr t).Unused) :
    takeRewindOf t (s.setTr t (s.tr t).withTaken) c = (s.setTr t (s.tr t).rewinding).planRewinding t := by
  have hsup : (s.tr t).withTaken.supersedeUnload = (s.tr t).withTaken :=
    Transport.Unused.supersede (x := (s.tr t).withTaken) hu
  simp only [takeRewindOf, State.modTr_setTr, State.tr_setTr_same, hsup, State.setTr_setTr]
  rw [State.beginRewind_standing (by rw [State.tr_setTr_same]; exact h) .rewind (.inl rfl), State.tr_setTr_same, State.setTr_setTr]
  rfl

/-- The record of a transport whose Locate Unit has just ended its order, before the termination (R116, R133). -/
def Transport.locateOver (x : Transport) : Transport := { x with loc := .idle, chan := x.chan.leaveLocate }

/-- The end of a rewind is the end of the order once the Locate Unit is idle (R133). -/
theorem State.locateEnd_rewind {v : BitVec 32} (h : (s.tr t).Reporting) (ho : (s.tr t).loc.order = .rewind)
    (hc : (s.tr t).loc.countAccepted = false) :
    s.locateEndWith t .normal v none = (s.setTr t (s.tr t).locateOver).endOrder t
      { condition := .normal, count := 0, value := v, markBlock := none } := by
  obtain ⟨hptr, hheld, hstop, hoff⟩ := h
  simp only [State.locateEndWith, ho, hc, State.raiseIndIf, Bool.false_eq_true, if_false, if_true]
  rw [State.endOrder_reporting ⟨hptr, hheld, hstop, hoff⟩ (Nat.zero_le _),
    State.endOrder_reporting (by rw [State.tr_setTr_same]; exact ⟨hptr, hheld, hstop, hoff⟩) (Nat.zero_le _),
    terminationTransfer_short (.inr rfl), terminationTransfer_short (.inr rfl)]
  simp only [State.tr_setTr_same, State.setTr_setTr, State.modTr_setTr, State.setTr_freeIndex, State.setTr_requestControl,
    State.tr_requestControl, Transport.locateOver, Transport.locateIdle, Transport.ended, ho, reduceCtorEq, if_false]
  rfl

/-- A REWIND taken at the load point is complete at once (R130). -/
theorem exec_rewind_over (ha : s.Awaits t 18 c) (h : (s.tr t).ReadyStanding) (hu : (s.tr t).Unused)
    (hbot : (s.tr t).reck.atLoadPoint = true) :
    ∃ s', exec (.rewind t) s = .next s' ∧ s.OnlyAt s' t ∧ s'.store = s.store ∧ s'.exchange = s.exchange ∧ s.OnlyControl s' t ∧
      (s'.tr t).loc = .idle ∧ (s'.tr t).reck = { (s.tr t).reck with lastBlock := none } ∧ (s'.tr t).ctl = (s.tr t).ctl ∧
      s.Terminates s' t .normal 0 (signedLong (s.tr t).reck.position) (s.tr t).port.indicators := by
  have hplan : takeRewindOf t (s.setTr t (s.tr t).withTaken) c =
      (s.setTr t (s.tr t).rewinding).locateEndWith t .normal (signedLong (s.tr t).reck.position) none := by
    rw [takeRewindOf_standing h hu]
    simp only [State.planRewinding, State.tr_setTr_same, planRewind, Transport.rewinding_atLoadPoint, hbot, if_true]
    simp [State.rewindComplete, Transport.rewinding]
  rw [State.locateEnd_rewind (by rw [State.tr_setTr_same]; exact ha.reporting) (by rw [State.tr_setTr_same]; rfl)
    (by rw [State.tr_setTr_same]; rfl), State.tr_setTr_same, State.setTr_setTr] at hplan
  obtain ⟨s', hx, honly, hstore, hexch, hctrl, htr, hterm⟩ := exec_ends_at (i := .rewind t) (f := takeRewindOf t) rfl ha hplan
    ⟨ha.reporting, h.settled rfl rfl, rfl⟩
  exact ⟨s', hx, honly, hstore, hexch, hctrl, (congrArg Transport.loc htr).trans (Transport.refresh_loc _),
    (congrArg Transport.reck htr).trans (Transport.refresh_reck _), (congrArg Transport.ctl htr).trans (Transport.refresh_ctl _), hterm⟩

/-- A REWIND taken beyond the load point starts backward when its distance allows (R130). -/
theorem exec_rewind_back (ha : s.Awaits t 18 c) (h : (s.tr t).ReadyStanding) (hu : (s.tr t).Unused)
    (hanchor : (s.tr t).reck.anchor ≠ .lost) (hlo : 100 < (s.tr t).reck.position) (hhi : (s.tr t).reck.position ≤ 200000) :
    ∃ s', exec (.rewind t) s = .next s' ∧
      s.Becomes s' t { Transport.started { (s.tr t).withTaken with reck := { (s.tr t).reck with lastBlock := none } } .locate .backward
          (s.tr t).drive.active.vFs (some ((s.tr t).reck.position + (s.tr t).reck.drift + 2000)) with
        chan := { (s.tr t).chan with mode := .spacing },
        loc := { Locate.idle with order := .rewind, phase := .rewinding, leg := .back, step := .moving } } := by
  have hplan : takeRewindOf t (s.setTr t (s.tr t).withTaken) c = s.setTr t ((s.tr t).withTaken.asksLocate
      { (s.tr t).chan with mode := .spacing }
      { Locate.idle with order := .rewind, phase := .rewinding, leg := .back, step := .moving }
      { (s.tr t).reck with lastBlock := none } .backward .fs (some ((s.tr t).reck.position + (s.tr t).reck.drift + 2000))) := by
    rw [takeRewindOf_standing h hu]
    have hrow : planRewind (s.tr t).rewinding.reck = .back := planRewind_back hanchor hlo hhi
    simp only [State.planRewinding, State.tr_setTr_same, hrow, State.modTr_setTr, State.setTr_setTr, Transport.rewindRow]
    exact congrArg (s.setTr t) (h.runs _ _ _)
  exact exec_locates (i := .rewind t) (f := takeRewindOf t) rfl ha h hplan

/-- A LOCATE BLOCK toward a known next block, with no map, starts forward (R128). -/
theorem exec_locateBlock_starts (ha : s.Awaits t 17 c) (h : (s.tr t).ReadyStanding) (hu : (s.tr t).Unused) (hn : c.opB ≤ 16777214)
    (hact : (s.reel t).state ≠ .active) (hanchor : (s.tr t).reck.anchor ≠ .lost) (hk : (s.tr t).reck.nextKnown = true)
    (hle : (s.tr t).reck.nextBlock ≤ c.opB) :
    ∃ s', exec (.locateBlock t) s = .next s' ∧
      s.Becomes s' t
        (if c.opB - (s.tr t).reck.nextBlock ≤ 64 then
          { (s.tr t).withTaken.started .locate .forward (s.tr t).drive.active.vRw none with
            chan := { (s.tr t).chan with mode := .decode, blankWatch := some (.locate, 0) },
            loc := { Locate.idle with
              order := .locateBlock, phase := .decode, step := .moving, target := some c.opB,
              beta := (s.tr t).reck.bound.getD 0, budget := some (40000 + 4 * (s.tr t).reck.bound.getD 0) } }
        else
          { (s.tr t).withTaken.started .locate .forward (s.tr t).drive.active.vFs none with
            chan := { (s.tr t).chan with mode := .spacing, blankWatch := some (.locate, 0) },
            loc := { Locate.idle with
              order := .locateBlock, phase := .countSpace, step := .moving, target := some c.opB,
              beta := (s.tr t).reck.bound.getD 0 } }) := by
  have hcheck : locateBlockCheck (s.tr t).withTaken (s.reel t) c.opB = none := by
    simp [locateBlockCheck, hact, Transport.withTaken, hanchor, Nat.not_lt.mpr hn]
  have htake := State.takeLocateBlock_present h hu hcheck hact hk hle
  by_cases hfar : c.opB - (s.tr t).reck.nextBlock ≤ 64
  · rw [if_neg (Nat.not_lt.mpr hfar), h.decodeApproach hu] at htake
    rw [if_pos hfar]
    exact exec_locates (i := .locateBlock t) (f := fun s c => s.takeLocateBlock t c.opB) rfl ha h htake
  · rw [if_pos (Nat.not_le.mp hfar), h.countSpace hu] at htake
    rw [if_neg hfar]
    exact exec_locates (i := .locateBlock t) (f := fun s c => s.takeLocateBlock t c.opB) rfl ha h htake

end

/-- Settles O55. -/
theorem locateStarts : Obligations.LocateStarts := by
  intro s t c
  refine ⟨fun e ha h hu h0 h5 hact hanchor he hlo hhi => ?_, fun ha h hu h0 h5 hact hanchor he => ?_,
    fun ha h hu hn hact hanchor hk hle => ?_, fun ha h hu hbot => ?_, fun ha h hu hanchor hlo hhi => ?_,
    fun b hp hphase hbudget hb hfail hperm hstop hrun => ?_⟩
  · have hcheck : locateMarkCheck (s.tr t).withTaken (s.reel t) c.opA = none := by
      simp [locateMarkCheck, h0, h5, hact, he, Transport.withTaken, hanchor]
    have hleg : (s.tr t).aimedLeg (e.position - 160) (e.bound.getD 0) = .decode := by
      simp only [Transport.aimedLeg, planLeg, planBound, Reckoning.drift]
      exact if_pos ⟨hlo, by push_cast at hhi ⊢; exact hhi⟩
    exact exec_locates (i := .locateMark t) (f := fun s c => s.takeLocateMark t c.opA) rfl ha h
      (State.takeLocateMark_decode h hu hcheck he hleg)
  · have hcheck : locateMarkCheck (s.tr t).withTaken (s.reel t) c.opA = some .noSuchMark := by
      simp [locateMarkCheck, h0, h5, hact, he, Transport.withTaken, hanchor]
    obtain ⟨s', hx, honly, hstore, hexch, hctrl, -, hterm⟩ := exec_ends_at (i := .locateMark t)
      (f := fun s c => s.takeLocateMark t c.opA) (y := (s.tr t).withTaken)
      (r := { condition := .noSuchMark, count := 0, value := 0, markBlock := none }) rfl ha
      (by simp only [State.takeLocateMark, State.tr_setTr_same, State.reel_setTr, hcheck]; rfl)
      ⟨ha.reporting, h.settled rfl rfl, rfl⟩
    exact ⟨s', hx, honly, hstore, hexch, hctrl, hterm⟩
  · exact exec_locateBlock_starts ha h hu hn hact hanchor hk hle
  · exact exec_rewind_over ha h hu hbot
  · exact exec_rewind_back ha h hu hanchor hlo hhi
  · have hdue : (s.tr t).budgetDue = true := by
      simp [Transport.budgetDue, Transport.locateFree, hphase, hbudget, hb, hfail, hperm, hstop]
    have hmoves : (s.tr t).drive.standstill = false := by simp [Drive.standstill, hrun]
    refine exec_becomes (f := fun s => s.doBudget t) rfl hp ?_ (.of_moving (Drive.atRest_of_phase (by simp)))
    simp only [State.doBudget, hdue, if_true, State.locateFailMoving, hmoves, Bool.false_eq_true, if_false, State.modTr_setTr]
    simp [Transport.stop, Drive.stop, hrun, Drive.decel, Locate.fail, hfail]

end Sys2Proof.Machine
end

section
/-! PROOF. Orders of the Transfer Unit that end by themselves: a drained READ, a WRITE whose data never comes, a complete
ERASE (R154, R160, R163, R166). -/
namespace Sys2Proof.Machine

section
variable {s : State} {t : Tr} {x : Transport} {f : State → State} {cond : Condition}

@[simp] theorem State.withdrawData_data (s : State) (t : Tr) : (s.withdrawData t).arb.data = s.arb.data.set t none := by
  simp only [State.withdrawData, Arbiter.orphanCurrent]
  split
  · split <;> rfl
  · rfl

theorem Transport.Working.mayEnd (h : x.Working) : x.MayEnd := ⟨h.1, h.2.1, h.2.2.2.1, fun _ => h.2.2.2.2⟩

theorem faultStopCondition_unnoticed {p : Port} (h : p.stopNotice = false) (c : Condition) : faultStopCondition p c = c := by
  simp [faultStopCondition, h]

/-- What the end of a Transfer Unit's order leaves, its transport's record being `x` before (R154, 9.9). -/
def State.TransferEnded (s s' : State) (t : Tr) (x : Transport) (cond : Condition) : Prop :=
  s.OnlyAt s' t ∧ s'.store = s.store ∧ s'.exchange = s.exchange ∧ s'.arb.data = s.arb.data.set t none ∧
    s'.tr t = Transport.refresh { x.transferOver with
      port := { x.transferOver.port with pointer := .terminating, result := (s'.tr t).port.result } } ∧
    s.Terminates s' t cond (transferCount x) (signedLong (lastBlockStart x.reck)) (x.port.indicators ||| x.xfer.own)

/-- A command of one transport at which its Transfer Unit ends the order in flight (R154). -/
theorem exec_transferEnds {i : Instr} (hi : exec i s = runTr t s f) (hp : s.powered = true) (hw : (s.tr t).Working)
    (hf : f s = (s.setTr t x).xferEnd t cond) (hport : x.port = (s.tr t).port) (hctl : x.ctl = (s.tr t).ctl)
    (hset : x.transferOver.Settled) (hc : transferCount x ≤ 65535) :
    ∃ s', exec i s = .next s' ∧ s.TransferEnded s' t x cond := by
  have hmay : x.MayEnd := by
    have h := hw.mayEnd
    rw [Transport.MayEnd, hport, hctl]
    exact h
  have hreport : x.transferOver.Reporting := ⟨hmay.1, rfl, rfl, hmay.2.2.1⟩
  have hnotice : x.port.stopNotice = false := hport ▸ hw.2.2.1
  rw [State.xferEnd_eq (by rw [State.tr_setTr_same]; exact hmay) (by rw [State.tr_setTr_same]; exact hc),
    State.tr_setTr_same, faultStopCondition_unnoticed hnotice] at hf
  obtain ⟨s', hx, honly, hexch, hstore, harb, htr, hterm⟩ := exec_ended
    (z := ((s.setTr t x).withdrawData t).setTr t x.transferOver) hi hp hf (by simp) (by simp)
    (by rw [State.tr_setTr_same]; exact ⟨hreport, hset, congrArg Port.index (a₁ := x.port) hport⟩) hc rfl
  rw [State.tr_setTr_same] at htr hterm
  exact ⟨s', hx, honly, by simpa using hstore, by simpa using hexch, (congrArg Arbiter.data harb).trans (by simp), htr, hterm⟩

end

section
variable {s s' : State} {t : Tr} {x : Transport} {cond : Condition}

theorem State.TransferEnded.xfer (h : s.TransferEnded s' t x cond) : (s'.tr t).xfer = .idle := by
  obtain ⟨-, -, -, -, htr, -⟩ := h
  exact (congrArg Transport.xfer htr).trans (Transport.refresh_xfer _)

theorem State.TransferEnded.reck (h : s.TransferEnded s' t x cond) : (s'.tr t).reck = x.reck := by
  obtain ⟨-, -, -, -, htr, -⟩ := h
  exact (congrArg Transport.reck htr).trans (Transport.refresh_reck _)

theorem State.TransferEnded.chan (h : s.TransferEnded s' t x cond) : (s'.tr t).chan = x.chan.leaveTransfer x.xfer.order := by
  obtain ⟨-, -, -, -, htr, -⟩ := h
  exact (congrArg Transport.chan htr).trans (Transport.refresh_chan _)

theorem State.TransferEnded.holdOver (h : s.TransferEnded s' t x cond) : (s'.tr t).drive.holdOver = x.drive.holdOver := by
  obtain ⟨-, -, -, -, htr, -⟩ := h
  exact (congrArg (fun y : Transport => y.drive.holdOver) htr).trans (by simp [Transport.transferOver])

end

/-- Settles O54. -/
theorem transferEnds : Obligations.TransferEnds := by
  intro s t hp hs hw
  refine ⟨fun b ho hphase hfifo hbusy hn => ?_, fun n f ho hphase hgap hform hwait hdue hrun hkind hh hn => ?_,
    fun n ho hphase hn hn' hact hrun hkind hh => ?_⟩
  · have hcount : transferCount (s.tr t) = (s.tr t).xfer.resultBytes := by simp [transferCount, ho]
    obtain ⟨s', hx, hend⟩ := exec_transferEnds (i := .readDrainComplete t) (x := s.tr t)
      (f := fun s => if s.drainDue t then s.xferEnd t ((s.tr t).xfer.held.getD .normal) else s)
      (cond := (s.tr t).xfer.held.getD .normal) rfl hp hw
      (by simp [State.drainDue, hphase, hfifo, hbusy]) rfl rfl (State.settled_iff.mp hs).congr (hcount ▸ hn)
    have ⟨honly, hstore, hexch, hdata, _, hterm⟩ := hend
    exact ⟨s', hx, honly, hstore, hexch, hend.xfer, hend.reck, hdata, hcount ▸ hterm⟩
  · obtain ⟨s', hx, hend⟩ := exec_transferEnds (i := .writeStartTimeout t) (f := fun s => s.doStartTimeout t) (cond := .dataLate)
      (x := { s.tr t with
        chan := { (s.tr t).chan with formation := none }, xfer := { (s.tr t).xfer with quiet := true },
        drive := { (s.tr t).drive with holdOver := some (s.tr t).drive.active.h, stopTarget := none } }) rfl hp hw
      (by
        simp [State.doStartTimeout, Transport.startTimeoutDue, hphase, hgap, hform, hwait, hdue, Channel.fill,
          Transport.recordEnd, Drive.recordEnd, hrun, hkind, hh.ne'])
      rfl rfl (.of_moving (Drive.atRest_of_phase (by simp [Transport.transferOver, hrun]))) (by simpa [transferCount, ho] using hn)
    have ⟨honly, hstore, hexch, hdata, _, hterm⟩ := hend
    refine ⟨s', hx, honly, hstore, hexch, hend.xfer, hend.reck, hdata, ?_, hend.holdOver, ?_⟩
    · simp [hend.chan, Channel.leaveTransfer, Channel.watchOff]
    · simpa [transferCount, ho] using hterm
  · obtain ⟨s', hx, hend⟩ := exec_transferEnds (i := .eraseLengthReached t) (f := fun s => s.doEraseLength t) (cond := .normal)
      (x := { s.tr t with
        chan := { (s.tr t).chan with activity := .listen, writeGate := false },
        drive := { (s.tr t).drive with holdOver := some (s.tr t).drive.active.h, stopTarget := none } }) rfl hp hw
      (by
        simp [State.doEraseLength, Transport.eraseDue, ho, hphase, hn, Channel.endErasing, Channel.setActivity, hact,
          Transport.recordEnd, Drive.recordEnd, hrun, hkind, hh.ne'])
      rfl rfl (.of_moving (Drive.atRest_of_phase (by simp [Transport.transferOver, hrun]))) (by simpa [transferCount, ho] using hn')
    have ⟨honly, hstore, hexch, hdata, _, hterm⟩ := hend
    refine ⟨s', hx, honly, hstore, hexch, hend.xfer, hend.reck, hdata, ?_, ?_, hend.holdOver, ?_⟩
    · simp [hend.chan, Channel.leaveTransfer, Channel.watchOff]
    · simp [hend.chan, Channel.leaveTransfer, Channel.watchOff]
    · simpa [transferCount, ho] using hterm

end Sys2Proof.Machine
end

section
/-! PROOF. The bursts of READ and WRITE (R155, R156). -/
namespace Sys2Proof.Machine

theorem bytesOfWords_length (ws : List Word) : (bytesOfWords ws).length = 2 * ws.length := by
  induction ws with
  | nil => rfl
  | cons w ws ih => simp [bytesOfWords, ih]; omega

section
variable {s : State} {t : Tr} {x : BusTransfer}

/-- A burst whose end changes only the record of the Transfer Unit. -/
theorem State.burstEnds {v : Transfer} {r : Host.Outcome State Fault Refusal}
    (h : r = .next ((s.freePort x x.length).setTr t { s.tr t with xfer := v }).refreshAll.finish ∧
      s.OnlyAtEach ((s.freePort x x.length).setTr t { s.tr t with xfer := v }).refreshAll.finish t) :
    ∃ s', r = .next s' ∧ s.OnlyAtEach s' t ∧ s'.store = s.store ∧ s'.exchange = s.exchange ∧
      s'.arb = { s.arb with current := none } ∧
      s'.hostMemory = memWriteWords s.hostMemory x.address (x.words.take x.length) ∧
      s'.tr t = Transport.refresh { s.tr t with xfer := v } :=
  ⟨_, h.1, h.2, by simp, by simp, by simp, by simp, by simp⟩

/-- The test of R156 after a burst finds no room left to ask for. -/
theorem Transport.wantsBurst_full {y : Transport} {n : Nat} (ho : y.xfer.order = .write n) (hroom : y.xfer.roomLeft = 0) :
    y.wantsBurst = none := by
  simp [Transport.wantsBurst, ho, hroom]

end

/-- Settles O53. -/
theorem dataBursts : Obligations.DataBursts := by
  intro s t x hq
  refine ⟨fun h ho hfifo hth => ?_, fun n ws h ho hspill hroom => ?_⟩
  · have hwant : Transport.wantsBurst { s.tr t with xfer := (s.tr t).xfer.delivered x.sizes } = none := by
      have hth' : (s.tr t).drive.active.threshold ≠ 0 := Nat.ne_of_gt hth
      simp [Transport.wantsBurst, Transfer.delivered, hq, ho, hfifo, hth']
    have hf : ((s.freePort x x.length).modXfer t (·.delivered x.sizes)).xferTest t =
        (s.freePort x x.length).setTr t { s.tr t with xfer := (s.tr t).xfer.delivered x.sizes } := by
      rw [State.xferTest_none (by simpa using hwant)]
      simp
    have hburst := State.burstEnds (endWrite_transfer (f := fun t x s => (s.modXfer t (·.delivered x.sizes)).xferTest t) h.1 hf
      (by simp) (by simp) (by simpa using (h.1.settled t).congr))
    rw [List.take_of_length_le h.2.1.le] at hburst
    exact hburst
  · have hlen : ((bytesOfWords ws).take (s.tr t).xfer.roomLeft).length = (s.tr t).xfer.roomLeft := by
      rw [List.length_take, bytesOfWords_length, Nat.min_eq_left hroom]
    have hwords : (s.tr t).xfer.takeWords ws = { (s.tr t).xfer with
        fifo := (s.tr t).xfer.fifo ++ (bytesOfWords ws).take (s.tr t).xfer.roomLeft, roomLeft := 0,
        hostAddress := ((s.tr t).xfer.hostAddress + 2 * ws.length) % 16777216 } := by
      simp only [Transfer.takeWords, hspill, hlen, Nat.sub_self, Bool.false_eq_true, if_false]
    have hf : ((s.freePort x x.length).modXfer t (·.takeWords ws)).xferTest t =
        (s.freePort x x.length).setTr t { s.tr t with xfer := (s.tr t).xfer.takeWords ws } := by
      rw [State.xferTest_none (Transport.wantsBurst_full (n := n) (by simp [hwords, ho]) (by simp [hwords]))]
      simp
    have hburst := State.burstEnds (endRead_transfer (f := fun t s => (s.modXfer t (·.takeWords ws)).xferTest t) h hf
      (by simp) (by simp) (by simpa using (h.1.settled t).congr))
    rw [h.2.1, List.take_nil, memWriteWords_nil, hwords] at hburst
    exact hburst

end Sys2Proof.Machine
end

section
/-! PROOF. The map orders ENTER MARK, AMEND MARK, RETIRE MARK and LOOK UP MARK (R98 to R103). -/
namespace Sys2Proof.Machine

/-! ### Transfers at whose end an order ends -/

section
variable {s z : State} {t : Tr} {x : BusTransfer} {k : TransferKind} {n : Nat} {ws : List Word} {y : Transport} {r : OrderResult}

/-- What the end of a transfer leaves whose requester makes `z` of the state and ends the order (R141, R149). -/
def State.EachEnded (s s' z : State) (t : Tr) (r : OrderResult) : Prop :=
  s.OnlyAtEach s' t ∧ s'.store = z.store ∧ s'.exchange = z.exchange ∧
    s'.arb = { z.arb with control := z.arb.control.set t (s'.arb.control.get t) } ∧ s'.hostMemory = z.hostMemory ∧
    s'.tr t = Transport.refresh { z.tr t with
      port := { (z.tr t).port with pointer := .terminating, result := (s'.tr t).port.result } } ∧
    s.Terminates s' t r.condition r.count r.value (z.tr t).port.indicators

theorem State.each_ended (hz : (z.tr t).EndsFrom (s.tr t)) (hp : z.power = s.power) (hc : r.count ≤ 65535) (hm : r.markBlock = none) :
    let w := z.endOrder t r
    (w.tr t).Settled ∧ w.beyond t = z.beyond t ∧ w.power = s.power ∧
      (s.OnlyAtEach w.refreshAll.finish t → s.EachEnded w.refreshAll.finish z t r) := by
  obtain ⟨hrep, hset, hi⟩ := hz
  have hend := State.endOrder_reporting hrep hc
  have hterm := State.terminates_of (s := s) (s' := (z.endOrder t r).refreshAll.finish) hrep hi hc hm (by simp) (by simp)
  have hheld := hrep.2.1
  refine ⟨?_, by simp, ?_, fun honly => ⟨honly, ?_, ?_, ?_, ?_, ?_, hterm⟩⟩
  all_goals simp only [hend, Transport.ended]
  · simpa using hset.congr
  · simpa using hp
  · simp
  · simp
  · simp
  · simp
  · simp [Transport.refresh, hheld]

theorem endRead_ends {f : Tr → State → State} (h : s.Reads t x k ws) (hf : f t (s.freePort x x.length) = z.endOrder t r)
    (hb : z.beyond t = (s.freePort x x.length).beyond t) (hp : z.power = s.power) (hz : (z.tr t).EndsFrom (s.tr t))
    (hc : r.count ≤ 65535 := by simp) (hm : r.markBlock = none := by rfl) :
    ∃ s', endRead k ws s f = .next s' ∧ s.EachEnded s' z t r := by
  obtain ⟨hset, hb', hp', hended⟩ := State.each_ended hz hp hc hm
  obtain ⟨hexec, honly⟩ := endRead_transfer h hf (hb'.trans hb) hp' hset
  exact ⟨_, hexec, hended honly⟩

theorem endWrite_ends {f : Tr → BusTransfer → State → State} (h : s.Transfers t x k)
    (hf : f t x (s.freePort x x.length) = z.endOrder t r) (hb : z.beyond t = (s.freePort x x.length).beyond t)
    (hp : z.power = s.power) (hz : (z.tr t).EndsFrom (s.tr t)) (hc : r.count ≤ 65535 := by simp)
    (hm : r.markBlock = none := by rfl) :
    ∃ s', endWrite k s f = .next s' ∧ s.EachEnded s' z t r := by
  obtain ⟨hset, hb', hp', hended⟩ := State.each_ended hz hp hc hm
  obtain ⟨hexec, honly⟩ := endWrite_transfer h hf (hb'.trans hb) hp' hset
  exact ⟨_, hexec, hended honly⟩

end

/-! ### Orders that edit a map and end (R100 to R102) -/

section
variable {s z : State} {t : Tr} {code : Nat} {c : OrderCopy} {f : State → OrderCopy → State} {y : Transport} {r : OrderResult}
  {es : List Entry}

theorem State.reel_setEntries (s : State) (t : Tr) (es : List Entry) :
    (s.setEntries t es).reel t = { s.reel t with entries := es } := by
  simp [State.setEntries]

theorem State.poolFree_setEntries (s : State) (t : Tr) (es : List Entry) :
    (s.setEntries t es).store.poolFree = s.store.poolFree + (s.reel t).entries.length - es.length := rfl

/-- What an order leaves that has replaced the entry list of its transport's map and ended. -/
def State.MapEdited (s s' : State) (t : Tr) (es : List Entry) : Prop :=
  s.OnlyAt s' t ∧ s'.exchange = s.exchange ∧ s.OnlyControl s' t ∧
    (s'.tr t).reck = (s.tr t).reck ∧ (s'.tr t).ctl = (s.tr t).ctl ∧ (s'.tr t).chan = (s.tr t).chan ∧
    s'.store.poolFree = s.store.poolFree + (s.reel t).entries.length - es.length ∧
    s'.reel t = { s.reel t with entries := es }

/-- An order that awaits its owner and that replaces the entry list and ends. -/
theorem exec_edits {i : Instr} {p : Port} (hi : exec i s = runTr t s fun s => s.takeOrder t code f) (ha : s.Awaits t code c) (hs : s.Settled t)
    (hf : f (s.setTr t (s.tr t).withTaken) c = ((s.setTr t { s.tr t with port := p }).setEntries t es).endOrder t r)
    (hr : Transport.Reporting { s.tr t with port := p }) (hidx : p.index = (s.tr t).port.index) (hc : r.count ≤ 65535)
    (hm : r.markBlock = none) :
    ∃ s', exec i s = .next s' ∧ s.MapEdited s' t es ∧ s.Terminates s' t r.condition r.count r.value p.indicators := by
  obtain ⟨s', hx, honly, hexch, hctrl, hstore, htr, hterm⟩ := exec_ends
    (z := (s.setTr t { s.tr t with port := p }).setEntries t es) hi ha hf
    ⟨by simp [State.setEntries], by simp [State.setEntries], by simp [State.setEntries], by simp [State.setEntries]⟩
    (by rw [State.tr_setEntries, State.tr_setTr_same]; exact ⟨hr, (State.settled_iff.mp hs).congr, hidx⟩) hc hm
  rw [State.tr_setEntries, State.tr_setTr_same] at htr hterm
  refine ⟨s', hx, ⟨honly, hexch, hctrl, ?_, ?_, ?_, ?_, ?_⟩, hterm⟩
  · exact (congrArg Transport.reck htr).trans (Transport.refresh_reck _)
  · exact (congrArg Transport.ctl htr).trans (Transport.refresh_ctl _)
  · exact (congrArg Transport.chan htr).trans (Transport.refresh_chan _)
  · rw [hstore, State.poolFree_setEntries, State.reel_setTr, State.setTr_store]
  · refine (congrArg (fun m : MapStore => m.reels.get t) hstore).trans ((State.reel_setEntries _ t es).trans ?_)
    rw [State.reel_setTr]

/-- A map order that ends with the map as it was. -/
theorem exec_refuses {i : Instr} (hi : exec i s = runTr t s fun s => s.takeOrder t code f) (ha : s.Awaits t code c) (hs : s.Settled t)
    (hf : f (s.setTr t (s.tr t).withTaken) c = (s.setTr t (s.tr t).withTaken).endOrder t r)
    (hc : r.count ≤ 65535 := by simp) (hm : r.markBlock = none := by rfl) :
    ∃ s', exec i s = .next s' ∧ s.OnlyAt s' t ∧ s'.store = s.store ∧ s'.exchange = s.exchange ∧ s.OnlyControl s' t ∧
      (s'.tr t).reck = (s.tr t).reck ∧ (s'.tr t).ctl = (s.tr t).ctl ∧ (s'.tr t).chan = (s.tr t).chan ∧
      s.Terminates s' t r.condition r.count r.value (s.tr t).port.indicators := by
  obtain ⟨s', hx, honly, hstore, hexch, hctrl, htr, hterm⟩ := exec_ends_at (y := (s.tr t).withTaken) hi ha hf
    ⟨ha.reporting, (State.settled_iff.mp hs).congr, rfl⟩ hc hm
  exact ⟨s', hx, honly, hstore, hexch, hctrl, (congrArg Transport.reck htr).trans (Transport.refresh_reck _),
    (congrArg Transport.ctl htr).trans (Transport.refresh_ctl _), (congrArg Transport.chan htr).trans (Transport.refresh_chan _), hterm⟩

end

/-! ### AMEND MARK and RETIRE MARK (R101, R102) -/

section
variable {s : State} {t : Tr} {c : OrderCopy} {e : Entry} {tag : List Word}

theorem markInRange_opA (h0 : c.opA ≠ 0) (h5 : c.opA ≠ 50000) : markInRange c.opA = true := by
  have hlt : c.opA < 65536 := c.w1.isLt
  simp [markInRange, h0, h5, Nat.le_of_lt_succ hlt]

theorem amendCheckOperands_none (hr : (s.reel t).state ≠ .none) (h0 : c.opA ≠ 0) (h5 : c.opA ≠ 50000) (hk : c.kindField ≠ 3)
    (hl : (amendOperands c).tagLength ≤ 4) : amendCheckOperands (s.reel t) (amendOperands c) = none := by
  have hl' : ¬ 4 < (amendOperands c).tagLength := by omega
  have hk' : (amendOperands c).kindField ≠ 3 := hk
  have hm : markInRange (amendOperands c).mark = true := markInRange_opA h0 h5
  simp [amendCheckOperands, hr, hm, hl', hk']

/-- An AMEND MARK past its checks amends the entry and ends (R101). -/
theorem State.amendStage3_found (hr : (s.reel t).state ≠ .none) (h0 : c.opA ≠ 0) (h5 : c.opA ≠ 50000)
    (he : findMark (s.reel t).entries c.opA = some e) (hk : c.kindField ≠ 3) (hl : (amendOperands c).tagLength ≤ 4)
    (hf : e.kind ≠ .file ∨ c.kindField = 0) :
    s.amendStage3 t (amendOperands c) tag = (s.setEntries t ((s.reel t).entries.map fun f =>
        if f.mark = c.opA then amendEntry f (amendOperands c) tag else f)).endOrder t
      { condition := .normal, count := 0, value := signedLong e.position, markBlock := none } := by
  have hcheck := amendCheckOperands_none hr h0 h5 hk hl
  have hmark : (amendOperands c).mark = c.opA := rfl
  have hkind : ¬ (e.kind = .file && (kindOfField (amendOperands c).kindField).isSome) = true := by
    obtain hf | hf := hf
    · simp [hf]
    · simp [amendOperands, hf, kindOfField]
  simp only [State.amendStage3, hcheck, hmark, he]
  rw [if_neg hkind]

end

/-- Settles O57. -/
theorem amendAndRetire : Obligations.AmendAndRetire := by
  intro s t c e hr h0 h5 he
  refine ⟨fun ha hs hk hf htag => ?_, fun ha hs hk htag h1 h4 => ?_, fun x ws hread hlen hw hcopy hcode hc htag hk hf => ?_,
    fun ha hs hlen => ?_⟩
  · have hl0 : (amendOperands c).tagLength = 0 := by
      obtain htag | htag := htag <;> simp [amendOperands, htag]
    have hl : (amendOperands c).tagLength ≤ 4 := by omega
    obtain ⟨s', hx, ⟨honly, hexch, hctrl, hreck, hctl, hchan, hpool, hreel⟩, hterm⟩ := exec_edits (i := .amendMark t)
      (f := fun s c => s.takeAmend t c) (p := (s.tr t).withTaken.port)
      (es := (s.reel t).entries.map fun f => if f.mark = c.opA then amendEntry f (amendOperands c) [] else f)
      (r := { condition := .normal, count := 0, value := signedLong e.position, markBlock := none }) rfl ha hs
      (by
        simp only [State.takeAmend, State.reel_setTr, amendCheckOperands_none hr h0 h5 hk hl, hl0, if_true]
        rw [State.amendStage3_found (by rw [State.reel_setTr]; exact hr) h0 h5 (by rw [State.reel_setTr]; exact he) hk hl hf,
          State.reel_setTr]
        rfl)
      ha.reporting rfl (Nat.zero_le _) rfl
    exact ⟨s', hx, honly, hexch, hctrl, hreck, hctl, hchan, by simpa using hpool, hreel, hterm⟩
  · have hlc : (amendOperands c).tagLength = c.opC := by simp [amendOperands, htag]
    have hl0 : ¬ c.opC = 0 := by omega
    refine exec_requests (f := fun s c => s.takeAmend t c) rfl ha ?_ (State.settled_iff.mp hs).congr
    have hcheck := amendCheckOperands_none hr h0 h5 hk (hlc ▸ h4)
    simp only [State.takeAmend, hcheck, State.reel_setTr, hlc, hl0, if_false, State.readTag, State.modTr_setTr, State.withTaken_eq, State.tr_setTr_same,
      State.setTr_setTr, State.readRecord]
    rfl
  · have hlc : (amendOperands c).tagLength = c.opC := by simp [amendOperands, htag]
    obtain ⟨s', hx, honly, hstore, hexch, harb, hmem, htr, hterm⟩ := endRead_ends (f := fun t s => s.tagRead t ws)
      (z := ((s.freePort x x.length).setTr t { s.tr t with mapOrder := .none }).setEntries t
        ((s.reel t).entries.map fun f => if f.mark = c.opA then amendEntry f (amendOperands c) ws else f))
      (r := { condition := .normal, count := 0, value := signedLong e.position, markBlock := none }) hread
      (by
        have hcode' : ¬ c.code = 12 := by omega
        simp only [State.tagRead, State.modTr_setTr, State.freePort_tr, State.tr_setTr_same, hcopy, hcode', if_false]
        rw [State.amendStage3_found (e := e) (by simpa using hr) h0 h5 (by simpa using he) hk (by omega) hf]
        simp)
      (by simp) (by simp) (by simpa using ⟨hw.reporting, (hread.1.settled t).congr, rfl⟩)
    rw [State.tr_setEntries, State.tr_setTr_same] at htr hterm
    have hedit : ∀ f, amendEntry f (amendOperands c) ws = { f with kind := (kindOfField c.kindField).getD f.kind, tag := ws } := by
      simp [amendEntry, amendOperands, htag]
    refine ⟨s', hx, honly, by simpa using hexch, ?_, ?_, ?_, ?_, ?_, ?_, ?_, hterm⟩
    · rw [harb]
      simp
    · exact (congrArg Transport.reck htr).trans (Transport.refresh_reck _)
    · exact (congrArg Transport.ctl htr).trans (Transport.refresh_ctl _)
    · exact (congrArg Transport.chan htr).trans (Transport.refresh_chan _)
    · rw [hmem]
      simp [hread.2.1, memWriteWords_nil]
    · rw [hstore, State.poolFree_setEntries]
      simp
    · refine (congrArg (fun m : MapStore => m.reels.get t) hstore).trans ((State.reel_setEntries _ t _).trans ?_)
      simp [hedit]
  · obtain ⟨s', hx, ⟨honly, hexch, hctrl, hreck, hctl, hchan, hpool, hreel⟩, hterm⟩ := exec_edits (i := .retireMark t)
      (f := fun s c => s.retireStage3 t c.opA (c.modifier 8)) (p := (s.tr t).withTaken.port)
      (es := retireKeeps (s.reel t).entries e (c.modifier 8))
      (r :=
        { condition := .normal, count := (s.reel t).entries.length - (retireKeeps (s.reel t).entries e (c.modifier 8)).length,
          value := signedLong e.position, markBlock := none }) rfl ha hs
      (by
        simp only [State.retireStage3, State.reel_setTr, hr, if_false, markInRange_opA h0 h5, he]
        rfl)
      ha.reporting rfl (by simp only; omega) rfl
    have hkept : (retireKeeps (s.reel t).entries e (c.modifier 8)).length ≤ (s.reel t).entries.length := List.length_filter_le _ _
    refine ⟨s', hx, honly, hexch, hctrl, hreck, hctl, hchan, ?_, hreel, ?_⟩
    · rw [hpool, hreel]
      simp only
      omega
    · rw [hreel]
      exact hterm

end Sys2Proof.Machine
end

section
/-! PROOF. LOOK UP MARK, the records that orders write, and ENTER MARK (R98 to R100, R103, R147). -/
namespace Sys2Proof.Machine

section
variable {s s' z : State} {t : Tr} {c : OrderCopy} {e : Entry} {r : OrderResult}

theorem lookUpInRange_of {p q : Prop} (h : if c.modifier 8 then p ∧ c.opB ≤ 16777215 else q ∧ c.opA ≠ 0 ∧ c.opA ≠ 50000) :
    lookUpInRange c = true ∧ (if c.modifier 8 then p else q) := by
  cases hm : c.modifier 8
  · simp only [hm, Bool.false_eq_true, if_false] at h ⊢
    obtain ⟨hq, h0, h5⟩ := h
    exact ⟨by simpa [lookUpInRange, hm] using markInRange_opA h0 h5, hq⟩
  · simp only [hm, if_true] at h ⊢
    exact ⟨by simpa [lookUpInRange, hm] using h.2, h.1⟩

theorem lookedUp_of {a : Option Entry} {r : ReelRecord}
    (h : if c.modifier 8 then nearestBelow r.entries c.opB = a else findMark r.entries c.opA = a) : lookedUp r c = a := by
  cases hm : c.modifier 8 <;> simpa [lookedUp, hm] using h

theorem State.EachEnded.reck (h : s.EachEnded s' z t r) : (s'.tr t).reck = (z.tr t).reck := by
  obtain ⟨-, -, -, -, -, htr, -⟩ := h
  exact (congrArg Transport.reck htr).trans (Transport.refresh_reck _)

theorem State.EachEnded.ctl (h : s.EachEnded s' z t r) : (s'.tr t).ctl = (z.tr t).ctl := by
  obtain ⟨-, -, -, -, -, htr, -⟩ := h
  exact (congrArg Transport.ctl htr).trans (Transport.refresh_ctl _)

theorem State.EachEnded.chan (h : s.EachEnded s' z t r) : (s'.tr t).chan = (z.tr t).chan := by
  obtain ⟨-, -, -, -, -, htr, -⟩ := h
  exact (congrArg Transport.chan htr).trans (Transport.refresh_chan _)

theorem State.EachEnded.port (h : s.EachEnded s' z t r) : (s'.tr t).port = { (z.tr t).port with
    pointer := .terminating, result := (s'.tr t).port.result } := by
  obtain ⟨-, -, -, -, -, htr, -⟩ := h
  exact (congrArg Transport.port htr).trans (Transport.refresh_port _)

/-- A control write of a record ends, and the order with it (R98, R147). -/
theorem endWrite_recordEnds {x : BusTransfer} {k : TransferKind} {y : Transport} {f : Tr → BusTransfer → State → State} (h : s.Writes t x k)
    (hf : f t x (s.freePort x x.length) = ((s.freePort x x.length).setTr t y).endOrder t r) (hy : y.EndsFrom (s.tr t))
    (hc : r.count ≤ 65535 := by simp) (hm : r.markBlock = none := by rfl) :
    ∃ s', endWrite k s f = .next s' ∧ s.OnlyAtEach s' t ∧ s'.exchange = s.exchange ∧ s'.arb.current = none ∧
      (s'.tr t).reck = y.reck ∧ (s'.tr t).ctl = y.ctl ∧ (s'.tr t).chan = y.chan ∧ s'.store = s.store ∧
      s'.hostMemory = memWriteWords s.hostMemory x.address x.words ∧
      (s'.tr t).port.attention = y.port.attention ∧ (s'.tr t).port.senseTaken = y.port.senseTaken ∧
      s.Terminates s' t r.condition r.count r.value y.port.indicators := by
  obtain ⟨htrans, hlen, hwords⟩ := h
  obtain ⟨s', hx, hend⟩ := endWrite_ends htrans hf (by simp) (by simp) (by rw [State.tr_setTr_same]; exact hy) hc hm
  have hreck := hend.reck
  have hctl := hend.ctl
  have hchan := hend.chan
  have hport := hend.port
  obtain ⟨honly, hstore, hexch, harb, hmem, -, hterm⟩ := hend
  rw [State.tr_setTr_same] at hreck hctl hchan hport hterm
  refine ⟨s', hx, honly, by simpa using hexch, ?_, hreck, hctl, hchan, by simpa using hstore, ?_, ?_, ?_, hterm⟩
  · rw [harb]
    simp
  · rw [hmem, State.setTr_hostMemory, State.freePort_hostMemory, List.take_of_length_le hlen.le]
  · rw [hport]
  · rw [hport]

end

/-- Settles O58. -/
theorem recordWrites : Obligations.RecordWrites := by
  intro s t
  refine ⟨fun c e ha hs hr hfound => ?_, fun c ha hs hr hnone => ?_, fun x hwrites hw => ?_, fun x hwrites hw => ?_⟩
  · obtain ⟨hrange, hfound⟩ := lookUpInRange_of hfound
    have hentry := lookedUp_of hfound
    refine exec_requests (f := fun s c => s.takeLookUp t c) rfl ha ?_ (State.settled_iff.mp hs).congr
    simp only [State.takeLookUp, State.withTaken_eq, State.reel_setTr, hr, if_false, hrange, hentry, State.modTr_setTr,
      State.tr_setTr_same, State.setTr_setTr]
    rfl
  · obtain ⟨hrange, hnone⟩ := lookUpInRange_of hnone
    have hentry := lookedUp_of hnone
    refine exec_refuses (f := fun s c => s.takeLookUp t c)
      (r := { condition := .noSuchMark, count := 0, value := 0, markBlock := none }) rfl ha hs ?_
    simp only [State.takeLookUp, State.reel_setTr, hr, if_false, hrange, hentry]
    rfl
  · obtain ⟨s', hx, honly, hexch, hcur, hreck, hctl, hchan, hstore, hmem, -, -, hterm⟩ := endWrite_recordEnds
      (f := fun t x s => (s.modTr t fun y => { y with mapOrder := .none }).endOrder t
        { condition := .normal, count := 1, value := tableLong x.words 4, markBlock := none })
      (y := { s.tr t with mapOrder := .none }) (r := { condition := .normal, count := 1, value := tableLong x.words 4, markBlock := none })
      hwrites (by simp) ⟨hw.reporting, (hwrites.1.settled t).congr, rfl⟩
    exact ⟨s', hx, honly, hexch, hcur, hreck, hctl, hchan, hstore, hmem, hterm⟩
  · obtain ⟨s', hx, honly, hexch, hcur, hreck, hctl, hchan, hstore, hmem, hatt, hsense, hterm⟩ := endWrite_recordEnds
      (f := fun t _ s => (s.modPort t fun p => { p with senseTaken := 0 }).endOrder t
        { condition := .normal, count := 16, value := 0, markBlock := none })
      (y := { s.tr t with port := { (s.tr t).port with senseTaken := 0 } })
      (r := { condition := .normal, count := 16, value := 0, markBlock := none })
      hwrites (by simp) ⟨hw.reporting, (hwrites.1.settled t).congr, rfl⟩
    exact ⟨s', hx, honly, hexch, hcur, hreck, hctl, hchan, hstore, hmem, hatt, hsense, hterm⟩

/-! ### ENTER MARK (R98 to R100) -/

section
variable {s : State} {t : Tr} {c : OrderCopy} {l : LastBlock} {b : Nat} {k : EntryKind} {tag : List Word} {e : Entry} {es : List Entry}

theorem enterCheckOperands_none (hr : (s.reel t).state = .active) (h1 : 1 ≤ c.opA) (h2 : c.opA ≤ 49999)
    (hk : kindOfField c.kindField = some k) (hl : c.opB ≤ 65535) (hc : c.opC ≤ 4) :
    enterCheckOperands (s.reel t) (enterOperands c) = none := by
  have h1' : ¬ c.opA = 0 := by omega
  simp [enterCheckOperands, enterOperands, hr, h1', hk, Nat.not_lt.mpr h2, Nat.not_lt.mpr hl, Nat.not_lt.mpr hc]

/-- Entries of other blocks than the one placed fall into those that keep a place below it, those that keep one above it,
and those it retires (R97). -/
theorem placeEntry_length (hb : ∀ f ∈ es, f.block ≠ e.block) :
    (placeEntry es e).length + placeRetires es e = es.length + 1 := by
  induction es with
  | nil => rfl
  | cons f es ih =>
    have hf : f.block ≠ e.block := hb f (List.mem_cons_self ..)
    have ih := ih fun g hg => hb g (List.mem_cons_of_mem _ hg)
    simp only [placeEntry, placeRetires, List.length_append, List.length_cons] at ih ⊢
    rcases Nat.lt_or_gt_of_ne hf with hlt | hgt
    · cases hkeep : keepsPlace e f <;> simp [hlt, Nat.le_of_lt hlt, hf, hkeep] <;> omega
    · cases hkeep : keepsPlace e f <;> simp [hgt, Nat.le_of_lt hgt, hf, hkeep] <;> omega

theorem placeEntry_eq (es : List Entry) (e : Entry) : placeEntry es e =
    es.filter (fun f => f.block < e.block ∧ f.position < e.position) ++
      e :: es.filter (fun f => e.block < f.block ∧ e.position < f.position) := by
  have hlow : ∀ f : Entry, (decide (f.block < e.block) && keepsPlace e f) = decide (f.block < e.block ∧ f.position < e.position) := by
    intro f
    by_cases h : f.block < e.block
    · simp [keepsPlace, h, Nat.not_lt.mpr (Nat.le_of_lt h)]
    · simp [h]
  have hhigh : ∀ f : Entry, (decide (e.block < f.block) && keepsPlace e f) = decide (e.block < f.block ∧ e.position < f.position) := by
    intro f
    by_cases h : e.block < f.block
    · simp [keepsPlace, h, Nat.not_lt.mpr (Nat.le_of_lt h)]
    · simp [h]
  simp only [placeEntry, hlow, hhigh]

/-- The entry that an ENTER MARK makes, with its position clamped at 0 (R95, R100). -/
theorem enteredEntry_eq (hk : kindOfField c.kindField = some k) (hb : l.block = some b) (slot : Nat) :
    enteredEntry l (enterOperands c) tag slot =
      { mark := c.opA, kind := k, block := b, position := max 0 l.start, recordLength := c.opB,
        bound :=
          if l.start < 0 then
            some (min 20000 ((if l.anchor = .drifted then l.bound else 0) + l.start.natAbs))
          else if l.anchor = .drifted then some l.bound
          else none,
        tag := tag, slot := slot } := by
  by_cases hneg : l.start < 0
  · have hmax : max 0 l.start = 0 := by omega
    by_cases hd : l.anchor = .drifted <;>
      simp [enteredEntry, clampEntry, enterOperands, hneg, hk, hb, hmax, hd]
  · have hmax : max 0 l.start = l.start := by omega
    simp [enteredEntry, clampEntry, enterOperands, hneg, hk, hb, hmax]

theorem State.takeEnter_refuses {d : Condition} (ho : enterCheckOperands (s.reel t) (enterOperands c) = none) (h0 : c.opC = 0)
    (hm : enterCheckMap s t (enterOperands c) = some d) : s.takeEnter t c = s.endWith t d := by
  have hl : (enterOperands c).tagLength = 0 := h0
  simp only [State.takeEnter, ho, hl, if_true, State.enterStage3, hm]

theorem State.takeEnter_applies (ho : enterCheckOperands (s.reel t) (enterOperands c) = none) (h0 : c.opC = 0)
    (hm : enterCheckMap s t (enterOperands c) = none) (hl : (s.tr t).reck.lastBlock = some l) :
    s.takeEnter t c = s.enterApply t (enterOperands c) l [] := by
  have hlen : (enterOperands c).tagLength = 0 := h0
  simp only [State.takeEnter, ho, hlen, if_true, State.enterStage3, hm, hl]

theorem enterCheckMap_withTaken (s : State) (t : Tr) (o : EnterOperands) :
    enterCheckMap (s.setTr t (s.tr t).withTaken) t o = enterCheckMap s t o := by
  simp only [enterCheckMap, State.reel_setTr, State.tr_setTr_same, State.setTr_store]
  rfl

theorem Port.raisedIf_mapChanged {p : Port} (h : p.pointer = .inFlight) (b : Bool) : p.raisedIf b .mapChanged =
    { p with indicators := if b then p.indicators ||| 4#16 else p.indicators } := by
  cases b <;> simp [Port.raisedIf, Port.raiseInd, indicatorBit, eq_true h]

/-- A mark that no entry has leaves the list as it is when a REPLACE takes it out (R100). -/
theorem filter_mark_ne {m : Nat} (h : findMark es m = none) : es.filter (·.mark ≠ m) = es := by
  rw [List.filter_eq_self]
  intro f hf
  simpa using List.find?_eq_none.mp h f hf

/-- The change of an ENTER MARK of a new mark (R97, R100). -/
theorem State.enterApply_new (hm : findMark (s.reel t).entries c.opA = none) :
    s.enterApply t (enterOperands c) l tag =
      ((s.setEntries t (placeEntry (s.reel t).entries (enteredEntry l (enterOperands c) tag s.store.freeSlot))).modPort t fun p =>
        p.raisedIf (placeRetires (s.reel t).entries (enteredEntry l (enterOperands c) tag s.store.freeSlot) ≠ 0) .mapChanged).endOrder t
        { condition := .normal
          count := placeRetires (s.reel t).entries (enteredEntry l (enterOperands c) tag s.store.freeSlot)
          value := signedLong (enteredEntry l (enterOperands c) tag s.store.freeSlot).position, markBlock := none } := by
  have hmark : (enterOperands c).mark = c.opA := rfl
  have hself : (if (enterOperands c).replace then s.setEntries t ((s.reel t).entries.filter (·.mark ≠ (enterOperands c).mark)) else s) = s := by
    rw [hmark, filter_mark_ne hm]
    have hset : s.setEntries t (s.reel t).entries = s := State.setReel_reel s t
    rw [hset, ite_self]
  simp only [State.enterApply]
  rw [hself, State.raiseIndIf_eq]

end

/-- Settles O56. -/
theorem enterMark : Obligations.EnterMark := by
  intro s t c k ha hs hact h1 h2 hk hlen
  have hops : c.opC = 0 → enterCheckOperands ((s.setTr t (s.tr t).withTaken).reel t) (enterOperands c) = none := fun h0 =>
    enterCheckOperands_none (by rw [State.reel_setTr]; exact hact) h1 h2 hk hlen (by omega)
  have hrefuse : ∀ {d : Condition}, c.opC = 0 → enterCheckMap s t (enterOperands c) = some d →
      (s.setTr t (s.tr t).withTaken).takeEnter t c = (s.setTr t (s.tr t).withTaken).endOrder t
        { condition := d, count := 0, value := 0, markBlock := none } := fun h0 hd =>
    State.takeEnter_refuses (hops h0) h0 ((enterCheckMap_withTaken s t _).trans hd)
  refine ⟨fun l b h0 hanchor hl hb hlast heod hfits hmark hblock hpool hroom => ?_, fun h0 hlost => ?_,
    fun h0 hanchor hl => ?_, fun l b h0 hanchor hl hb hlast heod hfits hrep hdup => ?_, fun hc1 hc4 => ?_⟩
  · have hpast : ((s.reel t).eod.any fun n => n ≤ b) = false := by
      cases hn : (s.reel t).eod <;> simp_all
    have hother : ((s.reel t).entries.any fun e => e.block = b && e.mark != c.opA) = false := by
      rw [List.any_eq_false]
      intro f hf
      simp [hblock f hf]
    have hmap : enterCheckMap s t (enterOperands c) = none := by
      simp only [enterCheckMap, hanchor, hl, hb, if_false, enterOperands, hmark, hpast, hfits, hother]
      simp [hlast, hpool, hroom]
    have hentry := enteredEntry_eq (l := l) (tag := []) hk hb s.store.freeSlot
    have hcount := placeEntry_length (es := (s.reel t).entries) (e := enteredEntry l (enterOperands c) [] s.store.freeSlot)
      (by rw [hentry]; exact hblock)
    have hf := (State.takeEnter_applies (hops h0) h0 ((enterCheckMap_withTaken s t _).trans hmap) (by rw [State.tr_setTr_same]; exact hl)).trans
      (State.enterApply_new (tag := []) (by rw [State.reel_setTr]; exact hmark))
    have hport := Port.raisedIf_mapChanged (p := (s.tr t).withTaken.port) ha.1.2.1.1
      (placeRetires (s.reel t).entries (enteredEntry l (enterOperands c) [] s.store.freeSlot) ≠ 0)
    obtain ⟨s', hx, ⟨honly, hexch, hctrl, hreck, hctl, hchan, hfree, hreel⟩, hterm⟩ := exec_edits (i := .enterMark t)
      (f := fun s c => s.takeEnter t c)
      (p := (s.tr t).withTaken.port.raisedIf
        (placeRetires (s.reel t).entries (enteredEntry l (enterOperands c) [] s.store.freeSlot) ≠ 0) .mapChanged)
      (es := placeEntry (s.reel t).entries (enteredEntry l (enterOperands c) [] s.store.freeSlot))
      (r :=
        { condition := .normal
          count := placeRetires (s.reel t).entries (enteredEntry l (enterOperands c) [] s.store.freeSlot)
          value := signedLong (enteredEntry l (enterOperands c) [] s.store.freeSlot).position, markBlock := none }) rfl ha hs
      (hf.trans (by
        rw [State.reel_setTr, State.setTr_store, State.modPort_setTr, State.tr_setEntries, State.tr_setTr_same, State.setTr_setEntries,
          State.setTr_setTr]
        rfl))
      (by rw [hport]; exact ha.reporting) (by rw [hport]; rfl) (by simp only; omega) rfl
    have hlen' : (s'.reel t).entries.length =
        (placeEntry (s.reel t).entries (enteredEntry l (enterOperands c) [] s.store.freeSlot)).length := by rw [hreel]
    have hretired : placeRetires (s.reel t).entries (enteredEntry l (enterOperands c) [] s.store.freeSlot) =
        (s.reel t).entries.length + 1 - (s'.reel t).entries.length := by omega
    have hchanged : (placeRetires (s.reel t).entries (enteredEntry l (enterOperands c) [] s.store.freeSlot) ≠ 0) =
        ((s'.reel t).entries.length ≤ (s.reel t).entries.length) := by
      rw [eq_iff_iff]
      omega
    rw [hport] at hterm
    simp only [decide_eq_true_eq, hchanged] at hterm
    rw [hretired, hentry] at hterm
    refine ⟨s', hx, honly, hexch, hctrl, hreck, hctl, hchan, hreel.trans ?_, by omega, hterm⟩
    rw [placeEntry_eq, hentry]
  · exact exec_refuses (i := .enterMark t) (f := fun s c => s.takeEnter t c) rfl ha hs (hrefuse h0 (by simp [enterCheckMap, hlost]))
  · exact exec_refuses (i := .enterMark t) (f := fun s c => s.takeEnter t c) rfl ha hs
      (hrefuse h0 (by simp only [enterCheckMap, hanchor, hl, if_false]))
  · have hpast : ((s.reel t).eod.any fun n => n ≤ b) = false := by
      cases hn : (s.reel t).eod <;> simp_all
    exact exec_refuses (i := .enterMark t) (f := fun s c => s.takeEnter t c) rfl ha hs
      (hrefuse h0 (by simp [enterCheckMap, hanchor, hl, hb, hlast, hpast, enterOperands, hfits, hrep, hdup]))
  · have hl0 : ¬ c.opC = 0 := by omega
    have hcheck := enterCheckOperands_none hact h1 h2 hk hlen hc4
    have hlen : (enterOperands c).tagLength = c.opC := rfl
    refine exec_requests (f := fun s c => s.takeEnter t c) rfl ha ?_ (State.settled_iff.mp hs).congr
    simp only [State.takeEnter, hcheck, State.reel_setTr, hlen, hl0, if_false, State.readTag, State.modTr_setTr, State.withTaken_eq,
      State.tr_setTr_same, State.setTr_setTr, State.readRecord]
    rfl

end Sys2Proof.Machine
end

section
/-! PROOF. The exchange area: DUMP MAP and LOAD MAP (R170 to R175). -/
namespace Sys2Proof.Machine

/-! ### The exchange area as a part of the state -/

/-- The state with the exchange area replaced. -/
def State.setExchange (s : State) (e : Exchange) : State := { s with exchange := e }

section
variable {s z : State} {t : Tr} {e : Exchange} {c : OrderCopy} {x : BusTransfer} {y : Transport} {r : OrderResult} {a : Arbiter}

@[simp] theorem State.tr_setExchange (s : State) (e : Exchange) (u : Tr) : (s.setExchange e).tr u = s.tr u := rfl
@[simp] theorem State.reel_setExchange (s : State) (e : Exchange) (u : Tr) : (s.setExchange e).reel u = s.reel u := rfl
@[simp] theorem State.setExchange_exchange (s : State) (e : Exchange) : (s.setExchange e).exchange = e := rfl
@[simp] theorem State.setExchange_store (s : State) (e : Exchange) : (s.setExchange e).store = s.store := rfl
@[simp] theorem State.setExchange_arb (s : State) (e : Exchange) : (s.setExchange e).arb = s.arb := rfl
@[simp] theorem State.setExchange_power (s : State) (e : Exchange) : (s.setExchange e).power = s.power := rfl
@[simp] theorem State.setExchange_hostMemory (s : State) (e : Exchange) : (s.setExchange e).hostMemory = s.hostMemory := rfl
@[simp] theorem State.setExchange_beyond (s : State) (e : Exchange) : (s.setExchange e).beyond t = s.beyond t := rfl
@[simp] theorem State.setTr_setExchange (s : State) (e : Exchange) (u : Tr) (x : Transport) :
    (s.setExchange e).setTr u x = (s.setTr u x).setExchange e := rfl
@[simp] theorem State.setArb_hostMemory (s : State) (a : Arbiter) : (s.setArb a).hostMemory = s.hostMemory := rfl

theorem State.AllSettled.settled (h : s.AllSettled) (u : Tr) : (s.tr u).Settled := by
  obtain ⟨h0, h1, h2, h3⟩ := h
  exact State.settled_iff.mp (by cases u; exacts [h0, h1, h2, h3])

@[simp] theorem State.setArb_powered (s : State) (a : Arbiter) : (s.setArb a).powered = s.powered := rfl
@[simp] theorem State.setArb_pending (s : State) (a : Arbiter) : (s.setArb a).pending = s.pending := rfl
@[simp] theorem State.setExchange_powered (s : State) (e : Exchange) : (s.setExchange e).powered = s.powered := rfl
@[simp] theorem State.setExchange_pending (s : State) (e : Exchange) : (s.setExchange e).pending = s.pending := rfl

/-- A command of the whole controller that leaves every transport's record as it was. -/
theorem runEach_records {f : State → State} (hp : s.powered = true) (hall : s.AllSettled) (hf : f s = z) (htr : ∀ u, z.tr u = s.tr u) :
    runEach s f = .next z.refreshAll.finish := by
  rw [runEach_powered hp, hf, State.settleAll_only (t := .t0) hall (fun u _ => htr u) (htr .t0 ▸ hall.settled .t0)]

theorem Four.set_false {w : Four Bool} (h : w.get t = false) : w.set t false = w := by rw [← h, Four.set_get]

/-- The exchange area given to a transport's order (R170). -/
def Exchange.given (e : Exchange) (t : Tr) (table : List Word) : Exchange :=
  { holder := some t, waiting := e.waiting.set t false, last := t, table := table, written := 0 }

/-- The exchange area given up by the order of the transport that holds it (R170). -/
def Exchange.left (e : Exchange) (t : Tr) : Exchange :=
  { e with holder := none, waiting := e.waiting.set t false, table := [], written := 0 }

theorem State.giveArea_dump (hcopy : (s.tr t).port.copy = some c) (hcode : c.code = 19) (hr : (s.reel t).state ≠ .none)
    (hlen : tableLength (s.reel t).entries ≤ c.opC) :
    s.giveArea t = (s.setExchange (s.exchange.given t (tableWords (s.reel t)))).requestData t .dumpBurst := by
  have hc : (s.setExchange (s.exchange.given t [])).orderC t = c.opC := by simp [State.orderC, hcopy]
  have hgive : s.giveArea t = (s.setExchange (s.exchange.given t [])).dumpStart t := by
    simp only [State.giveArea]
    have hcopy' : ((s.setExchange (s.exchange.given t [])).tr t).port.copy = some c := hcopy
    simp only [State.setExchange, Exchange.given] at hcopy' ⊢
    rw [hcopy']
    exact if_pos hcode
  rw [hgive, State.dumpStart]
  simp only [State.reel_setExchange, hr, if_false, hc]
  rw [if_neg (Nat.not_lt.mpr hlen)]
  rfl

theorem State.giveArea_short (hcopy : (s.tr t).port.copy = some c) (hcode : c.code = 19) (hr : (s.reel t).state ≠ .none)
    (hlen : c.opC < tableLength (s.reel t).entries) :
    s.giveArea t = (s.setExchange (s.exchange.given t [])).endExchange t
      { condition := .parameter, count := tableLength (s.reel t).entries, value := 0, markBlock := none } := by
  have hc : (s.setExchange (s.exchange.given t [])).orderC t = c.opC := by simp [State.orderC, hcopy]
  have hgive : s.giveArea t = (s.setExchange (s.exchange.given t [])).dumpStart t := by
    simp only [State.giveArea]
    have hcopy' : ((s.setExchange (s.exchange.given t [])).tr t).port.copy = some c := hcopy
    simp only [State.setExchange, Exchange.given] at hcopy' ⊢
    rw [hcopy']
    exact if_pos hcode
  rw [hgive, State.dumpStart]
  simp only [State.reel_setExchange, hr, if_false, hc]
  rw [if_pos hlen]

theorem State.giveArea_load (hcopy : (s.tr t).port.copy = some c) (hcode : c.code = 20) :
    s.giveArea t = (s.setExchange (s.exchange.given t [])).requestData t .loadBurst := by
  have hcode' : ¬ c.code = 19 := by omega
  simp only [State.giveArea]
  have hcopy' : ((s.setExchange (s.exchange.given t [])).tr t).port.copy = some c := hcopy
  simp only [State.setExchange, Exchange.given] at hcopy' ⊢
  rw [hcopy']
  exact if_neg hcode'

theorem State.leaveMap_holder (h : s.exchange.holder = some t) :
    s.leaveMap t = ((s.setTr t { s.tr t with mapOrder := .none }).withdrawData t).setExchange (s.exchange.left t) := by
  simp only [State.leaveMap, State.modTr_setTr, State.setTr_exchange, h, if_true, State.releaseExchange, State.withdrawData_exchange]
  rfl

/-- The record of a transport whose order has been taken and has asked for the area (R170). -/
def Transport.exchanging (x : Transport) : Transport := { x.withTaken with mapOrder := .exchange }

/-- An order asks for the area while it is free and no order waits (R170). -/
theorem State.askArea_free (hh : s.exchange.holder = none) (hw : s.exchange.anyWaiting = false) :
    (s.setTr t (s.tr t).withTaken).askArea t = (s.setTr t (s.tr t).exchanging).giveArea t := by
  simp only [State.askArea, State.modTr_setTr, State.tr_setTr_same, State.setTr_setTr, State.setTr_exchange, hh, hw]
  rfl

theorem State.askArea_busy (h : s.exchange.holder ≠ none ∨ s.exchange.anyWaiting = true) :
    (s.setTr t (s.tr t).withTaken).askArea t = (s.setTr t (s.tr t).exchanging).setExchange
      { s.exchange with waiting := s.exchange.waiting.set t true } := by
  have hbusy : (s.exchange.holder.isNone && !s.exchange.anyWaiting) = false := by
    obtain h | h := h
    · simp [h]
    · simp [h]
  simp only [State.askArea, State.modTr_setTr, State.tr_setTr_same, State.setTr_setTr, State.setTr_exchange, hbusy, Bool.false_eq_true,
    if_false]
  rfl

theorem Exchange.waiting_none {e : Exchange} (h : e.anyWaiting = false) (t : Tr) : e.waiting.get t = false := by
  simp only [Exchange.anyWaiting, Bool.or_eq_false_iff] at h
  obtain ⟨⟨⟨h0, h1⟩, h2⟩, h3⟩ := h
  cases t
  exacts [h0, h1, h2, h3]

/-- The area given while no order waits. -/
theorem Exchange.given_unasked {e : Exchange} (h : e.anyWaiting = false) (t : Tr) (table : List Word) :
    e.given t table = { e with holder := some t, last := t, table := table, written := 0 } := by
  simp [Exchange.given, Four.set_false (e.waiting_none h t)]

/-- An order that asks for the area and ends neither at once nor changes the map. -/
theorem exec_asksArea {code : Nat} {i : Instr} {f : State → OrderCopy → State} (hi : exec i s = runTr t s fun s => s.takeOrder t code f)
    (ha : s.Awaits t code c) (hs : s.Settled t)
    (hf : f (s.setTr t (s.tr t).withTaken) c = ((s.setTr t (s.tr t).exchanging).setExchange e).setArb a) :
    ∃ s', exec i s = .next s' ∧ s.OnlyAt s' t ∧ s'.store = s.store ∧ s'.arb = a ∧ s'.tr t = (s.tr t).exchanging.refresh ∧
      s'.exchange = e :=
  ⟨_, exec_takes hi ha hf (by simpa using (State.settled_iff.mp hs).congr), State.onlyAt_finish (by simp) rfl, by simp, by simp,
    by simp, by simp⟩

/-- What DUMP MAP does with its order (R171). -/
def takeDumpOf (t : Tr) (s : State) (_ : OrderCopy) : State :=
  if (s.reel t).state = .none then s.endWith t .notReady else s.askArea t

/-- What LOAD MAP does with its order (R172). -/
def takeLoadMapOf (t : Tr) (s : State) (c : OrderCopy) : State :=
  if c.opC < 8 || 12296 < c.opC then s.endWith t .parameter else s.askArea t

theorem takeDumpOf_asks (hr : (s.reel t).state ≠ .none) :
    takeDumpOf t (s.setTr t (s.tr t).withTaken) c = (s.setTr t (s.tr t).withTaken).askArea t := by
  simp only [takeDumpOf, State.reel_setTr, hr, if_false]

theorem takeLoadMapOf_asks (h8 : 8 ≤ c.opC) (hmax : c.opC ≤ 12296) : takeLoadMapOf t s c = s.askArea t := by
  simp [takeLoadMapOf, Nat.not_lt.mpr h8, Nat.not_lt.mpr hmax]

end

/-- Settles O59. -/
theorem exchangeTaken : Obligations.ExchangeTaken := by
  intro s t
  refine ⟨fun c ha hs hr hh hw hlen => ?_, fun c ha hs hr hh hw hlen hmax => ?_, fun c ha hs hr hbusy => ?_,
    fun c ha hs hc1 hc2 hh hw => ?_, fun c ha hs hc1 hc2 hbusy => ?_, fun c hp hall hh hnext hcopy hcase => ?_⟩
  · refine exec_asksArea (f := takeDumpOf t) rfl ha hs ((takeDumpOf_asks hr).trans ((State.askArea_free hh hw).trans ?_))
    rw [State.giveArea_dump (c := c) (by rw [State.tr_setTr_same]; exact ha.1.2.2.2.1) ha.1.2.2.2.2 (by rw [State.reel_setTr]; exact hr)
      (by rw [State.reel_setTr]; exact hlen), State.reel_setTr, State.setTr_exchange, Exchange.given_unasked hw]
    rfl
  · have hf : takeDumpOf t (s.setTr t (s.tr t).withTaken) c =
        (((s.setTr t { (s.tr t).withTaken with mapOrder := .none }).withdrawData t).setExchange
          { s.exchange with last := t, table := [], written := 0 }).endOrder t
          { condition := .parameter, count := tableLength (s.reel t).entries, value := 0, markBlock := none } := by
      rw [takeDumpOf_asks hr, State.askArea_free hh hw, State.giveArea_short (c := c) (by rw [State.tr_setTr_same]; exact ha.1.2.2.2.1)
        ha.1.2.2.2.2 (by rw [State.reel_setTr]; exact hr) (by rw [State.reel_setTr]; exact hlen), State.endExchange,
        State.leaveMap_holder rfl, State.reel_setTr, State.setTr_exchange, State.setExchange_exchange, Exchange.given_unasked hw,
        State.tr_setExchange, State.tr_setTr_same, State.setTr_setExchange, State.setTr_setTr]
      refine congrArg (fun e => State.endOrder (State.setExchange _ e) t _) ?_
      simp [Exchange.left, Four.set_false (Exchange.waiting_none hw t), hh]
    obtain ⟨s', hx, honly, hexch, hstore, -, htr, hterm⟩ := exec_ended (i := .dumpMap t) (f := fun s => s.takeOrder t 19 (takeDumpOf t)) rfl
      ha.1.1 ((State.takeOrder_awaits ha).trans hf) (by simp) (by simp)
      (by
        rw [State.tr_setExchange, State.tr_withdrawData, State.tr_setTr_same]
        exact ⟨ha.reporting, (State.settled_iff.mp hs).congr, rfl⟩) hmax rfl
    rw [State.tr_setExchange, State.tr_withdrawData, State.tr_setTr_same] at htr hterm
    exact ⟨s', hx, honly, hstore, (congrArg Transport.reck htr).trans (Transport.refresh_reck _),
      (congrArg Transport.ctl htr).trans (Transport.refresh_ctl _), (congrArg Transport.chan htr).trans (Transport.refresh_chan _),
      hexch, hterm⟩
  · exact exec_asksArea (f := takeDumpOf t) rfl ha hs ((takeDumpOf_asks hr).trans (State.askArea_busy hbusy))
  · refine exec_asksArea (f := takeLoadMapOf t) rfl ha hs ((takeLoadMapOf_asks hc1 hc2).trans ((State.askArea_free hh hw).trans ?_))
    rw [State.giveArea_load (c := c) (by rw [State.tr_setTr_same]; exact ha.1.2.2.2.1) ha.1.2.2.2.2, State.setTr_exchange,
      Exchange.given_unasked hw]
    rfl
  · exact exec_asksArea (f := takeLoadMapOf t) rfl ha hs ((takeLoadMapOf_asks hc1 hc2).trans (State.askArea_busy hbusy))
  · have hgrant : s.grantArea = (s.setExchange (s.exchange.given t (if c.code = 19 then tableWords (s.reel t) else []))).setArb
        { s.arb with data := s.arb.data.set t (some (if c.code = 19 then .dumpBurst else .loadBurst)) } := by
      have hgive : s.grantArea = s.giveArea t := by
        simp only [State.grantArea, hh, Option.isSome_none, Bool.false_eq_true, if_false, hnext]
      obtain ⟨hcode, hr, hlen⟩ | hcode := hcase
      · rw [hgive, State.giveArea_dump hcopy hcode hr hlen, if_pos hcode, if_pos hcode]
        rfl
      · have hcode' : ¬ c.code = 19 := by omega
        rw [hgive, State.giveArea_load hcopy hcode, if_neg hcode', if_neg hcode']
        rfl
    exact ⟨_, runEach_records hp hall hgrant fun _ => rfl, ⟨fun u hu => by simp, by simp, by simp, by simp⟩, by simp, by simp,
      by simp, by simp, by simp [Exchange.given]⟩

end Sys2Proof.Machine
end

section
/-! PROOF. The bursts of DUMP MAP and LOAD MAP (R170 to R175). -/
namespace Sys2Proof.Machine

/-! ### Imported entries (R93, R174) -/

/-- An entry without the slot that holds it. -/
def Entry.unslotted (e : Entry) : Entry := { e with slot := 0 }

theorem placeImports_reel (m : MapStore) (t : Tr) (es : List Entry) :
    ∃ fs, (placeImports m t es).reels.get t = { m.reels.get t with entries := (m.reels.get t).entries ++ fs } ∧
      fs.map Entry.unslotted = es.map Entry.unslotted := by
  induction es generalizing m with
  | nil => exact ⟨[], by simp [placeImports], rfl⟩
  | cons e es ih =>
    obtain ⟨fs, hreel, hfs⟩ := ih
      { reels := m.reels.set t { m.reels.get t with entries := (m.reels.get t).entries ++ [{ e with slot := m.freeSlot }] },
        poolFree := m.poolFree - 1 }
    exact ⟨{ e with slot := m.freeSlot } :: fs, by simpa [placeImports] using hreel, by simp [hfs, Entry.unslotted]⟩

theorem placeImports_poolFree (m : MapStore) (t : Tr) (es : List Entry) :
    (placeImports m t es).poolFree = m.poolFree - es.length := by
  induction es generalizing m with
  | nil => rfl
  | cons e es ih =>
    rw [placeImports, ih, List.length_cons]
    exact Nat.sub_sub _ _ _ |>.trans (by rw [Nat.add_comm])

/-- The state with the Map Store replaced. -/
def State.setStore (s : State) (m : MapStore) : State := { s with store := m }

section
variable {s z : State} {t : Tr} {e : Exchange} {x : BusTransfer} {r : OrderResult} {ws : List Word} {k : TransferKind} {es : List Entry}

@[simp] theorem State.tr_setStore (s : State) (m : MapStore) (u : Tr) : (s.setStore m).tr u = s.tr u := rfl
@[simp] theorem State.setStore_exchange (s : State) (m : MapStore) : (s.setStore m).exchange = s.exchange := rfl
@[simp] theorem State.setStore_store (s : State) (m : MapStore) : (s.setStore m).store = m := rfl
@[simp] theorem State.setStore_arb (s : State) (m : MapStore) : (s.setStore m).arb = s.arb := rfl
@[simp] theorem State.setStore_power (s : State) (m : MapStore) : (s.setStore m).power = s.power := rfl
@[simp] theorem State.setStore_hostMemory (s : State) (m : MapStore) : (s.setStore m).hostMemory = s.hostMemory := rfl

/-- The state in which a map exchange of the area's holder has just ended, before the termination (R170). -/
def State.exchangeOver (s : State) (t : Tr) (x : Transport) : State :=
  ((s.setTr t { x with mapOrder := .none }).withdrawData t).setExchange (s.exchange.left t)

theorem State.endExchange_holder (h : s.exchange.holder = some t) :
    s.endExchange t r = (s.exchangeOver t (s.tr t)).endOrder t r := by
  rw [State.endExchange, State.leaveMap_holder h]
  rfl

@[simp] theorem State.exchangeOver_beyond (s : State) (t : Tr) (y : Transport) : (s.exchangeOver t y).beyond t = s.beyond t := by
  simp [State.exchangeOver]

@[simp] theorem State.exchangeOver_power (s : State) (t : Tr) (y : Transport) : (s.exchangeOver t y).power = s.power := rfl

theorem State.exchangeOver_tr (s : State) (t : Tr) (y : Transport) : (s.exchangeOver t y).tr t = { y with mapOrder := .none } := by
  simp [State.exchangeOver]

/-- A burst of a map exchange ends in full and another one is requested. -/
theorem State.burstFollows {o : Host.Outcome State Fault Refusal}
    (h : o = .next (((s.freePort x x.length).setExchange e).requestData t k).refreshAll.finish ∧
      s.OnlyAtEach (((s.freePort x x.length).setExchange e).requestData t k).refreshAll.finish t) :
    ∃ s', o = .next s' ∧ s.OnlyAtEach s' t ∧ s'.tr t = (s.tr t).refresh ∧ s'.store = s.store ∧
      s'.hostMemory = memWriteWords s.hostMemory x.address (x.words.take x.length) ∧ s'.exchange = e ∧
      s'.arb = { s.arb with current := none, data := s.arb.data.set t (some k) } :=
  ⟨_, h.1, h.2, by simp, by simp, by simp, by simp, by simp [State.requestData]⟩

/-- The end of a burst at which the order of the area's holder ends, its map as `m` makes it. -/
theorem State.EachEnded.exchange_over {s' : State} {y : Transport} (hz : z.arb.current = none)
    (h : s.EachEnded s' (z.exchangeOver t y) t r) :
    s.OnlyAtEach s' t ∧ s'.store = z.store ∧ s'.hostMemory = z.hostMemory ∧ (s'.tr t).reck = y.reck ∧ (s'.tr t).ctl = y.ctl ∧
      (s'.tr t).chan = y.chan ∧ s'.exchange = z.exchange.left t ∧ s'.arb.current = none ∧ s'.arb.data = z.arb.data.set t none ∧
      s.Terminates s' t r.condition r.count r.value y.port.indicators := by
  have hreck := h.reck
  have hctl := h.ctl
  have hchan := h.chan
  obtain ⟨honly, hstore, hexch, harb, hmem, -, hterm⟩ := h
  simp only [State.exchangeOver, State.tr_setExchange, State.tr_withdrawData, State.tr_setTr_same] at hreck hctl hchan hterm
  have hcur : ((z.setTr t { y with mapOrder := .none }).withdrawData t).arb.current = none := by
    simp [State.withdrawData, Arbiter.orphanCurrent, hz]
  refine ⟨honly, by simpa [State.exchangeOver] using hstore, by simpa [State.exchangeOver] using hmem, hreck, hctl, hchan,
    by simpa [State.exchangeOver] using hexch, ?_, ?_, hterm⟩
  · rw [harb]
    exact hcur
  · rw [harb]
    simp [State.exchangeOver]

/-! ### What a burst's end does (R171 to R174) -/

theorem State.dumped_more {n : Nat} (h : s.exchange.written + n < s.exchange.table.length) :
    s.dumped t n = (s.setExchange { s.exchange with written := s.exchange.written + n }).requestData t .dumpBurst := by
  simp only [State.dumped]
  rw [if_neg (Nat.not_le.mpr h)]
  rfl

theorem State.dumped_last {n : Nat} (hh : s.exchange.holder = some t) (h : s.exchange.table.length ≤ s.exchange.written + n) :
    s.dumped t n = ((s.setExchange { s.exchange with written := s.exchange.written + n }).exchangeOver t (s.tr t)).endOrder t
      { condition := .normal, count := s.exchange.table.length, value := unsignedLong (tableCount s.exchange.table),
        markBlock := none } := by
  simp only [State.dumped]
  rw [if_pos h]
  exact State.endExchange_holder (s := s.setExchange { s.exchange with written := s.exchange.written + n }) hh

/-- The exchange area once the words of a burst have joined the table (R172). -/
def Exchange.joined (e : Exchange) (ws : List Word) : Exchange := { e with table := e.table ++ ws }

theorem State.imported_eq (s : State) (t : Tr) (ws : List Word) :
    s.imported t ws = match importStatus (s.exchange.table ++ ws) (s.orderC t) with
      | .more _ _ => (s.setExchange (s.exchange.joined ws)).requestData t .loadBurst
      | .invalid v o => (s.setExchange (s.exchange.joined ws)).endExchange t
          { condition := .tableInvalid, count := v, value := unsignedLong o, markBlock := none }
      | .whole es => (s.setExchange (s.exchange.joined ws)).importTable t es := rfl

/-- The state in which a valid table has replaced the entries of the record (R174). -/
def State.tableLoaded (s : State) (t : Tr) (es : List Entry) : State :=
  (s.setReel t (importedReel (s.reel t) s.exchange.table)).setStore
    (placeImports (s.setReel t (importedReel (s.reel t) s.exchange.table)).store t es)

/-- The record of a transport that a table has been loaded for, with MAP CHANGED as the entries give it (R174). -/
def State.tableTold (s : State) (t : Tr) (es : List Entry) : Transport :=
  { s.tr t with port := (s.tr t).port.raisedIf (es.length ≠ 0 || (s.reel t).entries.length ≠ 0) .mapChanged }

theorem State.exchangeOver_setTr (s : State) (t : Tr) (y w : Transport) : (s.setTr t w).exchangeOver t y = s.exchangeOver t y := by
  simp [State.exchangeOver]

theorem State.importTable_loads (hh : s.exchange.holder = some t) (hm : volumeMismatch (s.reel t) s.exchange.table = false)
    (hroom : es.length ≤ s.store.poolFree + (s.reel t).entries.length) :
    s.importTable t es = ((s.tableLoaded t es).exchangeOver t (s.tableTold t es)).endOrder t
      { condition := .normal, count := es.length, value := unsignedLong (s.reel t).entries.length, markBlock := none } := by
  simp only [State.importTable, hm, Bool.false_eq_true, if_false]
  rw [if_neg (Nat.not_lt.mpr hroom), State.raiseIndIf_eq, State.modPort_setTr]
  refine (State.endExchange_holder (s := (s.tableLoaded t es).setTr t (s.tableTold t es)) hh).trans ?_
  rw [State.tr_setTr_same, State.exchangeOver_setTr]

@[simp] theorem State.tableLoaded_beyond (s : State) (t : Tr) (es : List Entry) : (s.tableLoaded t es).beyond t = s.beyond t :=
  (State.imports_beyond _ t es).trans (State.setReel_beyond s t _)

@[simp] theorem State.tableLoaded_power (s : State) (t : Tr) (es : List Entry) : (s.tableLoaded t es).power = s.power := rfl
@[simp] theorem State.tableLoaded_exchange (s : State) (t : Tr) (es : List Entry) : (s.tableLoaded t es).exchange = s.exchange := rfl
@[simp] theorem State.tableLoaded_arb (s : State) (t : Tr) (es : List Entry) : (s.tableLoaded t es).arb = s.arb := rfl
@[simp] theorem State.tableLoaded_hostMemory (s : State) (t : Tr) (es : List Entry) :
    (s.tableLoaded t es).hostMemory = s.hostMemory := rfl

theorem importedReel_entries (reel : ReelRecord) (ws : List Word) : (importedReel reel ws).entries = [] := by
  simp only [importedReel]
  split <;> rfl

/-- The record and the pool once a valid table has replaced the entries (R93, R174). -/
theorem State.tableLoaded_store (hroom : es.length ≤ s.store.poolFree + (s.reel t).entries.length) :
    ∃ fs, (s.tableLoaded t es).reel t = { importedReel (s.reel t) s.exchange.table with entries := fs } ∧
      fs.map Entry.unslotted = es.map Entry.unslotted ∧
      (s.tableLoaded t es).store.poolFree + fs.length = s.store.poolFree + (s.reel t).entries.length := by
  obtain ⟨fs, hreel, hfs⟩ := placeImports_reel (s.setReel t (importedReel (s.reel t) s.exchange.table)).store t es
  have hlen : fs.length = es.length := by simpa using congrArg List.length hfs
  refine ⟨fs, hreel.trans ?_, hfs, ?_⟩
  · have hget : (s.setReel t (importedReel (s.reel t) s.exchange.table)).store.reels.get t = importedReel (s.reel t) s.exchange.table :=
      Four.get_set_same _ _ _
    rw [hget, importedReel_entries, List.nil_append]
  · have hpool : (s.tableLoaded t es).store.poolFree = s.store.poolFree + (s.reel t).entries.length - es.length := by
      refine (placeImports_poolFree _ t es).trans ?_
      simp [State.setReel, importedReel_entries]
    omega

theorem volumeMismatch_none {reel : ReelRecord}
    (h : reel.state = .none ∨ tableTag ws = none ∨ reel.tag = none ∨ tableTag ws = reel.tag) : volumeMismatch reel ws = false := by
  cases hs : reel.state <;> cases ht : tableTag ws <;> cases hr : reel.tag <;> simp_all [volumeMismatch]

end

/-- Settles O60. -/
theorem exchangeBursts : Obligations.ExchangeBursts := by
  intro s t x hh
  refine ⟨fun hw hmore => ?_, fun hw hlast hlen hwork => ?_, fun ws n v hr himp => ?_, fun ws v o hr hwork himp hv => ?_,
    fun ws es hr hwork himp htag hroom hlen => ?_⟩
  · have hf := State.dumped_more (s := s.freePort x x.length) (t := t) (n := x.length) (by simpa using hmore)
    rw [State.freePort_exchange] at hf
    have hburst := State.burstFollows (endWrite_transfer (f := fun t x s => s.dumped t x.length) hw.1 hf (by simp) (by simp)
      (by simpa using (hw.1.settled t)))
    rw [List.take_of_length_le hw.2.1.le] at hburst
    exact hburst
  · have hf := State.dumped_last (s := s.freePort x x.length) (t := t) (n := x.length) (by simpa using hh) (by simpa using hlast)
    rw [State.freePort_exchange, State.freePort_tr] at hf
    obtain ⟨s', hx, hend⟩ := endWrite_ends (f := fun t x s => s.dumped t x.length) hw.1 hf (by simp) (by simp)
      (by rw [State.exchangeOver_tr]; exact ⟨hwork.reporting, (hw.1.settled t).congr, rfl⟩) hlen
    obtain ⟨honly, hstore, hmem, hreck, hctl, hchan, hexch, hcur, hdata, hterm⟩ := hend.exchange_over (by simp)
    refine ⟨s', hx, honly, by simpa using hstore, ?_, hreck, hctl, hchan, hexch, hcur, by simpa using hdata, ?_⟩
    · rw [hmem, State.setExchange_hostMemory, State.freePort_hostMemory, List.take_of_length_le hw.2.1.le]
    · have hvalue : unsignedLong (tableCount s.exchange.table) = (s.exchange.table.getD 6 0).setWidth 32 := by
        simp [unsignedLong, tableCount, tableWord]
      exact hvalue ▸ hterm
  · have hf := State.imported_eq (s.freePort x x.length) t ws
    have hc : (s.freePort x x.length).orderC t = s.orderC t := by simp [State.orderC]
    rw [State.freePort_exchange, hc, himp] at hf
    have hburst := State.burstFollows (endRead_transfer (f := fun t s => s.imported t ws) hr hf (by simp) (by simp)
      (by simpa using (hr.1.settled t)))
    rw [hr.2.1, List.take_nil, memWriteWords_nil] at hburst
    exact hburst
  · have hf := State.imported_eq (s.freePort x x.length) t ws
    have hc : (s.freePort x x.length).orderC t = s.orderC t := by simp [State.orderC]
    rw [State.freePort_exchange, hc, himp] at hf
    simp only at hf
    rw [State.endExchange_holder (by exact hh), State.tr_setExchange, State.freePort_tr] at hf
    obtain ⟨s', hx, hend⟩ := endRead_ends (f := fun t s => s.imported t ws) hr hf (by simp) (by simp)
      (by rw [State.exchangeOver_tr]; exact ⟨hwork.reporting, (hr.1.settled t).congr, rfl⟩) hv
    obtain ⟨honly, hstore, hmem, hreck, hctl, hchan, hexch, -, -, hterm⟩ := hend.exchange_over (by simp)
    refine ⟨s', hx, honly, by simpa using hstore, ?_, hreck, hctl, hchan, hexch, hterm⟩
    rw [hmem, State.setExchange_hostMemory, State.freePort_hostMemory, hr.2.1, List.take_nil, memWriteWords_nil]
  · have hf := State.imported_eq (s.freePort x x.length) t ws
    have hc : (s.freePort x x.length).orderC t = s.orderC t := by simp [State.orderC]
    rw [State.freePort_exchange, hc, himp] at hf
    simp only at hf
    have hport := Port.raisedIf_mapChanged hwork.1 (es.length ≠ 0 || (s.reel t).entries.length ≠ 0)
    have hreel0 : ((s.freePort x x.length).setExchange (s.exchange.joined ws)).reel t = s.reel t := by simp
    have htr0 : ((s.freePort x x.length).setExchange (s.exchange.joined ws)).tr t = s.tr t := by simp
    rw [State.importTable_loads (by exact hh) (by rw [hreel0]; exact volumeMismatch_none htag) (by simpa using hroom), hreel0] at hf
    obtain ⟨s', hx, hend⟩ := endRead_ends (f := fun t s => s.imported t ws) hr hf
      (by simp) (by simp)
      (by
        rw [State.exchangeOver_tr, State.tableTold, htr0, hreel0, hport]
        exact ⟨hwork.reporting, (hr.1.settled t).congr, rfl⟩) hlen
    obtain ⟨honly, hstore, hmem, hreck, hctl, hchan, hexch, -, -, hterm⟩ := hend.exchange_over (by simp)
    simp only [State.tableTold, htr0, hreel0, hport] at hreck hctl hchan hterm
    obtain ⟨fs, hfreel, hfs, hfpool⟩ := State.tableLoaded_store (s := (s.freePort x x.length).setExchange (s.exchange.joined ws)) (t := t)
      (es := es) (by simpa using hroom)
    have hreel : s'.reel t = _ := (congrArg (fun m : MapStore => m.reels.get t) hstore).trans hfreel
    rw [hreel0] at hreel hfpool
    refine ⟨s', hx, honly, ?_, hreck, hctl, hchan, hexch, ?_, ?_, ?_, ?_⟩
    · rw [hmem]
      simp [hr.2.1, memWriteWords_nil]
    · rw [hreel, hstore]
      exact hfpool.trans (by simp)
    · rw [hreel]
      exact hfs
    · rw [hreel]
      cases hstate : (s.reel t).state <;> simp [importedReel, hstate, Exchange.joined, tableWord]
    · have hind : (es.length ≠ 0 || (s.reel t).entries.length ≠ 0) = !decide (es = [] ∧ (s.reel t).entries = []) := by
        cases es <;> cases (s.reel t).entries <;> simp
      have hif : ∀ a b : BitVec 16, (if (es.length ≠ 0 || (s.reel t).entries.length ≠ 0) then a else b) =
          if es = [] ∧ (s.reel t).entries = [] then b else a := by
        intro a b
        rw [hind]
        by_cases hboth : es = [] ∧ (s.reel t).entries = [] <;> simp [hboth]
      rw [hif] at hterm
      exact hterm

end Sys2Proof.Machine
end

section
/-! PROOF. UNLOAD at the load point (R26, R27, R47, R94, R130, R131). -/
namespace Sys2Proof.Machine

section
variable {s z : State} {t : Tr} {x : Transport} {o : Operation} {keep : Bool} {dir : Dir} {limit : Option Int} {unload : Bool}

/-! ### A creep begins from standstill (R47) -/

/-- A transport at rest whose creep request may begin (R40, R47). -/
structure Transport.CreepPoised (x : Transport) (dir : Dir) (limit : Option Int) (unload : Bool) : Prop where
  rest : x.drive.atRest = true
  kind : x.drive.stopKind = .none
  pending : x.drive.pending = some (.creep dir limit unload)
  ending : x.ctl.unloadEnding = false
  permission : x.ctl.permission = .creep
  path : x.sense.pathGood = true

/-- The record of a transport whose creep has begun from standstill (R47, R61). -/
def Transport.creeping (x : Transport) (dir : Dir) (limit : Option Int) (unload : Bool) : Transport :=
  { x with
    drive := { x.drive with
      phase := .accel, command := 0, commandRem := 0, dir := dir, targetSpeed := creepSpeed x.drive.active, stopTarget := limit,
      holdOver := none, pending := none, endedBy := .none, creep := some unload, requester := .transport },
    reck := x.reck.motionBegun dir }

theorem State.settled_creep (h : (s.tr t).CreepPoised dir limit unload) :
    s.settled t = s.setTr t ((s.tr t).creeping dir limit unload) := by
  obtain ⟨hrest, hkind, hpend, hending, hperm, hpath⟩ := h
  have hneed : neededPermission (.creep dir limit unload) = .creep := rfl
  have hstep : s.settleOnce t = some (s.setTr t ((s.tr t).creeping dir limit unload)) := by
    simp only [State.settleOnce, hrest, hkind, hpend, hending, hperm, hneed, hpath]
    simp [State.beginPending, Drive.beginCapstan, Transport.creeping]
  refine State.settled_step hstep (Option.isNone_iff_eq_none.mp (State.settled_iff.mpr ?_))
  rw [State.tr_setTr_same]
  exact .of_moving (Drive.atRest_of_phase (by simp [Transport.creeping]))

theorem Channel.Quiet.leaveLocate {c : Channel} (h : c.Quiet) : c.leaveLocate = { c with mode := .decode } := by
  obtain ⟨hact, -, -, -, -, -, hwatch, -⟩ := h
  simp [Channel.leaveLocate, Channel.watchOff, Channel.setMode, hact, hwatch]

/-! ### The rewind of an unload, complete at the load point (R26, R130, R131) -/

/-- Transport Control as an unload leaves it when it begins (R26). -/
def Control.unloadBegun (c : Control) (o : Operation) (keep : Bool) : Control :=
  { c with operation := o, keep := keep, unloadEnding := false, retired := 0 }

/-- The record of a transport whose unload has begun, before the plan of its rewind (R26, R130). -/
def Transport.unloadRewinds (x : Transport) (o : Operation) (keep : Bool) : Transport :=
  { x with
    ctl := x.ctl.unloadBegun o keep, reck := { x.reck with lastBlock := none },
    loc := { Locate.idle with order := .unloadRewind } }

theorem State.beginUnload_standing (h : (s.tr t).ReadyStanding) :
    s.beginUnload t o keep = (s.setTr t ((s.tr t).unloadRewinds o keep)).planRewinding t := by
  obtain ⟨⟨hphase, hshuttle, hmode, hkind, hpend, hcreep, -⟩, hstate, hperm, hstop, hpath, heng⟩ := h
  have hbegun : Transport.ReadyStanding { s.tr t with ctl := (s.tr t).ctl.unloadBegun o keep } :=
    ⟨⟨hphase, hshuttle, hmode, hkind, hpend, hcreep, rfl⟩, hstate, hperm, hstop, hpath, heng⟩
  rw [State.beginUnload, State.modCtl_setTr, State.beginRewind_standing (by rw [State.tr_setTr_same]; exact hbegun) _ (.inr rfl),
    State.tr_setTr_same, State.setTr_setTr]
  rfl

/-- The record of a transport whose unload at the load point has begun its rewind and found it complete (R131). -/
def Transport.unloadAtPoint (x : Transport) (o : Operation) (keep : Bool) : Transport :=
  { x with
    ctl := x.ctl.unloadBegun o keep, reck := { x.reck with lastBlock := none }, chan := { x.chan with mode := .decode } }

theorem State.beginUnload_atPoint (h : (s.tr t).ReadyStanding) (hu : (s.tr t).Unused) (hbot : (s.tr t).reck.atLoadPoint = true)
    (ho : o = .orderUnload ∨ o = .panelUnload) :
    (s.beginUnload t o keep).takeRewound t = (s.setTr t ((s.tr t).unloadAtPoint o keep)).startUnloading t := by
  have hbot' : ((s.tr t).unloadRewinds o keep).reck.atLoadPoint = true := hbot
  have hplan : planRewind ((s.tr t).unloadRewinds o keep).reck = .complete := by rw [planRewind, if_pos hbot']
  have hend : ((s.tr t).unloadRewinds o keep).locateIdle = { (s.tr t).unloadAtPoint o keep with loc := .idle } := by
    obtain ⟨-, -, hquiet⟩ := hu
    simp [Transport.locateIdle, Transport.unloadRewinds, hquiet.leaveLocate, Transport.unloadAtPoint]
  have hloc : (s.tr t).loc = .idle := hu.2.1
  have hidle : { (s.tr t).unloadAtPoint o keep with loc := .idle } = (s.tr t).unloadAtPoint o keep := by
    simp [Transport.unloadAtPoint, hloc]
  have horder : ((s.tr t).unloadRewinds o keep).loc.order = .unloadRewind := rfl
  have hop : ((s.tr t).unloadAtPoint o keep).ctl.operation = o := rfl
  rw [State.beginUnload_standing h]
  simp only [State.planRewinding, State.tr_setTr_same, hplan, State.rewindComplete, horder, State.locateEndWith,
    State.modTr_setTr, State.setTr_setTr, hend, State.takeRewound, State.modLoc]
  rw [← hidle]
  rcases ho with rfl | rfl <;> simp [hop, Locate.idle] 

/-! ### UNLOADING begins (R26, R27, R47, R94) -/

/-- What an unload makes of the reel record (R94). -/
def ReelRecord.unloaded (r : ReelRecord) (keep : Bool) : ReelRecord :=
  if r.state ≠ .active then r else if keep then { r with state := .held } else .none

/-- Whether an unload retires entries (R94). -/
def ReelRecord.unloadRetires (r : ReelRecord) (keep : Bool) : Bool := r.state = .active && !keep && r.entries ≠ []

/-- The record of a transport whose unload enters UNLOADING, with its creep asked for (R26, R27, R47). -/
def Transport.unloads (x : Transport) (n : Nat) (retires : Bool) : Transport :=
  { x with
    ctl := { x.ctl with state := .unloading, permission := .creep, pump := true, timer := 600000000, retired := n },
    port := x.port.raisedIf retires .mapChanged,
    drive := { x.drive with requester := .transport, pending := some (.creep .backward none true) } }

theorem State.startUnloading_standing (hphase : (s.tr t).drive.phase = .stopped) (hstop : (s.tr t).ctl.stopUnderWay = false)
    (hkeep : (s.tr t).ctl.keep = keep) :
    s.startUnloading t = (s.setReel t ((s.reel t).unloaded keep)).setTr t
      ((s.tr t).unloads (if keep then 0 else s.retireCount t) ((s.reel t).unloadRetires keep)) := by
  have hrecord : (if keep then s.holdReel t else s.retireReel t) = (s.setReel t ((s.reel t).unloaded keep)).setTr t
      { s.tr t with port := (s.tr t).port.raisedIf ((s.reel t).unloadRetires keep) .mapChanged } := by
    have hsame : s.setTr t { s.tr t with port := (s.tr t).port } = s := State.setTr_tr s t
    by_cases hact : (s.reel t).state = .active <;> cases keep <;>
      simp [State.holdReel, State.retireReel, ReelRecord.unloaded, ReelRecord.unloadRetires, hact, State.raiseIndIf_eq,
        Port.raisedIf, hsame, State.setReel_reel]
  simp only [State.startUnloading, hkeep, hrecord]
  simp [State.enter, Control.enter, Transport.creep, hstop, Drive.standstill_driving, hphase, Transport.unloads,
    permissionOf, pumpOf, seconds, cyclesPerSecond]

/-- The record of a transport that has begun to unload at the load point (R26, R27, R47). -/
def Transport.unloadCreeps (x : Transport) (o : Operation) (keep : Bool) (n : Nat) (retires : Bool) : Transport :=
  { x with
    ctl := { x.ctl with
      state := .unloading, permission := .creep, pump := true, timer := 600000000, operation := o, keep := keep,
      unloadEnding := false, retired := n },
    port := x.port.raisedIf retires .mapChanged,
    drive := { x.drive with
      phase := .accel, command := 0, commandRem := 0, dir := .backward, targetSpeed := creepSpeed x.drive.active,
      stopTarget := none, holdOver := none, pending := none, endedBy := .none, creep := some true, requester := .transport },
    chan := { x.chan with mode := .decode },
    reck := { x.reck with lastBlock := none }.motionBegun .backward }

/-- An unload that begins at rest at the load point deals with the record and begins its creep (R26, R27, R47, R131). -/
theorem State.unload_settled (h : (s.tr t).ReadyStanding) (hu : (s.tr t).Unused) (hbot : (s.tr t).reck.atLoadPoint = true)
    (ho : o = .orderUnload ∨ o = .panelUnload) :
    ((s.beginUnload t o keep).takeRewound t).settled t = (s.setReel t ((s.reel t).unloaded keep)).setTr t
      ((s.tr t).unloadCreeps o keep (if keep then 0 else s.retireCount t) ((s.reel t).unloadRetires keep)) := by
  rw [State.beginUnload_atPoint h hu hbot ho]
  obtain ⟨⟨hphase, hshuttle, hmode, hkind, -⟩, -, -, hstop, hpath, -⟩ := h
  rw [State.startUnloading_standing (s := s.setTr t ((s.tr t).unloadAtPoint o keep)) (keep := keep)
    (by rw [State.tr_setTr_same]; exact hphase) (by rw [State.tr_setTr_same]; exact hstop) (by rw [State.tr_setTr_same]; rfl)]
  rw [State.settled_creep (dir := .backward) (limit := none) (unload := true)
    (by rw [State.tr_setTr_same, State.tr_setTr_same]
        exact ⟨by simp [Transport.unloadAtPoint, Transport.unloads, Drive.atRest, Drive.standstill, hphase, hshuttle, hmode],
          hkind, rfl, rfl, rfl, hpath⟩)]
  simp only [State.tr_setTr_same, State.reel_setTr, State.tr_setReel, State.setTr_setReel, State.setTr_setTr]
  rfl

end

@[simp] theorem Transport.refresh_drive_dir (x : Transport) : x.refresh.drive.dir = x.drive.dir := by
  obtain ⟨_, _, _, _, _, _, _, h⟩ := x.refresh_drive; rw [h]

@[simp] theorem Transport.refresh_drive_targetSpeed (x : Transport) : x.refresh.drive.targetSpeed = x.drive.targetSpeed := by
  obtain ⟨_, _, _, _, _, _, _, h⟩ := x.refresh_drive; rw [h]

/-- What UNLOAD does with its order (R26). -/
def takeUnloadOf (t : Tr) (s : State) (c : OrderCopy) : State := (s.beginUnload t .orderUnload (c.modifier 8)).takeRewound t

theorem ReelRecord.unloaded_length (r : ReelRecord) (keep : Bool) :
    (r.unloaded keep).entries.length ≤ r.entries.length := by
  unfold ReelRecord.unloaded
  split
  · exact Nat.le_refl _
  · cases keep
    · exact Nat.zero_le _
    · exact Nat.le_refl _

/-- A command that begins an unload at rest at the load point (R26). -/
theorem exec_unloads {s z : State} {t : Tr} {o : Operation} {keep : Bool} {i : Instr} {f : State → State}
    (hi : exec i s = runTr t s f) (hp : s.powered = true) (hf : f s = (z.beginUnload t o keep).takeRewound t)
    (hz : z = s.setTr t (z.tr t)) (h : (z.tr t).ReadyStanding) (hu : (z.tr t).Unused) (hbot : (z.tr t).reck.atLoadPoint = true)
    (ho : o = .orderUnload ∨ o = .panelUnload) :
    ∃ s', exec i s = .next s' ∧ s.OnlyAt s' t ∧ s'.exchange = s.exchange ∧ s'.arb = s.arb ∧
      s'.reel t = (s.reel t).unloaded keep ∧
      s'.store.poolFree + (s'.reel t).entries.length = s.store.poolFree + (s.reel t).entries.length ∧
      s'.tr t = Transport.refresh
        ((z.tr t).unloadCreeps o keep (if keep then 0 else s.retireCount t) ((s.reel t).unloadRetires keep)) := by
  have hreel : z.reel t = s.reel t := by rw [hz, State.reel_setTr]
  have hcount : z.retireCount t = s.retireCount t := by rw [State.retireCount, hreel]; rfl
  have hend := State.unload_settled (keep := keep) h hu hbot ho
  rw [hreel, hcount, ← hf] at hend
  generalize hx : (z.tr t).unloadCreeps o keep _ _ = x at hend ⊢
  rw [hz] at hend
  simp only [State.setTr_setReel, State.setTr_setTr] at hend
  refine ⟨_, hi.trans (runTr_powered hp), ?_⟩
  rw [hend]
  refine ⟨State.onlyAt_finish (by simp) (by simp), by simp, by simp, by simp, ?_, by simp⟩
  have hpool := State.poolFree_setReel (s := s.setTr t x) (t := t) (r := (s.reel t).unloaded keep)
    (by rw [State.reel_setTr]; exact (s.reel t).unloaded_length keep)
  simpa using hpool

/-- Settles O37. -/
theorem unloadOrder : Obligations.UnloadOrder := by
  intro s t c ha h hu hbot
  obtain ⟨s', hx, honly, hexch, harb, hreel, hpool, htr⟩ := exec_unloads (z := s.setTr t (s.tr t).withTaken) (o := .orderUnload)
    (keep := c.modifier 8) (i := .unload t) (f := fun s => s.takeOrder t 2 (takeUnloadOf t)) rfl ha.1.1
    (State.takeOrder_awaits ha) (by rw [State.tr_setTr_same]) (by rw [State.tr_setTr_same]; exact h)
    (by rw [State.tr_setTr_same]; exact hu) (by rw [State.tr_setTr_same]; exact hbot) (.inl rfl)
  rw [State.tr_setTr_same] at htr
  refine ⟨s', hx, honly, hexch, harb, hreel, ?_, ?_, ?_, ?_, ?_, ?_, ?_, ?_⟩
  · rw [hreel] at hpool
    by_cases hact : (s.reel t).state = .active <;> cases hkeep : c.modifier 8 <;>
      simp_all [ReelRecord.unloaded, ReelRecord.none]
  · rw [htr, Transport.refresh_port]
    refine (Port.raisedIf_mapChanged (p := (s.tr t).withTaken.port) ha.1.2.1.1 _).trans ?_
    simp [ReelRecord.unloadRetires, Transport.withTaken, and_assoc]
  · rw [htr, Transport.refresh_ctl]
    rfl
  · rw [htr, Transport.refresh_drive_phase]
    rfl
  · rw [htr, Transport.refresh_drive_dir]
    rfl
  · rw [htr, Transport.refresh_drive_targetSpeed]
    rfl
  · rw [htr, Transport.refresh_drive_stopTarget]
    rfl
  · rw [htr, Transport.refresh_reck]
    rfl

end Sys2Proof.Machine
end

section
/-! PROOF. The panel's LOAD and UNLOAD buttons (R13, R20, R23, R25, R26, R33, R35, R94). -/
namespace Sys2Proof.Machine

section
variable {s z : State} {t : Tr} {x : Transport} {b : Button} {n : Nat}

/-! ### An accepted press (R13) -/

/-- The record of a transport whose button has just been accepted at a level. -/
def Transport.buttonSet (x : Transport) (b : Button) (v : Bool) : Transport :=
  { x with sense := x.sense.setButton b { level := v, count := 0 } }

theorem State.pressSamples_pressed (hn : 1 ≤ n) (hl : ((s.tr t).sense.button b).level = false)
    (hc : 20 ≤ ((s.tr t).sense.button b).count + n) :
    s.pressSamples t b n = match b with
      | .load => (s.setTr t ((s.tr t).buttonSet b true)).loadButton t
      | .unload => (s.setTr t ((s.tr t).buttonSet b true)).unloadButton t := by
  obtain ⟨hchange, hlevel⟩ := Level.samples_changes hn (by simp [hl] : true ≠ ((s.tr t).sense.button b).level) hc
  cases b <;> simp only [State.pressSamples, hchange, hlevel, State.modSense_setTr, if_true] <;> rfl

theorem exec_unloadPressed (hn : 1 ≤ n) (hl : (s.tr t).sense.unloadButton.level = false)
    (hc : 20 ≤ (s.tr t).sense.unloadButton.count + n) :
    exec (.unloadPressed t n) s =
      runTr t s fun _ => (s.setTr t ((s.tr t).buttonSet .unload true)).unloadButton t :=
  congrArg (fun u => runTr t s fun _ => u) (State.pressSamples_pressed (b := .unload) hn hl hc)

/-- The record of a READY transport whose UNLOAD button has just been accepted, with NOT READY raised (R25, R35). -/
def Transport.unloadAsked (x : Transport) : Transport :=
  { x.buttonSet .unload true with port := { x.port with attention := x.port.attention ||| 8#5 } }

/-- A panel unload begins in READY, offline, with no order in flight or being terminated (R25, R35). -/
theorem exec_unloadAsked (h : (s.tr t).ReadyStanding) (hon : (s.tr t).ctl.online = false)
    (hf : (s.tr t).port.pointer ≠ .inFlight) (hterm : (s.tr t).port.pointer ≠ .terminating) (hn : 1 ≤ n)
    (hl : (s.tr t).sense.unloadButton.level = false) (hc : 20 ≤ (s.tr t).sense.unloadButton.count + n) :
    exec (.unloadPressed t n) s =
      runTr t s fun _ => ((s.setTr t (s.tr t).unloadAsked).beginUnload t .panelUnload true).takeRewound t := by
  obtain ⟨-, hstate, -, hstop, -⟩ := h
  rw [exec_unloadPressed hn hl hc]
  have hasked : (s.setTr t ((s.tr t).buttonSet .unload true)).raiseCause t .notReady = s.setTr t (s.tr t).unloadAsked := by
    simp [State.raiseCause_eq, Transport.buttonSet, Transport.unloadAsked, hf, attentionBit]
  congr 1
  funext u
  rw [← hasked]
  simp [State.unloadButton, Transport.buttonSet, hstate, hstop, hon, hterm, Port.inFlight, hf]

/-! ### The rewind of a panel unload (R26, R130, R131) -/

theorem State.unload_rewinds (h : (s.tr t).ReadyStanding) (hbot : (s.tr t).reck.atLoadPoint = false)
    (hout : ((s.tr t).unloadRewinds .panelUnload true).rewindRow.loc.rewindOutcome = none) :
    (s.beginUnload t .panelUnload true).takeRewound t = s.setTr t ((s.tr t).unloadRewinds .panelUnload true).rewindRow := by
  have hbot' : ((s.tr t).unloadRewinds .panelUnload true).reck.atLoadPoint = false := hbot
  rw [State.beginUnload_standing h]
  have hplan : (s.setTr t ((s.tr t).unloadRewinds .panelUnload true)).planRewinding t =
      s.setTr t ((s.tr t).unloadRewinds .panelUnload true).rewindRow := by
    have hrow : planRewind ((s.tr t).unloadRewinds .panelUnload true).reck ≠ .complete := by
      unfold planRewind
      rw [if_neg (by simp [hbot'])]
      split <;> [skip; split] <;> [skip; skip; split] <;> simp
    simp only [State.planRewinding, State.tr_setTr_same, State.modTr_setTr, State.setTr_setTr]
  rw [hplan, State.takeRewound_none (by rw [State.tr_setTr_same]; exact hout)]

section
variable {who : Requester} {dir : Dir} {speed : RunSpeed} {target : Option Int} {k : Channel} {l : Locate}

/-- The record of a transport whose unload has asked for the first leg of its rewind on the capstan (R40, R130). -/
def Transport.unloadRuns (x : Transport) (k : Channel) (l : Locate) (dir : Dir) (speed : RunSpeed) (target : Option Int) :
    Transport :=
  { x.unloadRewinds .panelUnload true with
    chan := k, loc := l, drive := { x.drive with requester := .locate, pending := some (.run dir speed target .locate) } }

/-- A panel unload whose rewind begins on the capstan (R26, R28, R40, R130). -/
theorem exec_unloadRuns {i : Instr} {f : State → State} (hi : exec i s = runTr t s f) (hp : s.powered = true)
    (hf : f s = ((s.setTr t x).beginUnload t .panelUnload true).takeRewound t) (h : x.ReadyStanding)
    (hbot : x.reck.atLoadPoint = false) (hout : l.rewindOutcome = none)
    (hrow : (x.unloadRewinds .panelUnload true).rewindRow = x.unloadRuns k l dir speed target) :
    ∃ s', exec i s = .next s' ∧ s.Becomes s' t { Transport.started { x with
        ctl := x.ctl.unloadBegun .panelUnload true, reck := { x.reck with lastBlock := none } } .locate dir
        (x.drive.active.speed speed) target with chan := k, loc := l } := by
  refine exec_settles hi hp (y := (x.unloadRuns k l dir speed target).started .locate dir (x.drive.active.speed speed) target) ?_ rfl
  have hasked : f s = s.setTr t (x.unloadRuns k l dir speed target) := by
    rw [hf, State.unload_rewinds (by rw [State.tr_setTr_same]; exact h) (by rw [State.tr_setTr_same]; exact hbot)
      (by rw [State.tr_setTr_same, hrow]; exact hout), State.tr_setTr_same, hrow, State.setTr_setTr]
  obtain ⟨⟨hphase, hshuttle, hmode, hkind, -⟩, hstate, hperm, hstop, hpath, -⟩ := h
  have hposed : (x.unloadRuns k l dir speed target).Poised .locate dir speed target :=
    ⟨by simp [Transport.unloadRuns, Drive.atRest, Drive.standstill, hphase, hshuttle, hmode], hkind, rfl, hstate, hperm, hstop, hpath⟩
  rw [hasked, State.settled_poised (by rw [State.tr_setTr_same]; exact hposed), State.tr_setTr_same, State.setTr_setTr]
  rfl

theorem Transport.ReadyStanding.unload_rewindBack (h : x.ReadyStanding) (d : Int) :
    (x.unloadRewinds .panelUnload true).rewindBack d = x.unloadRuns { x.chan with mode := .spacing }
      { Locate.idle with order := .unloadRewind, phase := .rewinding, leg := .back, step := .moving } .backward .fs (some d) :=
  Transport.run_waits h.2.2.1 (Drive.standstill_driving h.1.1)

theorem planRewind_blind {r : Reckoning} (hbot : r.atLoadPoint = false) (h : r.anchor = .lost) : planRewind r = .blind := by
  simp [planRewind, hbot, h]

theorem planRewind_forward {r : Reckoning} (hbot : r.atLoadPoint = false) (h : r.anchor ≠ .lost)
    (hpos : r.position + r.drift < 0) : planRewind r = .forward := by
  rw [planRewind, if_neg (by simp [hbot]), if_neg h, if_pos hpos]

theorem planRewind_near {r : Reckoning} (hbot : r.atLoadPoint = false) (h : r.anchor ≠ .lost)
    (hlow : 0 ≤ r.position + r.drift) (hhigh : r.position ≤ 200000) : planRewind r = .back := by
  rw [planRewind, if_neg (by simp [hbot]), if_neg h, if_neg (Int.not_lt.mpr hlow), if_neg (Int.not_lt.mpr hhigh)]

theorem planRewind_shuttle {r : Reckoning} (h : r.anchor ≠ .lost) (hfar : 200000 < r.position) : planRewind r = .shuttle := by
  have hbot : r.atLoadPoint = false := by
    simp only [Reckoning.atLoadPoint, Bool.and_eq_false_imp, decide_eq_false_iff_not, not_le]
    intro _
    omega
  rw [planRewind, if_neg (by simp [hbot]), if_neg h, if_neg (by omega), if_pos hfar]

/-- The rewind of an unload whose first leg goes backward on the capstan (R130). -/
theorem Transport.ReadyStanding.unload_back (h : x.ReadyStanding) (hbot : x.reck.atLoadPoint = false)
    (hpos : x.reck.anchor = .lost ∨ (0 ≤ x.reck.position + x.reck.bound.getD 0 ∧ x.reck.position ≤ 200000)) :
    (x.unloadRewinds .panelUnload true).rewindRow = x.unloadRuns { x.chan with mode := .spacing }
      { Locate.idle with order := .unloadRewind, phase := .rewinding, leg := .back, step := .moving } .backward .fs
      (some (if x.reck.anchor = .lost then 16100000 else x.reck.position + x.reck.bound.getD 0 + 2000)) := by
  by_cases hlost : x.reck.anchor = .lost
  · rw [Transport.rewindRow, planRewind_blind (r := (x.unloadRewinds .panelUnload true).reck) hbot hlost, if_pos hlost]
    exact h.unload_rewindBack 16100000
  · obtain ⟨hlow, hhigh⟩ := hpos.resolve_left hlost
    rw [Transport.rewindRow, planRewind_near (r := (x.unloadRewinds .panelUnload true).reck) hbot hlost hlow hhigh, if_neg hlost]
    exact h.unload_rewindBack _

/-- The rewind of an unload whose first leg goes forward, from before the load point (R130, R131). -/
theorem Transport.ReadyStanding.unload_forward (h : x.ReadyStanding) (hbot : x.reck.atLoadPoint = false)
    (hlost : x.reck.anchor ≠ .lost) (hpos : x.reck.position + x.reck.bound.getD 0 < 0) :
    (x.unloadRewinds .panelUnload true).rewindRow = x.unloadRuns { x.chan with mode := .decode }
      { Locate.idle with order := .unloadRewind, phase := .rewinding, leg := .forward, step := .moving } .forward .rw
      (some (50 + x.reck.bound.getD 0 - x.reck.position)) := by
  rw [Transport.rewindRow, planRewind_forward (r := (x.unloadRewinds .panelUnload true).reck) hbot hlost hpos]
  exact Transport.run_waits h.2.2.1 (Drive.standstill_driving h.1.1)

end

/-! ### A shuttle begins from standstill (R28, R49, R64) -/

/-- A transport at rest in READY whose shuttle request may begin, its target in its direction (R40, R49). -/
structure Transport.ShuttlePoised (x : Transport) (p : Int) : Prop where
  rest : x.drive.atRest = true
  kind : x.drive.stopKind = .none
  pending : x.drive.pending = some (.shuttle .backward p)
  state : x.ctl.state = .ready
  permission : x.ctl.permission = .full
  stop : x.ctl.stopUnderWay = false
  path : x.sense.pathGood = true
  locate : x.loc.order ≠ .locateMark ∧ x.loc.order ≠ .locateBlock
  quiet : x.chan.Quiet
  skip : x.xfer.skipFirst = false
  ahead : p < x.reck.position

/-- The record of a transport whose backward shuttle has begun (R28, R49, R64). -/
def Transport.shuttles (x : Transport) (p : Int) : Transport :=
  { x with
    ctl := { x.ctl with state := .inMotion, pump := true, permission := .full },
    drive := x.drive.beginShuttle .backward p,
    reck := x.reck.shuttleStart }

theorem Reckoning.shuttleStart_position (r : Reckoning) : r.shuttleStart.position = r.position := by
  simp only [Reckoning.shuttleStart, Reckoning.increaseBound, Reckoning.becomeLost]
  split
  · rfl
  · split <;> rfl

theorem State.settled_shuttle {p : Int} (h : (s.tr t).ShuttlePoised p) : s.settled t = s.setTr t ((s.tr t).shuttles p) := by
  obtain ⟨hrest, hkind, hpend, hstate, hperm, hstop, hpath, hloc, hquiet, hskip, hahead⟩ := h
  have hneed : neededPermission (.shuttle .backward p) = .full := rfl
  have hbegun : (((s.modDrive t fun e => { e with pending := none }).modDrive t (·.beginShuttle .backward p)).modReck t
      (·.shuttleStart)).chanStops t = s.setTr t { s.tr t with
        drive := (s.tr t).drive.beginShuttle .backward p, reck := (s.tr t).reck.shuttleStart } := by
    have hplain := Transport.setReck_plain (x := { s.tr t with drive := (s.tr t).drive.beginShuttle .backward p })
      (r := (s.tr t).reck.shuttleStart) hloc
    have hmod : ((s.modDrive t fun e => { e with pending := none }).modDrive t (·.beginShuttle .backward p)).modReck t
      (·.shuttleStart) = s.setTr t { s.tr t with
        drive := (s.tr t).drive.beginShuttle .backward p, reck := (s.tr t).reck.shuttleStart } := by
      simp only [State.modReck, State.modDrive_setTr, State.modTr_setTr, State.tr_setTr_same, State.setTr_setTr]
      exact congrArg (s.setTr t) hplain
    rw [hmod, State.chanStops_quiet (by rw [State.tr_setTr_same]; exact hquiet) (by rw [State.tr_setTr_same]; exact hskip)]
  have hstep : s.settleOnce t = some (s.setTr t ((s.tr t).shuttles p)) := by
    have hremains : ¬ remaining ((s.tr t).drive.beginShuttle .backward p) (s.tr t).reck.shuttleStart p ≤ 0 := by
      simp only [remaining, Drive.beginShuttle, dirSign, Reckoning.shuttleStart_position]
      omega
    simp only [State.settleOnce, hrest, hkind, hpend, hstate, hperm, hneed, hpath, State.beginPending, hbegun,
      State.motionBegun, State.tr_setTr_same, State.enter, Control.enter, State.modCtl_setTr, State.setTr_setTr]
    simp [hremains, pumpOf, permissionOf, hstop, Transport.shuttles]
  refine State.settled_step hstep (Option.isNone_iff_eq_none.mp (State.settled_iff.mpr ?_))
  rw [State.tr_setTr_same]
  exact .of_moving (Drive.atRest_of_shuttle (by simp [Transport.shuttles, Drive.beginShuttle]))

/-- The rewind of an unload whose first leg is a shuttle (R130). -/
theorem Transport.ReadyStanding.unload_shuttle (h : x.ReadyStanding) (hlost : x.reck.anchor ≠ .lost)
    (hfar : 200000 < x.reck.position) :
    (x.unloadRewinds .panelUnload true).rewindRow = { x.unloadRewinds .panelUnload true with
      loc := { Locate.idle with order := .unloadRewind, phase := .rewinding, leg := .shuttle, step := .moving },
      drive := { x.drive with
        requester := .locate,
        pending := some (.shuttle .backward (shuttleBraking x.drive.active + 4000 + x.reck.bound.getD 0)) } } := by
  have hdrive : Drive.driving { x.drive with requester := .locate } = false := Drive.standstill_driving h.1.1
  have hperm : x.ctl.permission = .full := h.2.2.1
  rw [Transport.rewindRow, planRewind_shuttle (r := (x.unloadRewinds .panelUnload true).reck) hlost hfar]
  simp [Transport.rewindShuttle, Transport.shuttle, Transport.unloadRewinds, Control.unloadBegun, hperm, hdrive, Reckoning.drift]

/-- A panel unload whose rewind begins with a shuttle (R26, R28, R49, R130). -/
theorem exec_unloadShuttles {i : Instr} {f : State → State} (hi : exec i s = runTr t s f) (hp : s.powered = true)
    (hf : f s = ((s.setTr t x).beginUnload t .panelUnload true).takeRewound t) (h : x.ReadyStanding) (hu : x.Unused)
    (hlost : x.reck.anchor ≠ .lost) (hfar : 200000 < x.reck.position) {p : Int}
    (hpe : p = shuttleBraking x.drive.active + 4000 + x.reck.bound.getD 0) (hahead : p < x.reck.position) :
    ∃ s', exec i s = .next s' ∧ s.Becomes s' t (Transport.shuttles { x.unloadRewinds .panelUnload true with
      loc := { Locate.idle with order := .unloadRewind, phase := .rewinding, leg := .shuttle, step := .moving } } p) := by
  have hbot : x.reck.atLoadPoint = false := by
    simp only [Reckoning.atLoadPoint, Bool.and_eq_false_imp, decide_eq_false_iff_not, not_le]
    intro _
    omega
  have hrow := h.unload_shuttle hlost hfar
  rw [← hpe] at hrow
  have hskip : x.xfer.skipFirst = false := hu.noSkip
  obtain ⟨-, -, hquiet⟩ := hu
  generalize hasks : ({ x.unloadRewinds .panelUnload true with
      loc := { Locate.idle with order := .unloadRewind, phase := .rewinding, leg := .shuttle, step := .moving },
      drive := { x.drive with requester := .locate, pending := some (.shuttle .backward p) } } : Transport) = y at hrow
  have hasked : f s = s.setTr t y := by
    rw [hf, State.unload_rewinds (by rw [State.tr_setTr_same]; exact h) (by rw [State.tr_setTr_same]; exact hbot)
      (by rw [State.tr_setTr_same, hrow, ← hasks]; rfl), State.tr_setTr_same, hrow, State.setTr_setTr]
  obtain ⟨⟨hphase, hshuttle, hmode, hkind, -⟩, hstate, hperm, hstop, hpath, -⟩ := h
  have hposed : y.ShuttlePoised p := by
    rw [← hasks]
    exact ⟨by simp [Drive.atRest, Drive.standstill, hphase, hshuttle, hmode], hkind, rfl, hstate, hperm, hstop, hpath,
      ⟨by simp, by simp⟩, hquiet, hskip, hahead⟩
  refine exec_settles hi hp (y := y.shuttles p) ?_ (by rw [← hasks]; rfl)
  rw [hasked, State.settled_shuttle (by rw [State.tr_setTr_same]; exact hposed), State.tr_setTr_same, State.setTr_setTr]

/-! ### A tape dropped in no drive's grip (R25, R45) -/

/-- A FAULTED tape in no drive's grip, its anchor LOST, is dropped whatever the other units hold (R25, R45). -/
theorem State.dropTape_gripless (hm : (s.tr t).reck.mode = .halted) (hlost : (s.tr t).reck.anchor = .lost) :
    s.dropTape t = (s.setTr t { s.tr t with
      drive := (s.tr t).drive.disengage, ctl := (s.tr t).ctl.enter .unloaded }).holdReel t := by
  have hdis : s.disengage t = s.setTr t { s.tr t with drive := (s.tr t).drive.disengage } := by
    rw [State.disengage, State.modDrive_setTr, State.driveMode_plain (by simp [hm]) (by simp)]
    simp [Reckoning.setMode, hm, Drive.disengage]
  have hreck : (s.tr t).reck.becomeLost = (s.tr t).reck := by simp [Reckoning.becomeLost, hlost]
  simp only [State.dropTape, hdis, State.enter, State.loseAnchor, State.modReck, State.modTr_setTr, State.modCtl_setTr,
    State.tr_holdReel, State.tr_setTr_same, State.setTr_holdReel, State.setTr_setTr, hreck]
  rw [Transport.setReck_anchor rfl]

/-- A command that replaces the record of its transport and makes an ACTIVE reel record HELD (R94). -/
theorem exec_holds {i : Instr} {f : State → State} (hi : exec i s = runTr t s f) (hp : s.powered = true)
    (hf : f s = (s.setTr t x).holdReel t) (hx : x.Settled) :
    ∃ s', exec i s = .next s' ∧ s.OnlyAt s' t ∧ s'.exchange = s.exchange ∧ s'.arb = s.arb ∧
      s'.reel t = (if (s.reel t).state = .active then { s.reel t with state := .held } else s.reel t) ∧
      s'.store.poolFree = s.store.poolFree ∧ s'.tr t = x.refresh := by
  refine ⟨_, hi.trans (runTr_settled hp (by rw [hf, State.tr_holdReel, State.tr_setTr_same]; exact hx)), ?_⟩
  rw [hf]
  refine ⟨State.onlyAt_finish (by simp) (by simp), by simp, by simp, ?_, ?_, by simp⟩
  · exact Eq.trans (by simp) (State.holdReel_reel (s.setTr t x) t)
  · exact Eq.trans (by simp) (State.holdReel_poolFree (s.setTr t x) t)

/-- UNLOAD PRESSED in FAULTED with no stop under way drops the tape (R25, R33). -/
theorem State.unloadButton_faulted (hst : (s.tr t).ctl.state = .faulted) (hon : (s.tr t).ctl.online = false)
    (hstop : (s.tr t).ctl.stopUnderWay = false) :
    s.unloadButton t = (s.setTr t { s.tr t with ctl := { (s.tr t).ctl with fault := .none } }).dropTape t := by
  simp [State.unloadButton, hst, hon, hstop]

/-- UNLOAD PRESSED during a panel load fails it (R23, R25). -/
theorem State.unloadButton_loading (hst : (s.tr t).ctl.state = .threading ∨ (s.tr t).ctl.state = .seekingLoadPoint)
    (hon : (s.tr t).ctl.online = false) (hop : (s.tr t).ctl.operation = .panelLoad) :
    s.unloadButton t = s.failLoad t none := by
  rcases hst with hst | hst <;> simp [State.unloadButton, hst, hon, hop]

end

/-- Settles O22. -/
theorem panelButtons : Obligations.PanelButtons := by
  intro s t n hp hn
  refine ⟨fun hu hon htape hv hl hc => ?_, fun hg hst hon hlost hl hc => ?_, fun b hset hl hc => ?_, fun hset hon hl hc => ?_,
    fun hset hon hl hc => ?_, fun h hu hon hf hterm hbot hl hc => ?_, fun h hu hon hf hterm hbot hpos hl hc => ?_,
    fun h hu hon hf hterm hbot hlost hpos hl hc => ?_, fun p h hu hon hf hterm hlost hfar hpe hahead hl hc => ?_,
    fun hst hstop hcalm hu hon hl hc => ?_, fun hst hop hstop hon hu hcalm hmode hreck hheld hl hc => ?_,
    fun hst hop hstop hon hph hsh hmode hkind hl hc => ?_⟩
  · have hbegin := State.beginLoad_unloaded (s := s.setTr t ((s.tr t).buttonSet .load true)) (t := t)
      (by rw [State.tr_setTr_same]; exact hu) .panelLoad none false
    rw [State.tr_setTr_same, State.setTr_setTr] at hbegin
    refine exec_becomes (f := fun s => s.pressSamples t .load n) rfl hp ?_
      (.of_calm hu.1.2.2.2.1 hu.1.2.2.2.2.2.2.2.2.2.2 hu.1.2.2.2.2.1)
    have hst : ((s.tr t).buttonSet .load true).ctl.state = .unloaded := hu.2
    have hon' : ((s.tr t).buttonSet .load true).ctl.online = false := hon
    have htape' : ((s.tr t).buttonSet .load true).sense.tapePresent.level = true := htape
    refine (State.pressSamples_pressed (b := .load) hn hl hc).trans ?_
    simp only [State.loadButton, State.tr_setTr_same, hst, hon', htape', hbegin]
    simp only [Bool.not_false, decide_true, Bool.and_self, if_true]
    rw [State.threadCheck_waits (by rw [State.tr_setTr_same]; exact hv) (by rw [State.tr_setTr_same]; rfl)]
    rfl
  · obtain ⟨hphase, hshuttle, hmode, hkind, hpend, heng, hsup, htake, hrm, hstop, hend⟩ := hg
    have hdrop := State.dropTape_gripless (s := s.setTr t { (s.tr t).buttonSet .unload true with
      ctl := { (s.tr t).ctl with fault := .none } }) (t := t) (by rw [State.tr_setTr_same]; exact hrm)
      (by rw [State.tr_setTr_same]; exact hlost)
    rw [State.tr_setTr_same, State.setTr_setTr] at hdrop
    have hbutton := State.unloadButton_faulted (s := s.setTr t ((s.tr t).buttonSet .unload true)) (t := t)
      (by rw [State.tr_setTr_same]; exact hst) (by rw [State.tr_setTr_same]; exact hon) (by rw [State.tr_setTr_same]; exact hstop)
    rw [State.tr_setTr_same, State.setTr_setTr] at hbutton
    obtain ⟨s', hx, honly, hexch, harb, hreel, hpool, htr⟩ := exec_holds (exec_unloadPressed hn hl hc) hp
      (hbutton.trans hdrop) (.of_calm rfl hend rfl)
    refine ⟨s', hx, honly, hexch, harb, hreel, hpool, ?_, ?_, ?_, ?_⟩ <;> rw [htr]
    · rfl
    · rfl
    · rw [Transport.refresh_ctl]
      simp [Control.enter, pumpOf, permissionOf, hstop]
    · simp [Transport.refresh, Transport.buttonSet, Sensing.setButton]
  · obtain ⟨-, hlevel⟩ := Level.samples_changes hn (by simp [hl] : false ≠ ((s.tr t).sense.button b).level) hc
    refine exec_becomes (f := fun s => s.modSense t fun x => x.setButton b ((x.button b).samples 20 false n)) rfl hp ?_ ?_
    · rw [State.modSense_setTr, hlevel]
    · exact (State.settled_iff.mp hset).congr rfl rfl rfl rfl rfl (by cases b <;> rfl)
  · refine exec_becomes (f := fun s => s.pressSamples t .load n) rfl hp ?_ (State.settled_iff.mp hset).congr
    refine (State.pressSamples_pressed (b := .load) hn hl hc).trans ?_
    simp [State.loadButton, Transport.buttonSet, hon, Sensing.setButton]
  · refine exec_becomes (f := fun s => s.pressSamples t .unload n) rfl hp ?_ (State.settled_iff.mp hset).congr
    refine (State.pressSamples_pressed (b := .unload) hn hl hc).trans ?_
    simp [State.unloadButton, Transport.buttonSet, hon, Sensing.setButton]
  · obtain ⟨s', hx, honly, hexch, harb, hreel, hpool, htr⟩ := exec_unloads (z := s.setTr t (s.tr t).unloadAsked) (o := .panelUnload)
      (keep := true) (exec_unloadAsked h hon hf hterm hn hl hc) hp rfl (by rw [State.tr_setTr_same])
      (by rw [State.tr_setTr_same]; exact h) (by rw [State.tr_setTr_same]; exact hu) (by rw [State.tr_setTr_same]; exact hbot)
      (.inr rfl)
    rw [State.tr_setTr_same] at htr
    have hheld : (s.reel t).unloaded true =
        if (s.reel t).state = .active then { s.reel t with state := .held } else s.reel t := by
      simp [ReelRecord.unloaded]
    refine ⟨s', hx, honly, hexch, harb, hreel.trans hheld, ?_, ?_⟩
    · rw [hreel, hheld] at hpool
      split at hpool <;> simpa using hpool
    · rw [htr, ReelRecord.unloadRetires]
      simp only [Bool.not_true, Bool.and_false, Bool.false_and]
      rfl
  · exact exec_unloadRuns (exec_unloadAsked h hon hf hterm hn hl hc) hp rfl h hbot rfl
      (Transport.ReadyStanding.unload_back (x := (s.tr t).unloadAsked) h hbot hpos)
  · exact exec_unloadRuns (exec_unloadAsked h hon hf hterm hn hl hc) hp rfl h hbot rfl
      (Transport.ReadyStanding.unload_forward (x := (s.tr t).unloadAsked) h hbot hlost hpos)
  · exact exec_unloadShuttles (exec_unloadAsked h hon hf hterm hn hl hc) hp rfl h hu hlost hfar hpe hahead
  · have hdrop := State.dropTape_unused (s := s.setTr t { (s.tr t).buttonSet .unload true with
      ctl := { (s.tr t).ctl with fault := .none } }) (t := t) (by rw [State.tr_setTr_same]; exact hu)
    rw [State.tr_setTr_same, State.setTr_setTr] at hdrop
    have hbutton := State.unloadButton_faulted (s := s.setTr t ((s.tr t).buttonSet .unload true)) (t := t)
      (by rw [State.tr_setTr_same]; exact hst) (by rw [State.tr_setTr_same]; exact hon) (by rw [State.tr_setTr_same]; exact hstop)
    rw [State.tr_setTr_same, State.setTr_setTr] at hbutton
    obtain ⟨s', hx, honly, hexch, harb, hreel, hpool, htr⟩ := exec_holds (exec_unloadPressed hn hl hc) hp
      (hbutton.trans hdrop) (fun _ => ⟨rfl, fun hs => absurd hs TState.noConfusion, fun _ hr => absurd hr (by simp [Transport.dropped, Drive.disengage])⟩)
    refine ⟨s', hx, honly, hexch, harb, hreel, hpool, ?_, ?_, ?_, ?_, ?_, ?_⟩ <;> rw [htr]
    all_goals simp [Transport.dropped, Drive.disengage, Control.enter, hstop, pumpOf, permissionOf, Transport.buttonSet]
  · refine exec_panelLoadFails (x := (s.tr t).buttonSet .unload true) (c := none) (exec_unloadPressed hn hl hc) hp
      (State.unloadButton_loading (by rw [State.tr_setTr_same]; exact .inl hst) (by rw [State.tr_setTr_same]; exact hon)
        (by rw [State.tr_setTr_same]; exact hop)) ⟨hu, hst, hstop, hcalm, hmode, hreck⟩ hop rfl hheld
  · have hfail := State.failLoad_eq (s := s.setTr t ((s.tr t).buttonSet .unload true)) (t := t) none
      (by rw [State.tr_setTr_same]; simp [Control.loading, Transport.buttonSet, hst]) (by rw [State.tr_setTr_same]; exact hstop)
    rw [State.tr_setTr_same, State.setTr_setTr] at hfail
    have hbutton := State.unloadButton_loading (s := s.setTr t ((s.tr t).buttonSet .unload true)) (t := t)
      (by rw [State.tr_setTr_same]; exact .inr hst) (by rw [State.tr_setTr_same]; exact hon) (by rw [State.tr_setTr_same]; exact hop)
    refine exec_becomes (exec_unloadPressed hn hl hc) hp ((hbutton.trans hfail).trans ?_)
      (.of_moving (Drive.atRest_of_phase (by simp)))
    congr 1
    simp [Transport.loadStops, Transport.buttonSet, Transport.loadInFlight, hop, Drive.beginStop, Drive.bringToRest, Drive.decel,
      Drive.brake, hkind, hmode, hph, hsh, Sensing.setButton]

end Sys2Proof.Machine
end

section
/-! PROOF. The Arbiter's grants and what a granted burst carries (R149, R155, R156, R171, R172). -/
namespace Sys2Proof.Machine

/-! ### The words of a read burst (R155) -/

/-- The first words of a run of bytes are the words of its first bytes. -/
theorem wordBytes_take (bs : List Byte) (k : Nat) : (wordBytes bs).take k = wordBytes (bs.take (2 * k)) := by
  induction bs using wordBytes.induct generalizing k with
  | case1 => simp [wordBytes]
  | case2 b =>
    cases k with
    | zero => simp [wordBytes]
    | succ k => simp [wordBytes, Nat.mul_succ]
  | case3 b c rest ih =>
    cases k with
    | zero => simp [wordBytes]
    | succ k => simp [wordBytes, Nat.mul_succ, ih]

theorem wordBytes_words (bs : List Byte) : (wordBytes bs).flatMap wordsOfBytes = wordsOfBytes bs := by
  induction bs using wordBytes.induct with
  | case1 => rfl
  | case2 b => rfl
  | case3 b c rest ih => simp [wordBytes, wordsOfBytes, ih]

section
variable {s z : State} {t : Tr} {a : Arbiter} {k : TransferKind} {x : BusTransfer} {y : Transport}

/-- A read burst of one record takes its oldest bytes, whole words alone while the record is being handed (R155). -/
theorem readBurst_oneRecord (h : y.xfer.ends = []) : readBurst y = wordBytes (y.xfer.fifo.take
    (if y.chan.handOver = .handing then min 16 (y.xfer.fifo.length / 2 * 2) else 16)) := by
  have hhand : y.handing = decide (y.chan.handOver = .handing) := rfl
  by_cases hh : y.chan.handOver = .handing <;>
    simp [readBurst, h, fifoWords, hhand, hh, wordBytes_take, List.take_take]

/-! ### Grants (R149) -/

/-- A grant that changes the Arbiter alone. -/
theorem exec_grants (hp : s.powered = true) (hall : s.AllSettled) (hg : s.grant = s.setArb a) :
    ∃ s', exec .arbiterGrant s = .next s' ∧ s'.arb = a ∧ s'.store = s.store ∧ s'.exchange = s.exchange ∧
      s'.hostMemory = s.hostMemory ∧ ∀ u, s'.tr u = (s.tr u).refresh :=
  ⟨_, runEach_records (f := State.grant) hp hall hg (fun _ => rfl), by simp, by simp, by simp, by simp, fun u => by simp⟩

/-- A grant that changes the Arbiter and the FIFO of the transport granted. -/
theorem exec_grantsBytes (hp : s.powered = true) (hall : s.AllSettled) (hg : s.grant = (s.setTr t y).setArb a) (hy : y.Settled) :
    ∃ s', exec .arbiterGrant s = .next s' ∧ s'.arb = a ∧ s.OnlyAtEach s' t ∧ s'.store = s.store ∧ s'.exchange = s.exchange ∧
      s'.hostMemory = s.hostMemory ∧ s'.tr t = y.refresh := by
  have hothers : ∀ u, u ≠ t → ((s.setTr t y).setArb a).tr u = s.tr u := fun u hu => by simp [State.tr_setTr_other _ _ hu]
  have hexec : exec .arbiterGrant s = .next ((s.setTr t y).setArb a).refreshAll.finish := by
    refine (runEach_powered (f := State.grant) hp).trans ?_
    rw [hg, State.settleAll_only hall hothers (by simpa using hy)]
  exact ⟨_, hexec, by simp, ⟨fun u hu => ⟨by simp [State.tr_setTr_other _ _ hu], by simp⟩, by simp, by simp, by simp⟩, by simp, by simp, by simp, by simp⟩

theorem firstAfter_none {α : Type} (last : Tr) : firstAfter (fun u => ((Four.all none : Four (Option α)).get u).isSome) last = none := by
  cases last <;> rfl

theorem State.grant_control (hc : s.arb.current = none) (hg : s.arb.control.get t = some x)
    (hf : firstAfter (fun u => (s.arb.control.get u).isSome) s.arb.controlLast = some t) :
    s.grant = s.setArb { s.arb with control := s.arb.control.set t none, controlLast := t, current := some (t, x) } := by
  simp only [State.grant, hc, hf, State.grantControl, hg, Option.isSome_none, Bool.false_eq_true, if_false]
  rfl

theorem State.takeBurst_arb (s : State) (t : Tr) (k : TransferKind) : (s.takeBurst t k).arb = s.arb := by
  cases k <;> rfl

theorem State.grant_data (hc : s.arb.current = none) (hn : s.arb.control = .all none) (hg : s.arb.data.get t = some k)
    (hf : firstAfter (fun u => (s.arb.data.get u).isSome) s.arb.dataLast = some t) :
    s.grant = (s.takeBurst t k).setArb { s.arb with
      data := s.arb.data.set t none, dataLast := t, current := some (t, s.dataBurst t k) } := by
  have hno : firstAfter (fun u => (s.arb.control.get u).isSome) s.arb.controlLast = none := by
    rw [hn]
    exact firstAfter_none _
  simp only [State.grant, hc, hno, hf, State.grantData, hg, Option.isSome_none, Bool.false_eq_true, if_false]
  rw [State.takeBurst_arb]
  rfl

/-- A read burst granted: its bytes leave the FIFO (R149, R155). -/
theorem exec_grantsRead (hp : s.powered = true) (hall : s.AllSettled) (hc : s.arb.current = none) (hn : s.arb.control = .all none)
    (hg : s.arb.data.get t = some .readBurst)
    (hf : firstAfter (fun u => (s.arb.data.get u).isSome) s.arb.dataLast = some t)
    {ws : List (List Byte)} (hws : readBurst (s.tr t) = ws) :
    ∃ s', exec .arbiterGrant s = .next s' ∧ s'.arb = { s.arb with
        data := s.arb.data.set t none, dataLast := t,
        current := some (t, burst .readBurst (s.tr t).xfer.hostAddress (ws.flatMap wordsOfBytes).length (ws.flatMap wordsOfBytes)
          (ws.map (·.length))) } ∧
      s.OnlyAtEach s' t ∧ s'.store = s.store ∧ s'.exchange = s.exchange ∧ s'.hostMemory = s.hostMemory ∧
      s'.tr t = Transport.refresh { s.tr t with xfer := (s.tr t).xfer.giveUp ws.flatten.length } := by
  refine exec_grantsBytes hp hall ((State.grant_data hc hn hg hf).trans ?_) (hall.settled t).congr
  simp only [State.takeBurst, State.modTr_setTr, readBurstBytes, hws, State.dataBurst]

end

/-- Settles O31. -/
theorem arbiterGrants : Obligations.ArbiterGrants := by
  intro s hp hall
  refine ⟨fun t x hc hg hf => exec_grants hp hall (State.grant_control hc hg hf), fun t bs hc hn hf hg hends hbs => ?_,
    fun t n rest ws hc hn hf hg hends hws => ?_, fun t hc hn hf hg => ?_, fun t c hc hn hf hg hcopy => ?_,
    fun t c n k hc hn hf hg hcopy hmore => ?_, fun h => ?_⟩
  · have hburst := readBurst_oneRecord hends
    rw [← hbs] at hburst
    have hgrant := exec_grantsRead hp hall hc hn hg hf hburst
    rw [wordBytes_words, wordBytes_flatten] at hgrant
    simpa [Transfer.giveUp, hends, dropEnds, burst] using hgrant
  · have hburst : readBurst (s.tr t) = ws := by rw [hws, readBurst, hends, fifoWords]
    have hgrant := exec_grantsRead hp hall hc hn hg hf hburst
    rw [Transfer.giveUp, hends] at hgrant
    exact hgrant
  · exact exec_grants hp hall (State.grant_data hc hn hg hf)
  · have hburst : s.dataBurst t .dumpBurst = burst .dumpBurst (c.address + 2 * s.exchange.written)
        (min 8 (s.exchange.table.length - s.exchange.written)) ((s.exchange.table.drop s.exchange.written).take 8) [] := by
      simp [State.dataBurst, State.orderAddress, hcopy]
    have hgrant := State.grant_data hc hn hg hf
    rw [hburst] at hgrant
    exact exec_grants hp hall hgrant
  · have hburst : s.dataBurst t .loadBurst = burst .loadBurst (c.address + 2 * s.exchange.table.length)
        (min (c.opC - s.exchange.table.length) (min 8 n)) [] [] := by
      simp [State.dataBurst, State.orderAddress, State.orderC, hcopy, hmore, Import.burst]
    have hgrant := State.grant_data hc hn hg hf
    rw [hburst] at hgrant
    exact exec_grants hp hall hgrant
  · refine exec_grants (a := s.arb) hp hall ?_
    obtain hbusy | ⟨hn, hd⟩ := h
    · exact if_pos hbusy
    · have hcontrol : firstAfter (fun u => (s.arb.control.get u).isSome) s.arb.controlLast = none := by
        rw [hn]
        exact firstAfter_none _
      have hdata : firstAfter (fun u => (s.arb.data.get u).isSome) s.arb.dataLast = none := by
        rw [hd]
        exact firstAfter_none _
      simp only [State.grant, hcontrol, hdata, ite_self]
      rfl

end Sys2Proof.Machine
end

section
/-! PROOF. An order abandoned, by the stage it has reached (R23, R27, R29, R98, R134, R137, R144, R147, R168). -/
namespace Sys2Proof.Machine

section
variable {s z : State} {t : Tr} {a : Arbiter} {x y : Transport} {v : Word} {c : OrderCopy} {code : Nat}

/-! ### The abandonment at the Order Port (R137, R144, R147) -/

/-- The record of a transport whose order has been abandoned, before its owners are told (R137, R147). -/
def Transport.abandoned (x : Transport) : Transport :=
  { x with port := { x.port.toIdle with attention := x.port.attention ||| x.port.senseTaken } }

/-- The state in which the owners of an abandoned order are told. -/
def State.abandoned (s : State) (t : Tr) : State := (s.setTr t (s.tr t).abandoned).setArb (s.withdrawControl t).arb

@[simp] theorem State.tr_abandoned (s : State) (t : Tr) : (s.abandoned t).tr t = (s.tr t).abandoned := by
  simp [State.abandoned]

@[simp] theorem State.setTr_abandoned (s : State) (t : Tr) (x : Transport) :
    (s.abandoned t).setTr t x = (s.setTr t x).setArb (s.withdrawControl t).arb := by
  simp [State.abandoned]

theorem State.withdrawControl_eq (s : State) (t : Tr) : s.withdrawControl t = s.setArb (s.withdrawControl t).arb := rfl

theorem State.abandon_fetching (hoff : (s.tr t).ctl.offlinePending = false) (hst : (s.tr t).port.stage = .fetching) :
    s.abandon t = s.abandoned t := by
  rw [State.abandon, State.withdrawControl_eq]
  simp [hst, Transport.applyOffline, hoff, State.abandoned, Transport.abandoned]

theorem State.abandon_dispatched (hoff : (s.tr t).ctl.offlinePending = false) (hst : (s.tr t).port.stage ≠ .fetching)
    (hc : (s.tr t).port.copy = some c) : s.abandon t = (s.abandoned t).tellOwners t c.code := by
  rw [State.abandon, State.withdrawControl_eq]
  simp [hst, hc, Transport.applyOffline, hoff, State.abandoned, Transport.abandoned]

/-- ORDER_POINTER_WRITE with index 0 while an order is in flight (R137). -/
theorem exec_abandons (hp : s.powered = true) (hv : writtenIndex v = 0) (hptr : (s.tr t).port.pointer = .inFlight)
    (hf : (s.abandon t).settled t = (s.setTr t y).setArb a) :
    ∃ s', exec (.orderPointerWrite t v) s = .next s' ∧ s.OnlyAt s' t ∧ s'.store = s.store ∧ s'.exchange = s.exchange ∧
      s'.arb = a ∧ s'.tr t = y.refresh := by
  have hwrite : s.pointerWrite t (writtenIndex v) = s.abandon t := by simp [State.pointerWrite, hptr, hv]
  have hexec : exec (.orderPointerWrite t v) s = .next ((((s.setTr t y).setArb a).refresh t).finish) := by
    refine (runTr_powered (f := fun s => s.pointerWrite t (writtenIndex v)) hp).trans ?_
    rw [hwrite, hf]
  exact ⟨_, hexec, State.onlyAt_finish (by simp) rfl, by simp, by simp, by simp, by simp⟩

theorem State.settled_abandoned (hf : z = (s.setTr t y).setArb a) (hy : y.Settled) : z.settled t = (s.setTr t y).setArb a := by
  rw [hf, State.settled_eq (by rw [State.tr_setArb, State.tr_setTr_same]; exact hy)]

/-! ### The owners told (R23, R27, R29, R98, R134, R168) -/

/-- A map order without the exchange area leaves its stage alone behind (R98, R170). -/
theorem State.leaveMap_outside (hh : s.exchange.holder ≠ some t) (hw : s.exchange.waiting.get t = false) :
    s.leaveMap t = s.setTr t { s.tr t with mapOrder := .none } := by
  simp [State.leaveMap, hh, State.releaseExchange, Four.set_false hw, State.setTr]

theorem State.tellOwners_idle (hctl : z.controlAbandon t code = z.setTr t x) (hloc : x.locateAbandon code = y)
    (hxfer : y.xfer.order = .none) (hh : z.exchange.holder ≠ some t) (hw : z.exchange.waiting.get t = false) :
    z.tellOwners t code = z.setTr t { y with mapOrder := .none } := by
  simp only [State.tellOwners, hctl, State.modTr_setTr, State.tr_setTr_same, State.setTr_setTr, hloc]
  have hab : (z.setTr t y).xferAbandon t = z.setTr t y := by simp [State.xferAbandon, hxfer]
  rw [hab, State.leaveMap_outside (by simpa using hh) (by simpa using hw), State.tr_setTr_same, State.setTr_setTr]

/-- The record of a transport whose Transfer Unit has left an abandoned READ or WRITE (R154, R168). -/
def Transport.xferLeft (x : Transport) (k : Channel) : Transport :=
  { x with xfer := .idle, chan := k.leaveTransfer x.xfer.order, mapOrder := .none }

theorem State.tellOwners_transfer {k : Channel} (hctl : z.controlAbandon t code = z.setTr t x) (hloc : x.locateAbandon code = x)
    (hxfer : (z.setTr t x).xferAbandon t = (z.setTr t { x with chan := k }).xferIdle t)
    (hh : z.exchange.holder ≠ some t) (hw : z.exchange.waiting.get t = false) :
    z.tellOwners t code = (z.withdrawData t).setTr t (x.xferLeft k) := by
  simp only [State.tellOwners, hctl, State.modTr_setTr, State.tr_setTr_same, State.setTr_setTr, hloc, hxfer, State.xferIdle]
  rw [State.leaveMap_outside (by simpa using hh) (by simpa using hw)]
  simp [Transport.xferLeft]

/-- A controlled stop of the capstan at speed (R29, R52; log 69). -/
theorem Drive.beginStop_running {d : Drive} (hphase : d.phase = .run) (hshuttle : d.shuttlePhase = .none) (hmode : d.mode = .capstan)
    (hkind : d.stopKind = .none) (k : StopKind) : d.beginStop k =
      { d with
        phase := .decel, stopKind := k, holdOver := none, pending := none, stopTarget := none, shuttleTarget := none } := by
  simp [Drive.beginStop, Drive.bringToRest, Drive.decel, Drive.brake, hphase, hshuttle, hmode, hkind]

/-- The record of a transport IN MOTION whose tape motion order has been abandoned, before the other owners are told
(R29, R52). -/
def Transport.motionAbandoned (x : Transport) : Transport :=
  { x.abandoned with
    ctl := { x.ctl with
      state := .stopping, pump := true, permission := .stop, operation := .none, stopByClear := false },
    drive := { x.drive with
      phase := .decel, stopKind := .controlled, holdOver := none, pending := none, stopTarget := none, shuttleTarget := none } }

theorem State.controlAbandon_running (h : (s.tr t).Running) (hc : motionCode code = true) :
    (s.abandoned t).controlAbandon t code = (s.abandoned t).setTr t (s.tr t).motionAbandoned := by
  obtain ⟨hstate, hstop, hphase, hshuttle, hmode, hkind, -⟩ := h
  have hbegin := Drive.beginStop_running hphase hshuttle hmode hkind .controlled
  simp [State.controlAbandon, Transport.abandoned, hstate, hc, hstop, State.enter, Control.enter, pumpOf, permissionOf, hbegin,
    Transport.motionAbandoned]

theorem Transport.motionAbandoned_moving (x : Transport) : x.motionAbandoned.drive.atRest = false :=
  Drive.atRest_of_phase (by simp [Transport.motionAbandoned])

/-- What an abandonment leaves of the Arbiter when no data request goes with it (R144, R149). -/
theorem State.abandoned_arb (s : State) (t : Tr) : (s.withdrawControl t).arb.control = s.arb.control.set t none ∧
    (s.withdrawControl t).arb.data = s.arb.data ∧
    (s.withdrawControl t).arb.current = (s.arb.current.map fun y =>
      if y.1 = t ∧ dataKind y.2.kind = false then (y.1, { y.2 with orphan := true }) else y) := by
  simp

/-- The Arbiter once a requester has withdrawn its data request. -/
theorem State.withdrawData_arb (s : State) (t : Tr) : (s.withdrawData t).arb =
    { s.arb with
      data := s.arb.data.set t none,
      current := s.arb.current.map fun y =>
        if y.1 = t ∧ dataKind y.2.kind = true then (y.1, { y.2 with orphan := true }) else y } := by
  unfold State.withdrawData Arbiter.orphanCurrent
  cases hc : s.arb.current with
  | none => simp [hc]
  | some p =>
    obtain ⟨u, x⟩ := p
    by_cases h : u = t ∧ dataKind x.kind = true <;> simp [hc, h]

/-- What the abandonment of a READ or WRITE leaves of the Arbiter (R144, R149, R154). -/
theorem State.abandoned_transfer_arb (s : State) (t : Tr) :
    ((s.withdrawControl t).withdrawData t).arb.control = s.arb.control.set t none ∧
    ((s.withdrawControl t).withdrawData t).arb.data = s.arb.data.set t none ∧
    ((s.withdrawControl t).withdrawData t).arb.current =
      (s.arb.current.map fun y => if y.1 = t then (y.1, { y.2 with orphan := true }) else y) := by
  have hboth (y : Tr × BusTransfer) :
      (let z := if y.1 = t ∧ dataKind y.2.kind = false then (y.1, { y.2 with orphan := true }) else y
       if z.1 = t ∧ dataKind z.2.kind = true then (z.1, { z.2 with orphan := true }) else z) =
        if y.1 = t then (y.1, { y.2 with orphan := true }) else y := by
    by_cases ht : y.1 = t <;> cases hk : dataKind y.2.kind <;> simp [ht, hk]
  rw [State.withdrawData_arb, State.withdrawControl_arb]
  refine ⟨rfl, rfl, ?_⟩
  rw [Option.map_map]
  exact congrArg (Option.map · s.arb.current) (funext hboth)

/-- An abandonment that leaves the Arbiter's data requests. -/
theorem exec_abandons_control (hp : s.powered = true) (hv : writtenIndex v = 0) (hptr : (s.tr t).port.pointer = .inFlight)
    (hf : s.abandon t = (s.abandoned t).setTr t y) (hy : y.Settled) :
    ∃ s', exec (.orderPointerWrite t v) s = .next s' ∧ s.OnlyAt s' t ∧ s'.store = s.store ∧ s'.exchange = s.exchange ∧
      s'.arb.control = s.arb.control.set t none ∧ s'.arb.data = s.arb.data ∧
      s'.arb.current = (s.arb.current.map fun y =>
        if y.1 = t ∧ dataKind y.2.kind = false then (y.1, { y.2 with orphan := true }) else y) ∧
      s'.tr t = y.refresh := by
  obtain ⟨hcontrol, hdata, hcurrent⟩ := s.abandoned_arb t
  obtain ⟨s', hx, honly, hstore, hexch, harb, htr⟩ := exec_abandons hp hv hptr
    (State.settled_abandoned (hf.trans (State.setTr_abandoned _ _ _)) hy)
  exact ⟨s', hx, honly, hstore, hexch, harb ▸ hcontrol, harb ▸ hdata, harb ▸ hcurrent, htr⟩

/-- The abandonment of a READ or WRITE IN MOTION (R29, R144, R154, R168). -/
theorem exec_abandons_transfer {k : Channel} (hp : s.powered = true) (hv : writtenIndex v = 0)
    (hptr : (s.tr t).port.pointer = .inFlight) (hoff : (s.tr t).ctl.offlinePending = false)
    (hst : (s.tr t).port.stage ≠ .fetching) (hc : (s.tr t).port.copy = some c) (hcode : motionCode c.code = true)
    (hloc : locateCode c.code = false) (h : (s.tr t).Running) (ho : (s.tr t).loc.order = .none)
    (hxfer : ((s.abandoned t).setTr t (s.tr t).motionAbandoned).xferAbandon t =
      ((s.abandoned t).setTr t { (s.tr t).motionAbandoned with chan := k }).xferIdle t)
    (hh : s.exchange.holder ≠ some t) (hw : s.exchange.waiting.get t = false) :
    ∃ s', exec (.orderPointerWrite t v) s = .next s' ∧ s.OnlyAt s' t ∧ s'.store = s.store ∧ s'.exchange = s.exchange ∧
      s'.arb.control = s.arb.control.set t none ∧ s'.arb.data = s.arb.data.set t none ∧
      s'.arb.current = (s.arb.current.map fun y => if y.1 = t then (y.1, { y.2 with orphan := true }) else y) ∧
      s'.tr t = ((s.tr t).motionAbandoned.xferLeft k).refresh := by
  have hlocate : (s.tr t).motionAbandoned.locateAbandon c.code = (s.tr t).motionAbandoned := by
    have ho' : (s.tr t).motionAbandoned.loc.order = .none := ho
    simp [Transport.locateAbandon, hloc, ho']
  have htell : s.abandon t = (s.setTr t ((s.tr t).motionAbandoned.xferLeft k)).setArb ((s.withdrawControl t).withdrawData t).arb := by
    rw [State.abandon_dispatched hoff hst hc,
      State.tellOwners_transfer (State.controlAbandon_running h hcode) hlocate hxfer hh hw]
    simp only [State.abandoned, State.setArb_withdrawData, State.setTr_setArb, State.setTr_setTr]
    rfl
  obtain ⟨hcontrol, hdata, hcurrent⟩ := s.abandoned_transfer_arb t
  obtain ⟨s', hx, honly, hstore, hexch, harb, htr⟩ := exec_abandons hp hv hptr
    (State.settled_abandoned htell (.of_moving (Transport.motionAbandoned_moving _)))
  exact ⟨s', hx, honly, hstore, hexch, harb ▸ hcontrol, harb ▸ hdata, harb ▸ hcurrent, htr⟩

/-- A blank watch that is the requester's own ends with it (R78). -/
theorem Channel.watchOff_own {k : Channel} {r : Requester} (h : k.blankWatch.all (·.1 = r) = true) :
    k.watchOff r = { k with blankWatch := none } := by
  have hnone : (k.blankWatch.filter fun w => w.1 ≠ r) = none := by
    generalize k.blankWatch = o at h ⊢
    cases o with
    | none => rfl
    | some w => simpa using h
  rw [Channel.watchOff, hnone]

/-- A transport at the exchange area's door neither holds it nor waits for it. -/
theorem exec_abandons_idle (hp : s.powered = true) (hv : writtenIndex v = 0) (hptr : (s.tr t).port.pointer = .inFlight)
    (hoff : (s.tr t).ctl.offlinePending = false) (hst : (s.tr t).port.stage ≠ .fetching) (hc : (s.tr t).port.copy = some c)
    (hctl : (s.abandoned t).controlAbandon t c.code = (s.abandoned t).setTr t x) (hloc : x.locateAbandon c.code = y)
    (hxfer : y.xfer.order = .none) (hh : s.exchange.holder ≠ some t) (hw : s.exchange.waiting.get t = false)
    (hy : Transport.Settled { y with mapOrder := .none }) :
    ∃ s', exec (.orderPointerWrite t v) s = .next s' ∧ s.OnlyAt s' t ∧ s'.store = s.store ∧ s'.exchange = s.exchange ∧
      s'.arb.control = s.arb.control.set t none ∧ s'.arb.data = s.arb.data ∧
      s'.arb.current = (s.arb.current.map fun y =>
        if y.1 = t ∧ dataKind y.2.kind = false then (y.1, { y.2 with orphan := true }) else y) ∧
      s'.tr t = Transport.refresh { y with mapOrder := .none } :=
  exec_abandons_control hp hv hptr
    ((State.abandon_dispatched hoff hst hc).trans (State.tellOwners_idle hctl hloc hxfer hh hw)) hy

/-- The record of a transport whose LOAD has been abandoned in THREADING, the owners told (R23; logs 14, 20). -/
def Transport.loadForgotten (x : Transport) : Transport :=
  { Transport.loadStops { x.abandoned with ctl := { x.ctl with failCondition := none } } none with mapOrder := .none }

/-- A LOAD abandoned in THREADING at rest drops the tape at once (R23, R144). -/
theorem State.abandon_threading (hoff : (s.tr t).ctl.offlinePending = false) (hst : (s.tr t).port.stage ≠ .fetching)
    (hc : (s.tr t).port.copy = some c) (hcode : c.code = 1) (h : (s.tr t).ThreadingAtRest)
    (hh : s.exchange.holder ≠ some t) (hw : s.exchange.waiting.get t = false) :
    (s.abandon t).settled t = (s.setTr t (s.tr t).loadForgotten.loadFailed).setArb (s.withdrawControl t).arb := by
  generalize hx : ({ (s.tr t).abandoned with ctl := { (s.tr t).ctl with failCondition := none } } : Transport) = x
  have hat : x.ThreadingAtRest := by
    subst hx
    exact ⟨h.unused, h.state, h.noStop, h.calm, h.mode, h.reck⟩
  have hctl : (s.abandoned t).controlAbandon t c.code = (s.abandoned t).setTr t (x.loadStops none) := by
    have hfail := State.failLoad_eq (s := (s.abandoned t).setTr t x) (t := t) none
      (by rw [State.tr_setTr_same]; simp [Control.loading, hat.state]) (by rw [State.tr_setTr_same]; exact hat.noStop)
    rw [State.tr_setTr_same, State.setTr_setTr] at hfail
    have hstate : (s.tr t).abandoned.ctl.state = .threading := h.state
    have hforget : (s.abandoned t).controlAbandon t c.code = (s.abandoned t).forgetLoad t := by
      rw [State.controlAbandon, State.tr_abandoned]
      simp only [hstate, hcode, if_true]
    rw [hforget, State.forgetLoad, State.modCtl_setTr, State.tr_abandoned]
    exact (congrArg (fun y => ((s.abandoned t).setTr t y).failLoad t none) hx).trans hfail
  have hun := (hat.failing none).unused
  have hloc : (x.loadStops none).locateAbandon c.code = x.loadStops none := by
    obtain ⟨-, hloc, -⟩ := hun
    simp [Transport.locateAbandon, hcode, locateCode, motionCode]
  have hnone : (x.loadStops none).xfer.order = .none := by
    obtain ⟨hxfer, -⟩ := hun
    rw [hxfer]
    rfl
  have hforgot : { x.loadStops none with mapOrder := .none } = (s.tr t).loadForgotten := by rw [← hx]; rfl
  have hfailing : (s.tr t).loadForgotten.LoadFailing := by
    obtain ⟨hunused, hstate, hstop, hrest, hmode, hreck, hkind, hpend, hreq⟩ := hat.failing none
    rw [← hforgot]
    exact ⟨hunused, hstate, hstop, hrest, hmode, hreck, hkind, hpend, hreq⟩
  rw [State.abandon_dispatched hoff hst hc, State.tellOwners_idle hctl hloc hnone hh hw, hforgot,
    State.settled_loadFailing (by rw [State.tr_setTr_same]; exact hfailing)]
  have hcond : (s.tr t).loadForgotten.ctl.failCondition = none := by
    simp [Transport.loadForgotten, Transport.loadStops]
  have hheld : (s.tr t).loadForgotten.loadFailed.port.held = none := by
    simp [Transport.loadForgotten, Transport.loadFailed, Transport.dropped, Transport.loadStops, Transport.abandoned,
      Transport.loadInFlight, Port.inFlight, Port.toIdle, Port.stopTold]
  simp [hcond, State.reportLoad, State.releaseHeld, hheld]

end

/-- Settles O30: by the stage that the order has reached and by its owner. -/
theorem pointerAbandon : Obligations.PointerAbandon := by
  intro s t v hp hv hptr hoff
  refine ⟨fun hset hst hsense => ?_, fun c hst hc hcode h hu hh hw => ?_, fun c hst hc hcode hstate hstop hcalm hmode hreck hu hh hw => ?_,
    fun c hst hc hcode hstate hstop hphase hmode hu hh hw => ?_, fun c b hst hc hcode h hxfer hloc hwatch hh hw => ?_,
    fun c k f hst hc hcode h hxfer hloc hwatch hform hfp hh hw => ?_, fun c hst hc hcode h hxfer hloc hwatch hh hw => ?_⟩
  · have hfetch : s.abandon t = (s.abandoned t).setTr t { s.tr t with port := (s.tr t).port.toIdle } := by
      rw [State.abandon_fetching hoff hst]
      simp [State.abandoned, Transport.abandoned, hsense, Port.toIdle]
    exact exec_abandons_control hp hv hptr hfetch (State.settled_iff.mp hset).congr
  · have hstate : (s.tr t).abandoned.ctl.state = .ready := h.2.1
    have hkeep : (s.abandoned t).setTr t (s.tr t).abandoned = s.abandoned t := by
      have hsame := State.setTr_tr (s.abandoned t) t
      rwa [State.tr_abandoned] at hsame
    have hctl : (s.abandoned t).controlAbandon t c.code = (s.abandoned t).setTr t (s.tr t).abandoned := by
      have hnot : c.code ≠ 2 := by omega
      rw [hkeep, State.controlAbandon, State.tr_abandoned]
      simp only [hstate, hnot, if_false]
    have hloc : (s.tr t).abandoned.locateAbandon c.code = (s.tr t).abandoned := by
      have horder : (s.tr t).abandoned.loc.order = .none := by
        change (s.tr t).loc.order = .none
        rw [hu.2.1]
        rfl
      have hcodes : locateCode c.code = false := by
        simp only [locateCode, Bool.or_eq_false_iff, decide_eq_false_iff_not]
        omega
      simp [Transport.locateAbandon, hcodes, horder]
    have hxfer : (s.tr t).abandoned.xfer.order = .none := by
      change (s.tr t).xfer.order = .none
      rw [hu.1]
      rfl
    exact exec_abandons_idle hp hv hptr hoff hst hc hctl hloc hxfer hh hw (h.settled rfl rfl)
  · obtain ⟨s', hx, honly, hstore, hexch, harb, htr⟩ := exec_abandons hp hv hptr
      (State.abandon_threading hoff hst hc hcode ⟨hu, hstate, hstop, hcalm, hmode, hreck⟩ hh hw)
    obtain ⟨hcontrol, hdata, hcurrent⟩ := s.abandoned_arb t
    refine ⟨s', hx, honly, hstore, hexch, harb ▸ hcontrol, harb ▸ hdata, harb ▸ hcurrent, ?_⟩
    rw [htr]
    simp [Transport.loadForgotten, Transport.loadFailed, Transport.dropped, Transport.loadStops, Transport.abandoned,
      Transport.loadInFlight, Port.inFlight, Port.toIdle, Port.stopTold, Control.enter, pumpOf, permissionOf, Drive.disengage]
  · have hctl : (s.abandoned t).controlAbandon t c.code = (s.abandoned t).setTr t { (s.tr t).abandoned with
        ctl := { (s.tr t).ctl with operation := .none, unloadEnding := true },
        drive := { (s.tr t).drive with phase := .decel, holdOver := none, pending := none, stopTarget := none, endedBy := .none } } := by
      simp [State.controlAbandon, Transport.abandoned, hstate, hcode, State.stopUnloading, hstop, Drive.stopCreep, Drive.stop,
        Drive.decel, hphase, hmode]
    have hxfer : (s.tr t).xfer.order = .none := by rw [hu.1]; rfl
    have hloc : (s.tr t).loc.order = .none := by rw [hu.2.1]; rfl
    have hidle : Transport.locateAbandon { (s.tr t).abandoned with
        ctl := { (s.tr t).ctl with operation := .none, unloadEnding := true },
        drive := { (s.tr t).drive with phase := .decel, holdOver := none, pending := none, stopTarget := none, endedBy := .none } }
        c.code = { (s.tr t).abandoned with
        ctl := { (s.tr t).ctl with operation := .none, unloadEnding := true },
        drive := { (s.tr t).drive with phase := .decel, holdOver := none, pending := none, stopTarget := none, endedBy := .none } } := by
      simp [Transport.locateAbandon, Transport.locateIdle, Transport.abandoned, hloc]
    exact exec_abandons_idle hp hv hptr hoff hst hc hctl hidle hxfer hh hw (.of_moving (Drive.atRest_of_phase (by simp)))
  · have hread : ((s.abandoned t).setTr t (s.tr t).motionAbandoned).xferAbandon t =
        ((s.abandoned t).setTr t { (s.tr t).motionAbandoned with chan := (s.tr t).chan }).xferIdle t := by
      have ho : (s.tr t).motionAbandoned.xfer.order = .read b := hxfer
      simp only [State.xferAbandon, State.tr_setTr_same, ho]
      rfl
    obtain ⟨s', hx, honly, hstore, hexch, hcontrol, hdata, hcurrent, htr⟩ := exec_abandons_transfer hp hv hptr hoff hst hc
      (by rw [hcode]; rfl) (by rw [hcode]; rfl) h hloc hread hh hw
    refine ⟨s', hx, honly, hstore, hexch, hcontrol, hdata, hcurrent, htr.trans ?_⟩
    have hleave : (s.tr t).chan.leaveTransfer (.read b) = { (s.tr t).chan with blankWatch := none, handOver := .off } := by
      simp only [Channel.leaveTransfer, Channel.watchOff_own hwatch]
    have ho : (s.tr t).motionAbandoned.xfer.order = .read b := hxfer
    rw [Transport.xferLeft, ho, hleave]
    rfl
  · have hwrite : ((s.abandoned t).setTr t (s.tr t).motionAbandoned).xferAbandon t =
        ((s.abandoned t).setTr t { (s.tr t).motionAbandoned with chan := { (s.tr t).chan with formation := none } }).xferIdle t := by
      have ho : (s.tr t).motionAbandoned.xfer.order = .write k := hxfer
      have hcut : (s.tr t).motionAbandoned.chan.cut = { (s.tr t).chan with formation := none } := by
        simp [Transport.motionAbandoned, Transport.abandoned, Channel.cut, hform, hfp]
      simp only [State.xferAbandon, State.tr_setTr_same, ho, State.modChan_setTr, hcut, State.setTr_setTr]
    obtain ⟨s', hx, honly, hstore, hexch, hcontrol, hdata, hcurrent, htr⟩ := exec_abandons_transfer hp hv hptr hoff hst hc
      (by rw [hcode]; rfl) (by rw [hcode]; rfl) h hloc hwrite hh hw
    refine ⟨s', hx, honly, hstore, hexch, hcontrol, hdata, hcurrent, htr.trans ?_⟩
    have ho : (s.tr t).motionAbandoned.xfer.order = .write k := hxfer
    rw [Transport.xferLeft, ho]
    simp [Channel.leaveTransfer, Channel.watchOff, hwatch, Transport.motionAbandoned, Transport.abandoned]
  · have hcodes : motionCode c.code = true ∧ locateCode c.code = true := by
      obtain hcode | hcode | hcode := hcode <;> rw [hcode] <;> exact ⟨rfl, rfl⟩
    have hleave : (s.tr t).chan.leaveLocate = { (s.tr t).chan with blankWatch := none, mode := .decode } := by
      rw [Channel.leaveLocate, Channel.watchOff_own hwatch, Channel.setMode]
    refine exec_abandons_idle (y := { (s.tr t).motionAbandoned with
        loc := .idle, chan := { (s.tr t).chan with blankWatch := none, mode := .decode } }) hp hv hptr
      hoff hst hc (State.controlAbandon_running h hcodes.1) ?_ hxfer hh hw
      (.of_moving (Transport.motionAbandoned_moving (s.tr t)))
    have ho : (s.tr t).motionAbandoned.loc.order ≠ .none := hloc
    have hk : (s.tr t).motionAbandoned.chan = (s.tr t).chan := rfl
    simp only [Transport.locateAbandon, hcodes.2, Bool.true_or, if_true, Transport.locateIdle, ho, if_false, hk, hleave]

end Sys2Proof.Machine
end

section
/-! PROOF. Marker edges at Position Reckoning and in a shuttle (R10, R50, R66, R68). -/
namespace Sys2Proof.Machine

section
variable {s z : State} {t : Tr} {x y : Transport} {m : Marker} {v : Bool} {n : Nat} {e : EdgeEvent} {r : Reckoning}

/-! ### An accepted edge (R10) -/

theorem MarkerSensor.samples_changes {k : MarkerSensor} (hn : 1 ≤ n) (hv : k.level = !v) (hc : 8 ≤ k.count + n) :
    k.changes v n = true ∧ k.samples v n = { level := v, count := 0, capstanLag := 0, takeupLag := 0 } := by
  have hn' : n ≠ 0 := by omega
  have hv' : v ≠ k.level := by cases v <;> simp [hv]
  simp [MarkerSensor.changes, MarkerSensor.samples, hn', hv', hc]

/-- The record of a transport whose marker sensor has just accepted a level. -/
def Transport.markerSet (x : Transport) (m : Marker) (v : Bool) : Transport :=
  { x with sense := x.sense.setMarker m { level := v, count := 0, capstanLag := 0, takeupLag := 0 } }

theorem State.markerSamples_edge (hn : 1 ≤ n) (hv : ((s.tr t).sense.marker m).level = !v)
    (hc : 8 ≤ ((s.tr t).sense.marker m).count + n) : s.markerSamples t m v n =
      (s.setTr t ((s.tr t).markerSet m v)).markerEvent t (edgeEvent (s.tr t).sense (s.tr t).drive.engaged m v) := by
  obtain ⟨hchange, hlevel⟩ := MarkerSensor.samples_changes hn hv hc
  simp only [State.markerSamples, hchange, hlevel, State.modSense_setTr, if_true]
  rfl

/-! ### An edge that only the reckoning and the shuttle answer (R50, R66, R68) -/

/-- A Locate Unit that a marker edge does not concern: no leg that a BOT edge ends is under way (R122, R129, R131). -/
def Locate.PassesMarkers (l : Locate) : Prop :=
  l.phase ≠ .fastSpace ∧ l.phase ≠ .backCount ∧ ¬ (l.phase = .rewinding ∧ l.leg = .back)

theorem Transport.locateMarker_passes (h : x.loc.PassesMarkers) : x.locateMarker e = x := by
  obtain ⟨hfast, hback, hrewind⟩ := h
  unfold Transport.locateMarker
  split
  · split
    next hp => exact absurd hp hfast
    next hp => exact absurd hp hback
    next hp hl => exact absurd ⟨hp, hl⟩ hrewind
    next => rfl
  · rfl

theorem State.markerEvent_passes (hr : x.reck.markerEdge e = r) (ha : r.anchor ≠ .lost ∨ r.anchor = x.reck.anchor)
    (hstate : x.ctl.state ≠ .seekingLoadPoint) (hloc : x.loc.PassesMarkers) (hxfer : x.xfer.order = .none) :
    (s.setTr t x).markerEvent t e = s.setTr t ({ x with reck := r }.botMet e) := by
  have hset : x.setReck r = { x with reck := r } := by
    obtain ha | ha := ha
    · simp [Transport.setReck, ha]
    · exact Transport.setReck_anchor ha
  have hmet : ∃ d, Transport.botMet { x with reck := r } e = { x with reck := r, drive := d } := by
    unfold Transport.botMet
    split
    · exact ⟨_, rfl⟩
    · exact ⟨_, rfl⟩
  obtain ⟨d, hmet⟩ := hmet
  have hseek : (s.setTr t { x with reck := r, drive := d }).seekMarker t e = s.setTr t { x with reck := r, drive := d } := by
    simp [State.seekMarker, hstate]
  have hlocate : Transport.locateMarker { x with reck := r, drive := d } e = { x with reck := r, drive := d } :=
    Transport.locateMarker_passes hloc
  have hxferMarker : Transport.xferMarker { x with reck := r, drive := d } e = { x with reck := r, drive := d } := by
    simp [Transport.xferMarker, hxfer]
  simp only [State.markerEvent, State.modReck, State.modTr_setTr, State.tr_setTr_same, hr, hset, State.setTr_setTr, hmet, hseek,
    hlocate, hxferMarker]

theorem Transport.Unused.passesMarkers (h : x.Unused) : x.loc.PassesMarkers := by
  obtain ⟨-, hloc, -⟩ := h
  simp [hloc, Locate.idle, Locate.PassesMarkers]

/-! ### BOT and EOT (R66, R68) -/

/-- The event of a BOT zero edge (R10). -/
theorem edgeEvent_bot {k : Sensing} {g : Bool} (h : (if g then k.capstanTach else k.takeupTach).lastPositive = v) :
    edgeEvent k g .bot v =
      { marker := .bot, arrive := v, direction := signDir v,
        lag := if k.bot.count = 0 then 0 else if g then k.bot.capstanLag else k.bot.takeupLag,
        capstanGoverns := g, zeroEdge := true } := by
  have hzero : (if v then decide (signDir v = .forward) else decide (signDir v = .backward)) = true := by cases v <;> rfl
  simp only [edgeEvent, h]
  simp only [Sensing.marker, hzero, decide_true, Bool.true_and]
  rfl

/-- The reckoning that a BOT zero edge leaves, from the position it gives (R66). -/
def Reckoning.reanchored (r : Reckoning) (position : Int) (fraction : Nat) : Reckoning :=
  { r with
    position := position, fraction := fraction, anchor := .anchored, bound := some 0, nextBlock := 0, nextKnown := true,
    fileNumber := 1, lastBlock := none, eot := r.eot.map fun p => p + (position - r.position) }

/-- A BOT zero edge re-anchors the reckoning by its lag in units of 1/4096 step (R66). -/
theorem Reckoning.markerEdge_zero (hz : e.zeroEdge = true) (hm : r.mode = .capstan ∨ r.mode = .shuttle) :
    r.markerEdge e = r.reanchored (lagUnits r e / 4096) (lagUnits r e % 4096).toNat := by
  have hre : r.reanchors e = true := by obtain hm | hm := hm <;> simp [Reckoning.reanchors, hz, markersCount, hm]
  rw [Reckoning.markerEdge, if_pos hre]
  rfl

/-- A BOT zero edge under the capstan (R66). -/
theorem Reckoning.markerEdge_capstan (hz : e.zeroEdge = true) (hg : e.capstanGoverns = true) (hm : r.mode = .capstan) :
    r.markerEdge e = r.reanchored e.lag 0 := by
  rw [Reckoning.markerEdge_zero hz (.inl hm), lagUnits, if_pos hg, Int.mul_ediv_cancel _ (by decide), Int.mul_emod_left]
  rfl

/-- A BOT zero edge in a shuttle (R66). -/
theorem Reckoning.markerEdge_shuttle (hz : e.zeroEdge = true) (hg : e.capstanGoverns = false) (hm : r.mode = .shuttle) :
    r.markerEdge e = r.reanchored (e.lag * r.takeupPitch / 4096) (e.lag * r.takeupPitch % 4096).toNat := by
  rw [Reckoning.markerEdge_zero hz (.inr hm), lagUnits, if_neg (by simp [hg])]

/-- An EOT edge going forward under the capstan records the position less the lag, once (R68). -/
theorem Reckoning.markerEdge_eot (hmark : e.marker = .eot) (harr : e.arrive = true) (hdir : e.direction = .forward)
    (hz : e.zeroEdge = false) (hg : e.capstanGoverns = true) (hm : r.mode = .capstan) (hf : r.fraction < 4096) :
    r.markerEdge e = { r with eot := some (r.eot.getD (r.position - e.lag)) } := by
  have hre : ¬ r.reanchors e = true := by simp [Reckoning.reanchors, hz]
  rw [Reckoning.markerEdge, if_neg hre]
  cases heot : r.eot with
  | none =>
    have hrec : r.recordsEot e = true := by simp [Reckoning.recordsEot, hmark, harr, hdir, markersCount, hm, heot]
    have hpos : (r.position * 4096 + r.fraction - lagUnits r e) / 4096 = r.position - e.lag := by
      rw [lagUnits, if_pos hg]
      omega
    rw [if_pos hrec, hpos]
    rfl
  | some p =>
    have hrec : ¬ r.recordsEot e = true := by simp [Reckoning.recordsEot, heot]
    rw [if_neg hrec, Option.getD_some, ← heot]

theorem Transport.botMet_capstan (h : x.reck.mode = .capstan) : x.botMet e = x := by
  simp [Transport.botMet, h]

/-- A BOT zero edge brakes a shuttle that drives (R50, R66). -/
theorem Transport.botMet_shuttle (hz : e.zeroEdge = true) (hm : x.reck.mode = .shuttle)
    (hd : x.drive.shuttlePhase = .accel ∨ x.drive.shuttlePhase = .run) :
    x.botMet e = { x with drive := { x.drive with shuttlePhase := .brake, endedBy := .bot } } := by
  obtain hd | hd := hd <;> simp [Transport.botMet, hm, Reckoning.reanchors, hz, markersCount, hd, Drive.brake]

theorem State.markerEvent_capstan (hr : x.reck.markerEdge e = r) (ha : r.anchor ≠ .lost ∨ r.anchor = x.reck.anchor)
    (hstate : x.ctl.state ≠ .seekingLoadPoint) (hloc : x.loc.PassesMarkers) (hxfer : x.xfer.order = .none)
    (hm : r.mode = .capstan) : (s.setTr t x).markerEvent t e = s.setTr t { x with reck := r } := by
  rw [State.markerEvent_passes hr ha hstate hloc hxfer, Transport.botMet_capstan (x := { x with reck := r }) hm]

theorem State.markerEvent_shuttle (hr : x.reck.markerEdge e = r) (ha : r.anchor ≠ .lost ∨ r.anchor = x.reck.anchor)
    (hstate : x.ctl.state ≠ .seekingLoadPoint) (hloc : x.loc.PassesMarkers) (hxfer : x.xfer.order = .none)
    (hz : e.zeroEdge = true) (hm : r.mode = .shuttle) (hd : x.drive.shuttlePhase = .accel ∨ x.drive.shuttlePhase = .run) :
    (s.setTr t x).markerEvent t e = s.setTr t { x with
      reck := r, drive := { x.drive with shuttlePhase := .brake, endedBy := .bot } } := by
  rw [State.markerEvent_passes hr ha hstate hloc hxfer, Transport.botMet_shuttle (x := { x with reck := r }) hz hm hd]

end

/-- Settles O20. -/
theorem botReanchors : Obligations.BotReanchors := by
  intro s t n hp hn
  refine ⟨fun v hu h hmode hlast hv hc => ?_, fun v hxfer hloc hstate heng hphase hmode hlast hv hc => ?_,
    fun hu h hmode hfrac hlast hv hc => ?_⟩
  · have heng : (s.tr t).drive.engaged = true := h.2.2.2.2.2
    have hedge := edgeEvent_bot (k := (s.tr t).sense) (g := (s.tr t).drive.engaged) (v := v) (by rw [heng]; exact hlast)
    rw [heng] at hedge
    have hrest : (s.tr t).ctl.state = .ready := h.2.1
    have hreck := Reckoning.markerEdge_capstan (r := (s.tr t).reck) (e := edgeEvent (s.tr t).sense true .bot v)
      (by rw [hedge]) (by rw [hedge]) hmode
    refine exec_becomes (f := fun s => s.markerSamples t .bot v n) rfl hp ?_ (h.settled rfl rfl)
    refine (State.markerSamples_edge (m := .bot) hn hv hc).trans ?_
    rw [heng]
    refine (State.markerEvent_capstan (x := (s.tr t).markerSet .bot v) hreck (.inl (by simp [Reckoning.reanchored]))
      (by simp [Transport.markerSet, hrest]) hu.passesMarkers (by simp [Transport.markerSet, hu.1, Transfer.idle]) hmode).trans ?_
    rw [hedge]
    rfl
  · have hedge := edgeEvent_bot (k := (s.tr t).sense) (g := (s.tr t).drive.engaged) (v := v) (by rw [heng]; exact hlast)
    rw [heng] at hedge
    have hpass : (s.tr t).loc.PassesMarkers := by
      obtain hloc | hloc | ⟨hloc, hleg⟩ := hloc
      · simp [hloc, Locate.PassesMarkers, Locate.idle]
      · simp [hloc, Locate.PassesMarkers]
      · simp [hloc, hleg, Locate.PassesMarkers]
    have hreck := Reckoning.markerEdge_shuttle (r := (s.tr t).reck) (e := edgeEvent (s.tr t).sense false .bot v)
      (by rw [hedge]) (by rw [hedge]) hmode
    refine exec_becomes (f := fun s => s.markerSamples t .bot v n) rfl hp ?_ (.of_moving (Drive.atRest_of_shuttle (by simp)))
    refine (State.markerSamples_edge (m := .bot) hn hv hc).trans ?_
    rw [heng]
    refine (State.markerEvent_shuttle (x := (s.tr t).markerSet .bot v) hreck (.inl (by simp [Reckoning.reanchored]))
      (by simp [Transport.markerSet, hstate]) hpass hxfer (by rw [hedge]) hmode hphase).trans ?_
    rw [hedge]
    rfl
  · have heng : (s.tr t).drive.engaged = true := h.2.2.2.2.2
    have hrest : (s.tr t).ctl.state = .ready := h.2.1
    have hedge : edgeEvent (s.tr t).sense true .eot true =
        { marker := .eot, arrive := true, direction := .forward,
          lag := if (s.tr t).sense.eot.count = 0 then 0 else (s.tr t).sense.eot.capstanLag, capstanGoverns := true,
          zeroEdge := false } := by
      simp [edgeEvent, Sensing.marker, hlast, signDir]
    have hreck := Reckoning.markerEdge_eot (r := (s.tr t).reck) (e := edgeEvent (s.tr t).sense true .eot true)
      (by rw [hedge]) (by rw [hedge]) (by rw [hedge]) (by rw [hedge]) (by rw [hedge]) hmode hfrac
    refine exec_becomes (f := fun s => s.markerSamples t .eot true n) rfl hp ?_ (h.settled rfl rfl)
    refine (State.markerSamples_edge (m := .eot) (v := true) hn hv hc).trans ?_
    rw [heng]
    refine (State.markerEvent_capstan (x := (s.tr t).markerSet .eot true) hreck (.inr rfl)
      (by simp [Transport.markerSet, hrest]) hu.passesMarkers (by simp [Transport.markerSet, hu.1, Transfer.idle]) hmode).trans ?_
    rw [hedge]
    rfl

end Sys2Proof.Machine
end

section
/-! PROOF. Tachometer counts: nothing due before them, and what they leave at standstill (R1 to R3, R10, R55, R59). -/
namespace Sys2Proof.Machine

section
variable {s z : State} {t : Tr} {x y : Transport} {c : Tach} {p : Bool} {h1 h2 : HeadSample}

/-! ### Nothing due (log 3) -/

/-- No step that a count brings about is still due at a transport. -/
structure Transport.NothingDue (x : Transport) : Prop where
  qualified : x.chan.qualifiedDue = false
  recordEnd : x.chan.recordEndDue = false
  postamble : x.chan.postambleDue = false
  report : x.chan.reportDue = false
  formation : x.formationDue = false
  startTimeout : x.startTimeoutDue = false
  erase : x.eraseDue = false
  blank : x.chan.blankDue = false
  budget : x.budgetDue = false
  holdOver : x.drive.holdOverDue = false
  stopPoint : capstanStopPoint x.drive x.reck = .none
  brakePoint : shuttleBrakePointOf x.drive x.reck = .none
  supply : x.reck.supplyWindow.full = false
  takeup : x.reck.takeupWindow.full = false

theorem State.catchUp_nothing (h : (s.tr t).NothingDue) (hset : (s.tr t).Settled) : s.catchUp t = s := by
  obtain ⟨hqual, hend, hpost, hrep, hform, hstart, herase, hblank, hbudget, hhold, hstop, hbrake, hsup, htake⟩ := h
  have hw1 : ((s.tr t).reck.window .supply).full = false := hsup
  have hw2 : ((s.tr t).reck.window .takeup).full = false := htake
  simp only [State.catchUp, State.doQualified, hqual, State.doRecordEnd, hend, State.doPostamble, hpost, State.doWrittenReport, hrep,
    State.doFormation, hform, State.doStartTimeout, hstart, State.doEraseLength, herase, State.doBlank, hblank, State.doBudget,
    hbudget, State.doHoldOver, hhold, State.doStopPoint, hstop, State.doBrakePoint, hbrake, State.doPitch, hw1, hw2,
    Bool.false_eq_true, if_false, ne_eq, not_true_eq_false, State.settled_eq hset]

/-- A watch whose low steps have not come to 60,000 gives no BLANK (R78). -/
theorem Channel.blankDue_of_all {k : Channel} (h : k.blankWatch.all (·.2 < 60000) = true) : k.blankDue = false := by
  simp only [Channel.blankDue]
  cases hw : k.blankWatch with
  | none => rfl
  | some w =>
    rw [hw] at h
    simpa using h

/-- TACHOMETER_COUNT with nothing due before it (R1; log 6). -/
theorem State.tachometer_counts (h : (s.tr t).NothingDue) (hset : (s.tr t).Settled) (ph : Phases) (cycles : Nat) :
    s.tachometer t c ph cycles h1 h2 = (s.setTr t { (s.tr t).elapse cycles with
      sense := (s.tr t).sense.setTach c (((s.tr t).sense.tach c).sample ph) }).counts t c h1 h2
        (tachCounts ((s.tr t).sense.tach c) ph) := by
  simp only [State.tachometer, State.catchUp_nothing h hset, State.modTr_setTr, State.modSense_setTr, State.tr_setTr_same,
    State.setTr_setTr]
  rfl

/-! ### The outputs worked out between two counts of one sample (R1, R44, R55) -/

section
variable {d : Drive} {k : Sensing} {r : Reckoning} {a b : Int} {w : Bool} {side : Side}

/-- The outputs worked out for a Drive Unit whose stall watch already follows the motion (R11, R44). -/
def Transport.shown (x : Transport) (d : Drive) : Transport :=
  { x with
    drive := { d with
      supplyCommand := reelCommand { x with drive := d } .supply, takeupCommand := reelCommand { x with drive := d } .takeup },
    sense := { x.sense with writeEnable := x.chan.writeGate && x.sense.writeRing.level } }

theorem Transport.refresh_shown (x : Transport) : x.refresh = x.shown (x.drive.limitShuttle x.reck).watch := rfl

/-- The outputs do not depend on those that stand. -/
theorem Transport.shown_outputs (e : Drive) : Transport.shown { x with sense := { k with writeEnable := w }, reck := r, drive := e }
    { d with supplyCommand := a, takeupCommand := b } = Transport.shown { x with sense := k, reck := r } d := rfl

/-- The stall watch after a count does not depend on whether it was worked out before it (R55). -/
theorem Drive.watch_stallCount (d : Drive) (c : Tach) (a b : Int) :
    (Drive.stallCount { d.watch with supplyCommand := a, takeupCommand := b } c).watch =
      { (d.stallCount c).watch with supplyCommand := a, takeupCommand := b } := by
  have hsame : watchedTach (d.stallCount c) = watchedTach d ∧ (d.stallCount c).watched = d.watched := by
    unfold Drive.stallCount
    split <;> exact ⟨rfl, rfl⟩
  by_cases hw : watchedTach d = d.watched
  · have hd : d.watch = d := if_pos hw
    have hd' : (d.stallCount c).watch = d.stallCount c := if_pos (by rw [hsame.1, hsame.2, hw])
    rw [hd, hd']
    have hc : Drive.stallCount { d with supplyCommand := a, takeupCommand := b } c =
        { d.stallCount c with supplyCommand := a, takeupCommand := b } := by
      unfold Drive.stallCount
      dsimp only
      split <;> rfl
    have hout : watchedTach { d.stallCount c with supplyCommand := a, takeupCommand := b } = (d.stallCount c).watched :=
      (show watchedTach { d.stallCount c with supplyCommand := a, takeupCommand := b } = watchedTach (d.stallCount c) from rfl).trans
        (by rw [hsame.1, hsame.2, hw])
    rw [hc, Drive.watch, if_pos hout]
  · have hd : d.watch = { d with watched := watchedTach d, stallTimer := 0, stallReported := false } := if_neg hw
    have hd' : (d.stallCount c).watch = { d with watched := watchedTach d, stallTimer := 0, stallReported := false } := by
      rw [Drive.watch, if_neg (by rw [hsame.1, hsame.2]; exact hw), hsame.1]
      unfold Drive.stallCount
      split <;> rfl
    rw [hd, hd']
    have hc : Drive.stallCount { d with
          watched := watchedTach d, stallTimer := 0, stallReported := false, supplyCommand := a, takeupCommand := b } c =
        { d with watched := watchedTach d, stallTimer := 0, stallReported := false, supplyCommand := a, takeupCommand := b } := by
      unfold Drive.stallCount
      dsimp only
      split <;> rfl
    have hout : watchedTach { d with
        watched := watchedTach d, stallTimer := 0, stallReported := false, supplyCommand := a, takeupCommand := b } = watchedTach d := rfl
    exact (congrArg Drive.watch hc).trans (if_pos hout)

end

/-- A count after the outputs have been worked out leaves the outputs that it leaves without (R1). -/
theorem Transport.refresh_counted (hs : x.drive.shuttlePhase = .none) (k : Sensing) (r : Reckoning) (w : Bool) (c : Tach) :
    Transport.refresh { x with sense := { k with writeEnable := w }, reck := r, drive := x.refresh.drive.stallCount c } =
      Transport.refresh { x with sense := k, reck := r, drive := x.drive.stallCount c } := by
  have hlimit : ∀ (d : Drive) (q : Reckoning), d.shuttlePhase = .none → d.limitShuttle q = d := fun d q hd => by
    simp [Drive.limitShuttle, hd]
  have hout : ∃ a b, x.refresh.drive = { x.drive.watch with supplyCommand := a, takeupCommand := b } :=
    ⟨_, _, by simp only [Transport.refresh, hlimit _ _ hs]; rfl⟩
  obtain ⟨a, b, hout⟩ := hout
  have hsd : ∀ d : Drive, (d.stallCount c).shuttlePhase = d.shuttlePhase := fun d => by
    unfold Drive.stallCount; split <;> rfl
  have hsw : x.drive.watch.shuttlePhase = .none := by
    unfold Drive.watch
    split <;> exact hs
  have hwith : (Drive.limitShuttle (Drive.stallCount { x.drive.watch with supplyCommand := a, takeupCommand := b } c) r).watch =
      { (x.drive.stallCount c).watch with supplyCommand := a, takeupCommand := b } := by
    rw [← x.drive.watch_stallCount c a b]
    exact congrArg Drive.watch (hlimit _ _ ((hsd _).trans hsw))
  have hwithout : ((x.drive.stallCount c).limitShuttle r).watch = (x.drive.stallCount c).watch :=
    congrArg Drive.watch (hlimit _ _ ((hsd _).trans hs))
  rw [hout, Transport.refresh_shown, Transport.refresh_shown]
  exact (congrArg (Transport.shown _) hwith).trans ((Transport.shown_outputs _).trans (congrArg (Transport.shown _) hwithout).symm)

/-! ### Counts at standstill (R1, R3, R10, R55, R59) -/

/-- A transport at standstill in drive mode CAPSTAN with no order, a quiet channel and no full window. -/
structure Transport.CountsAtRest (x : Transport) : Prop where
  unused : x.Unused
  standing : x.Standing
  mode : x.reck.mode = .capstan
  moving : x.reck.moving = false
  supply : x.reck.supplyWindow.full = false
  takeup : x.reck.takeupWindow.full = false

theorem Transport.CountsAtRest.nothingDue (h : x.CountsAtRest) : x.NothingDue := by
  obtain ⟨⟨hxfer, hloc, hact, hgate, hphase, hrecord, hpend, hform, hwatch, hhand⟩, ⟨hstop, hshuttle, -⟩, -, -, hsup, htake⟩ := h
  exact ⟨by simp [Channel.qualifiedDue, hphase], by simp [Channel.recordEndDue, hphase], by simp [Channel.postambleDue, hform],
    by simp [Channel.reportDue, hform], by simp [Transport.formationDue, hform], by simp [Transport.startTimeoutDue, hform],
    by simp [Transport.eraseDue, hxfer, Transfer.idle], by simp [Channel.blankDue, hwatch],
    by simp [Transport.budgetDue, hloc, Locate.idle], by simp [Drive.holdOverDue, Drive.driving, hstop],
    by simp [capstanStopPoint, hstop], by simp [shuttleBrakePointOf, hshuttle], hsup, htake⟩

theorem Transport.CountsAtRest.settled (h : x.CountsAtRest) : x.Settled := by
  obtain ⟨-, ⟨-, -, -, hkind, hpend, -, hend⟩, -⟩ := h
  exact .of_calm hkind hend hpend

/-- The record of a transport after a count at standstill: what sensing it leaves, the position, and the stall watch. -/
def Transport.counted (x : Transport) (k : Sensing) (position : Int) (c : Tach) : Transport :=
  { x with sense := k, reck := { x.reck with position := position }, drive := x.drive.stallCount c }

@[simp] theorem Drive.stallCount_frame (d : Drive) (c : Tach) : ∃ n b, d.stallCount c = { d with stallTimer := n, stallReported := b } := by
  unfold Drive.stallCount
  split <;> exact ⟨_, _, rfl⟩

/-- Two states of a Drive Unit that agree on the motion and what is asked of it. -/
def Drive.SameMotion (d e : Drive) : Prop :=
  d.phase = e.phase ∧ d.shuttlePhase = e.shuttlePhase ∧ d.mode = e.mode ∧ d.stopKind = e.stopKind ∧ d.pending = e.pending ∧
    d.creep = e.creep

theorem Drive.stallCount_motion (d : Drive) (c : Tach) : (d.stallCount c).SameMotion d := by
  obtain ⟨_, _, hd⟩ := d.stallCount_frame c
  rw [hd]
  exact ⟨rfl, rfl, rfl, rfl, rfl, rfl⟩

theorem Transport.refresh_motion (x : Transport) : x.refresh.drive.SameMotion x.drive := by
  obtain ⟨_, _, _, _, _, _, _, hd⟩ := x.refresh_drive
  rw [hd]
  exact ⟨rfl, rfl, rfl, rfl, rfl, rfl⟩

theorem Transport.CountsAtRest.of_motion (h : x.CountsAtRest) {d : Drive} {k : Sensing} {i : Int} {j : Control}
    (hd : d.SameMotion x.drive) (hj : j.unloadEnding = x.ctl.unloadEnding) :
    Transport.CountsAtRest { x with drive := d, sense := k, ctl := j, reck := { x.reck with position := i } } := by
  obtain ⟨hu, ⟨hstop, hshuttle, hmode, hkind, hpend, hcreep, hend⟩, hcap, hmov, hsup, htake⟩ := h
  obtain ⟨hd1, hd2, hd3, hd4, hd5, hd6⟩ := hd
  exact ⟨hu, ⟨hd1.trans hstop, hd2.trans hshuttle, hd3.trans hmode, hd4.trans hkind, hd5.trans hpend, hd6.trans hcreep,
    hj.trans hend⟩, hcap, hmov, hsup, htake⟩

theorem Transport.CountsAtRest.counted (h : x.CountsAtRest) (k : Sensing) (i : Int) (c : Tach) : (x.counted k i c).CountsAtRest :=
  h.of_motion (x.drive.stallCount_motion c) rfl

theorem Transport.CountsAtRest.refresh (h : x.CountsAtRest) : x.refresh.CountsAtRest :=
  h.of_motion (i := x.reck.position) x.refresh_motion rfl

theorem Drive.SameMotion.trans {d e f : Drive} (h : d.SameMotion e) (h' : e.SameMotion f) : d.SameMotion f := by
  obtain ⟨h1, h2, h3, h4, h5, h6⟩ := h
  obtain ⟨e1, e2, e3, e4, e5, e6⟩ := h'
  exact ⟨h1.trans e1, h2.trans e2, h3.trans e3, h4.trans e4, h5.trans e5, h6.trans e6⟩

/-- Clock cycles leave the phases and the requests of the Drive Unit as they were (R37, R48, R50, R55). -/
theorem Drive.elapse_motion (d : Drive) (r : Reckoning) (n : Nat) :
    ((((d.elapseCapstan n).elapseShuttle r n).elapseWind n).elapseStall n).SameMotion d := by
  have hcapstan : ∀ e : Drive, (e.elapseCapstan n).SameMotion e := fun e => by
    unfold Drive.elapseCapstan
    dsimp only
    split <;> exact ⟨rfl, rfl, rfl, rfl, rfl, rfl⟩
  have hshuttle : ∀ e : Drive, (e.elapseShuttle r n).SameMotion e := fun e => by
    unfold Drive.elapseShuttle
    dsimp only
    split <;> exact ⟨rfl, rfl, rfl, rfl, rfl, rfl⟩
  have hwind : ∀ e : Drive, (e.elapseWind n).SameMotion e := fun e => by
    unfold Drive.elapseWind
    dsimp only
    split <;> exact ⟨rfl, rfl, rfl, rfl, rfl, rfl⟩
  have hstall : ∀ e : Drive, (e.elapseStall n).SameMotion e := fun e => by
    unfold Drive.elapseStall
    split <;> exact ⟨rfl, rfl, rfl, rfl, rfl, rfl⟩
  exact (hstall _).trans ((hwind _).trans ((hshuttle _).trans (hcapstan d)))

theorem Transport.CountsAtRest.elapse (h : x.CountsAtRest) (k : Sensing) (n : Nat) :
    Transport.CountsAtRest { x.elapse n with sense := k } :=
  h.of_motion (i := x.reck.position) (x.drive.elapse_motion x.reck n) rfl

/-- One capstan count at standstill (R10, R37, R55, R59, R75). -/
theorem State.oneCount_capstan (h : x.CountsAtRest) (hlo : positionMin < x.reck.position) (hhi : x.reck.position < positionMax) :
    (s.setTr t x).oneCount t .capstan p h1 =
      s.setTr t (x.counted (x.sense.lagMarkers .capstan p) (x.reck.position + signValue p) .capstan) := by
  obtain ⟨⟨-, hloc, -⟩, ⟨hstop, -⟩, hcap, hmov, -⟩ := h
  have hin : ¬ x.reck.position + signValue p < positionMin ∧ ¬ positionMax < x.reck.position + signValue p := by
    cases p <;> simp only [signValue] <;> constructor <;> simp <;> omega
  have hreck : x.reck.capstanCount p = { x.reck with position := x.reck.position + signValue p } := by
    simp [Reckoning.capstanCount, hcap, Reckoning.place, hin.1, hin.2, hmov]
  have hstep : x.drive.isStep p = false := by simp [Drive.isStep, hstop]
  have hdrive : x.drive.capstanCount p = x.drive := if_pos hstop
  have hset : Transport.setReck { x with sense := x.sense.lagMarkers .capstan p }
      { x.reck with position := x.reck.position + signValue p } =
      { x with sense := x.sense.lagMarkers .capstan p, reck := { x.reck with position := x.reck.position + signValue p } } :=
    Transport.setReck_anchor rfl
  have htravel : x.loc.travelCount = x.loc := by rw [hloc]; rfl
  simp only [State.oneCount, tachSide, State.capstanCount, State.modSense_setTr, State.modReck, State.modTr_setTr,
    State.tr_setTr_same, State.setTr_setTr, hreck, hset, hstep, Drive.isForwardStep, Bool.false_and, Bool.false_eq_true, if_false,
    hdrive, htravel]
  rfl

/-- One reel count at standstill (R3, R10, R55, R61). -/
theorem State.oneCount_reel {side : Side} (h : x.CountsAtRest) : (s.setTr t x).oneCount t (reelTach side) p h1 =
    s.setTr t (x.counted ((x.sense.turnReel side p).lagMarkers (reelTach side) p) x.reck.position (reelTach side)) := by
  obtain ⟨-, -, hcap, hmov, -⟩ := h
  have hside : tachSide (reelTach side) = some side := by cases side <;> rfl
  have hreck : ∀ w k, x.reck.reelCount side p w k = x.reck := fun w k => by
    simp [Reckoning.reelCount, Reckoning.revolution, hcap, hmov]
  have hset : Transport.setReck { x with sense := (x.sense.turnReel side p).lagMarkers (reelTach side) p } x.reck =
      { x with sense := (x.sense.turnReel side p).lagMarkers (reelTach side) p } := Transport.setReck_anchor rfl
  simp only [State.oneCount, hside, State.reelCount, State.modSense_setTr, State.modReck, State.modTr_setTr, State.modDrive_setTr,
    State.tr_setTr_same, State.setTr_setTr, hreck, hset]
  rfl

theorem tachCounts_cases (d : TachDecoder) (ph : Phases) :
    tachCounts d ph = [] ∨ (∃ p, tachCounts d ph = [p]) ∨ ∃ p q, tachCounts d ph = [p, q] := by
  unfold tachCounts
  split
  · exact .inl rfl
  · exact .inr (.inl ⟨_, rfl⟩)
  · exact .inr (.inl ⟨_, rfl⟩)
  · exact .inr (.inr ⟨_, _, rfl⟩)

/-- TACHOMETER_COUNT at standstill, for what one count does: the counts of the sample follow one another (R1). -/
theorem exec_countsAtRest {ph : Phases} {cycles : Nat} {g : Transport → Bool → Transport} (hp : s.powered = true)
    (h : (s.tr t).CountsAtRest)
    (hx : x = { (s.tr t).elapse cycles with sense := (s.tr t).sense.setTach c (((s.tr t).sense.tach c).sample ph) })
    (hrest : ∀ p, (g x p).CountsAtRest) (hone : ∀ p, (s.setTr t x).oneCount t c p h1 = s.setTr t (g x p))
    (htwo : ∀ p q, (s.setTr t (g x p).refresh).oneCount t c q h2 = s.setTr t (g (g x p).refresh q))
    (hshow : ∀ p q, (g (g x p).refresh q).refresh = (g (g x p) q).refresh)
    (hlast : ∀ p q, (g (g x p).refresh q).CountsAtRest) :
    ∃ s', exec (.tachometerCount t c ph cycles h1 h2) s = .next s' ∧
      s.Becomes s' t ((tachCounts ((s.tr t).sense.tach c) ph).foldl g x) := by
  have hsample := State.tachometer_counts (h1 := h1) (h2 := h2) (c := c) h.nothingDue h.settled ph cycles
  rw [← hx] at hsample
  have hxrest : x.CountsAtRest := hx ▸ h.elapse _ _
  obtain hl | ⟨p, hl⟩ | ⟨p, q, hl⟩ := tachCounts_cases ((s.tr t).sense.tach c) ph
  · rw [hl] at hsample ⊢
    exact exec_becomes (f := fun s => s.tachometer t c ph cycles h1 h2) rfl hp hsample hxrest.settled
  · rw [hl] at hsample ⊢
    exact exec_becomes (f := fun s => s.tachometer t c ph cycles h1 h2) rfl hp (hsample.trans (hone p)) (hrest p).settled
  · rw [hl] at hsample ⊢
    have hbetween : ((((s.setTr t x).oneCount t c p h1).settled t).refresh t).catchUp t = s.setTr t (g x p).refresh := by
      rw [hone p, State.settled_eq (by rw [State.tr_setTr_same]; exact (hrest p).settled)]
      have hrefresh : (s.setTr t (g x p)).refresh t = s.setTr t (g x p).refresh := by
        simp [State.refresh]
      rw [hrefresh, State.catchUp_nothing (by rw [State.tr_setTr_same]; exact (hrest p).refresh.nothingDue)
        (by rw [State.tr_setTr_same]; exact (hrest p).refresh.settled)]
    refine exec_becomes_shown (f := fun s => s.tachometer t c ph cycles h1 h2) rfl hp (hsample.trans ?_) (hlast p q).settled
      (hshow p q)
    simp only [State.counts, hbetween]
    exact htwo p q

end

end Sys2Proof.Machine
end

section
/-! PROOF. Reel counts (R1 to R3, R10, R55, R61, R63 to R65). -/
namespace Sys2Proof.Machine

section
variable {s z : State} {t : Tr} {x y : Transport} {side : Side} {p : Bool} {h1 h2 : HeadSample} {ph : Phases} {cycles : Nat}

/-- The record of a transport after a reel count at standstill. -/
def Transport.reelCounted (side : Side) (y : Transport) (p : Bool) : Transport :=
  { y with
    sense := (y.sense.turnReel side p).lagMarkers (reelTach side) p, drive := y.drive.stallCount (reelTach side) }

theorem Transport.reelCounted_eq (y : Transport) : y.reelCounted side p =
    y.counted ((y.sense.turnReel side p).lagMarkers (reelTach side) p) y.reck.position (reelTach side) := rfl

theorem Transport.reelCounted_refresh (hs : y.drive.shuttlePhase = .none) :
    (y.refresh.reelCounted side p).refresh = (y.reelCounted side p).refresh := by
  have hsense : (y.refresh.sense.turnReel side p).lagMarkers (reelTach side) p =
      { (y.sense.turnReel side p).lagMarkers (reelTach side) p with writeEnable := y.refresh.sense.writeEnable } := by
    cases side <;> rfl
  have hshown := Transport.refresh_counted hs ((y.sense.turnReel side p).lagMarkers (reelTach side) p) y.reck
    y.refresh.sense.writeEnable (reelTach side)
  rw [← hsense] at hshown
  exact hshown

/-- Reel counts at standstill (R1, R3, R10, R55). -/
theorem exec_reelCountsAtRest (hp : s.powered = true) (h : (s.tr t).CountsAtRest) :
    ∃ s', exec (.tachometerCount t (reelTach side) ph cycles h1 h2) s = .next s' ∧
      s.Becomes s' t ((tachCounts ((s.tr t).sense.tach (reelTach side)) ph).foldl (Transport.reelCounted side)
        { (s.tr t).elapse cycles with
          sense := (s.tr t).sense.setTach (reelTach side) (((s.tr t).sense.tach (reelTach side)).sample ph) }) := by
  have hx := h.elapse ((s.tr t).sense.setTach (reelTach side) (((s.tr t).sense.tach (reelTach side)).sample ph)) cycles
  have hkeep : ∀ (y : Transport) p, y.CountsAtRest → (y.reelCounted side p).CountsAtRest := fun y p hy => hy.counted _ _ _
  have hone : ∀ (y : Transport) p h, y.CountsAtRest → (s.setTr t y).oneCount t (reelTach side) p h = s.setTr t (y.reelCounted side p) :=
    fun y p h hy => State.oneCount_reel hy
  exact exec_countsAtRest (g := Transport.reelCounted side) hp h rfl (fun p => hkeep _ p hx) (fun p => hone _ p h1 hx)
    (fun p q => hone _ q h2 (hkeep _ p hx).refresh) (fun p q => Transport.reelCounted_refresh (hkeep _ p hx).standing.2.1)
    (fun p q => hkeep _ q (hkeep _ p hx).refresh)

end

section
variable {s z : State} {t : Tr} {x y : Transport} {p : Bool} {h1 h2 : HeadSample} {ph : Phases} {cycles : Nat}

/-- The record of a transport after a capstan count at standstill. -/
def Transport.capstanCounted (y : Transport) (p : Bool) : Transport :=
  { y with
    sense := y.sense.lagMarkers .capstan p, reck := { y.reck with position := y.reck.position + signValue p },
    drive := y.drive.stallCount .capstan }

theorem Transport.capstanCounted_refresh (hs : y.drive.shuttlePhase = .none) :
    (y.refresh.capstanCounted p).refresh = (y.capstanCounted p).refresh :=
  Transport.refresh_counted hs (y.sense.lagMarkers .capstan p) { y.reck with position := y.reck.position + signValue p }
    y.refresh.sense.writeEnable .capstan

/-- Capstan counts at standstill (R1, R2, R10, R55, R59). -/
theorem exec_capstanCountsAtRest (hp : s.powered = true) (h : (s.tr t).CountsAtRest)
    (hlo : positionMin + 2 ≤ (s.tr t).reck.position) (hhi : (s.tr t).reck.position + 2 ≤ positionMax) :
    ∃ s', exec (.tachometerCount t .capstan ph cycles h1 h2) s = .next s' ∧
      s.Becomes s' t ((tachCounts (s.tr t).sense.capstanTach ph).foldl Transport.capstanCounted
        { (s.tr t).elapse cycles with
          sense := (s.tr t).sense.setTach .capstan ((s.tr t).sense.capstanTach.sample ph) }) := by
  have hx := h.elapse ((s.tr t).sense.setTach .capstan ((s.tr t).sense.capstanTach.sample ph)) cycles
  have hkeep : ∀ (y : Transport) p, y.CountsAtRest → (y.capstanCounted p).CountsAtRest := fun y p hy => hy.counted _ _ _
  have hone : ∀ (y : Transport) p h, y.CountsAtRest → positionMin < y.reck.position → y.reck.position < positionMax →
      (s.setTr t y).oneCount t .capstan p h = s.setTr t (y.capstanCounted p) := fun y p h hy hlo hhi =>
    State.oneCount_capstan hy hlo hhi
  have hsign : ∀ p, -1 ≤ signValue p ∧ signValue p ≤ 1 := fun p => by cases p <;> decide
  exact exec_countsAtRest (c := .capstan) (g := Transport.capstanCounted) hp h rfl (fun p => hkeep _ p hx)
    (fun p => hone _ p h1 hx (show positionMin < (s.tr t).reck.position by omega)
      (show (s.tr t).reck.position < positionMax by omega))
    (fun p q => hone _ q h2 (hkeep _ p hx).refresh
      (show positionMin < (s.tr t).reck.position + signValue p by have := hsign p; omega)
      (show (s.tr t).reck.position + signValue p < positionMax by have := hsign p; omega))
    (fun p q => Transport.capstanCounted_refresh (hkeep _ p hx).standing.2.1)
    (fun p q => hkeep _ q (hkeep _ p hx).refresh)

end

section
variable {s z : State} {t : Tr} {x y : Transport} {side : Side} {c : Tach} {p : Bool} {h1 h2 : HeadSample} {ph : Phases}
  {cycles : Nat} {r : Reckoning} {d : Dir}

/-! ### A count in motion (R1, R55, log 6) -/

/-- What clock cycles change at the Drive Unit: speeds and the stall timer (R37, R48, R50, R55). -/
theorem Drive.elapse_frame (d : Drive) (r : Reckoning) (n : Nat) : ∃ c cr v vr w wr i,
    (((d.elapseCapstan n).elapseShuttle r n).elapseWind n).elapseStall n = { d with
      command := c, commandRem := cr, shuttleSpeed := v, shuttleRem := vr, windSpeed := w, windRem := wr, stallTimer := i } := by
  have hcapstan : ∃ c cr, d.elapseCapstan n = { d with command := c, commandRem := cr } := by
    unfold Drive.elapseCapstan
    dsimp only
    split <;> exact ⟨_, _, rfl⟩
  obtain ⟨c, cr, hcapstan⟩ := hcapstan
  have hshuttle : ∀ e : Drive, ∃ v vr, e.elapseShuttle r n = { e with shuttleSpeed := v, shuttleRem := vr } := fun e => by
    unfold Drive.elapseShuttle
    dsimp only
    split <;> exact ⟨_, _, rfl⟩
  obtain ⟨v, vr, hshuttle⟩ := hshuttle { d with command := c, commandRem := cr }
  have hwind : ∀ e : Drive, ∃ w wr, e.elapseWind n = { e with windSpeed := w, windRem := wr } := fun e => by
    unfold Drive.elapseWind
    dsimp only
    split <;> exact ⟨_, _, rfl⟩
  obtain ⟨w, wr, hwind⟩ := hwind { d with command := c, commandRem := cr, shuttleSpeed := v, shuttleRem := vr }
  have hstall : ∀ e : Drive, ∃ i, e.elapseStall n = { e with stallTimer := i } := fun e => by
    unfold Drive.elapseStall
    split <;> exact ⟨_, rfl⟩
  obtain ⟨i, hstall⟩ := hstall
    { d with command := c, commandRem := cr, shuttleSpeed := v, shuttleRem := vr, windSpeed := w, windRem := wr }
  exact ⟨c, cr, v, vr, w, wr, i, by rw [hcapstan, hshuttle, hwind, hstall]⟩

/-- The record of a transport when the counts of a sample are taken: the clock cycles have passed and the decoder holds
the new pair (R1, log 6). -/
def Transport.sampled (x : Transport) (c : Tach) (ph : Phases) (n : Nat) : Transport :=
  { x.elapse n with sense := x.sense.setTach c ((x.sense.tach c).sample ph) }

theorem Transport.sampled_drive (x : Transport) (c : Tach) (ph : Phases) (n : Nat) : ∃ a b v w i j k,
    (x.sampled c ph n).drive = { x.drive with
      command := a, commandRem := b, shuttleSpeed := v, shuttleRem := w, windSpeed := i, windRem := j, stallTimer := k } :=
  x.drive.elapse_frame x.reck n

/-- TACHOMETER_COUNT of one count with nothing due before it. -/
theorem exec_oneCount (hp : s.powered = true) (h : (s.tr t).NothingDue) (hset : (s.tr t).Settled)
    (hone : tachCounts ((s.tr t).sense.tach c) ph = [p])
    (hz : (s.setTr t ((s.tr t).sampled c ph cycles)).oneCount t c p h1 = z) (hzset : (z.tr t).Settled)
    (hbeyond : z.beyond t = s.beyond t) (hpower : z.power = s.power) :
    ∃ s', exec (.tachometerCount t c ph cycles h1 h2) s = .next s' ∧ s.OnlyAt s' t ∧ s'.store = z.store ∧
      s'.exchange = z.exchange ∧ s'.tr t = (z.tr t).refresh := by
  have hsample : s.tachometer t c ph cycles h1 h2 = z := by
    rw [State.tachometer_counts h hset, hone]
    exact hz
  exact ⟨_, exec_next (f := fun s => s.tachometer t c ph cycles h1 h2) rfl hp hsample hzset, State.onlyAt_finish hbeyond hpower,
    by simp, by simp, by simp⟩

theorem Transport.sampled_moving (hm : x.drive.phase ≠ .stopped ∨ x.drive.shuttlePhase ≠ .none) :
    (x.sampled c ph cycles).drive.atRest = false := by
  obtain ⟨_, _, _, _, _, _, _, hd⟩ := x.sampled_drive c ph cycles
  rw [hd]
  obtain hm | hm := hm
  · exact Drive.atRest_of_phase hm
  · exact Drive.atRest_of_shuttle hm

/-- The stall timer after a count of the tachometer that it watches (R55). -/
theorem Drive.stallCount_timer {e : Drive} (h : e.watched = some c) : (e.stallCount c).stallTimer = 0 := by
  simp [Drive.stallCount, h]

theorem Transport.refresh_stallTimer (h : x.drive.stallTimer = 0) : x.refresh.drive.stallTimer = 0 := by
  have hlimit : (x.drive.limitShuttle x.reck).stallTimer = 0 := by
    unfold Drive.limitShuttle
    split
    · exact h
    · exact h
    · split <;> exact h
  change (x.drive.limitShuttle x.reck).watch.stallTimer = 0
  unfold Drive.watch
  split
  · exact hlimit
  · rfl

/-- A count of a reel, for what it does at Position Reckoning (R3, R55, R59, R61, R63 to R65). -/
theorem State.oneCount_reels (hr : x.reck.reelCount side p (phaseWraps (x.sense.revolutionPhase side) p) x.drive.active.k = r)
    (ha : r.anchor ≠ .lost ∨ r.anchor = x.reck.anchor) : (s.setTr t x).oneCount t (reelTach side) p h1 = s.setTr t { x with
      sense := (x.sense.turnReel side p).lagMarkers (reelTach side) p, reck := r, drive := x.drive.stallCount (reelTach side) } := by
  have hside : tachSide (reelTach side) = some side := by cases side <;> rfl
  have hset : Transport.setReck { x with sense := (x.sense.turnReel side p).lagMarkers (reelTach side) p } r =
      { x with sense := (x.sense.turnReel side p).lagMarkers (reelTach side) p, reck := r } := by
    obtain ha | ha := ha
    · simp [Transport.setReck, ha]
    · exact Transport.setReck_anchor ha
  simp only [State.oneCount, hside, State.reelCount, State.modSense_setTr, State.modReck, State.modTr_setTr, State.modDrive_setTr,
    State.tr_setTr_same, State.setTr_setTr, hr, hset]

/-- One count of a reel in motion, with nothing due before it: the phase goes round, the reckoning is the count's, and a
stall timer that watches the reel restarts. -/
theorem exec_reelCount (hp : s.powered = true) (h : (s.tr t).NothingDue)
    (hm : (s.tr t).drive.phase ≠ .stopped ∨ (s.tr t).drive.shuttlePhase ≠ .none)
    (hone : tachCounts ((s.tr t).sense.tach (reelTach side)) ph = [p])
    (hr : (s.tr t).reck.reelCount side p (phaseWraps ((s.tr t).sense.revolutionPhase side) p) (s.tr t).drive.active.k = r)
    (ha : r.anchor ≠ .lost ∨ r.anchor = (s.tr t).reck.anchor) :
    ∃ s', exec (.tachometerCount t (reelTach side) ph cycles h1 h2) s = .next s' ∧ s.OnlyAt s' t ∧ s'.store = s.store ∧
      (s'.tr t).sense.revolutionPhase side = phaseAfter ((s.tr t).sense.revolutionPhase side) p ∧ (s'.tr t).reck = r ∧
      ((s.tr t).drive.watched = some (reelTach side) → (s'.tr t).drive.stallTimer = 0) := by
  have hset : (s.tr t).Settled := .of_moving (by
    obtain hm | hm := hm
    · exact Drive.atRest_of_phase hm
    · exact Drive.atRest_of_shuttle hm)
  obtain ⟨a, b, v, w, i, j, k, hd⟩ := (s.tr t).sampled_drive (reelTach side) ph cycles
  have hphase : ((s.tr t).sampled (reelTach side) ph cycles).sense.revolutionPhase side = (s.tr t).sense.revolutionPhase side := by
    cases side <;> rfl
  have hturn : ∀ k : Sensing, ((k.turnReel side p).lagMarkers (reelTach side) p).revolutionPhase side =
      phaseAfter (k.revolutionPhase side) p := fun k => by cases side <;> rfl
  have hz := State.oneCount_reels (s := s) (t := t) (x := (s.tr t).sampled (reelTach side) ph cycles) (side := side) (p := p)
    (r := r) (h1 := h1) (by rw [hphase, hd]; exact hr) ha
  have hrest : (((s.tr t).sampled (reelTach side) ph cycles).drive.stallCount (reelTach side)).atRest = false := by
    obtain ⟨n, b, hs⟩ := ((s.tr t).sampled (reelTach side) ph cycles).drive.stallCount_frame (reelTach side)
    rw [hs]
    exact Transport.sampled_moving (c := reelTach side) (ph := ph) (cycles := cycles) hm
  obtain ⟨s', hx, honly, hstore, -, htr⟩ := exec_oneCount (h2 := h2) hp h hset hone hz
    (by rw [State.tr_setTr_same]; exact .of_moving hrest) (by simp) rfl
  rw [State.tr_setTr_same] at htr
  refine ⟨s', hx, honly, by rw [hstore]; rfl, ?_, ?_, fun hw => ?_⟩
  · rw [htr]
    exact (hturn _).trans (by rw [hphase])
  · rw [htr]
    rfl
  · rw [htr]
    exact Transport.refresh_stallTimer (Drive.stallCount_timer (by rw [hd]; exact hw))

end

section
variable {x : Transport} {r : Reckoning} {w : Window} {side : Side} {p : Bool} {d : Dir} {k : Nat} {b : Bool}

/-! ### Nothing due in motion -/

theorem Transport.nothingDue_listening (hrecord : x.chan.record = none) (hform : x.chan.formation = none)
    (herase : x.eraseDue = false) (hblank : x.chan.blankWatch.all (·.2 < 60000) = true) (hbudget : x.budgetDue = false)
    (hhold : x.drive.holdOverDue = false) (hstop : capstanStopPoint x.drive x.reck = .none)
    (hbrake : shuttleBrakePointOf x.drive x.reck = .none) (hsup : x.reck.supplyWindow.full = false)
    (htake : x.reck.takeupWindow.full = false) : x.NothingDue :=
  ⟨by simp [Channel.qualifiedDue, hrecord], by simp [Channel.recordEndDue, hrecord], by simp [Channel.postambleDue, hform],
    by simp [Channel.reportDue, hform], by simp [Transport.formationDue, hform], by simp [Transport.startTimeoutDue, hform],
    herase, Channel.blankDue_of_all hblank, hbudget, hhold, hstop, hbrake, hsup, htake⟩

theorem shuttleBrakePointOf_none {d : Drive} (h : d.shuttlePhase = .none) : shuttleBrakePointOf d r = .none := by
  simp [shuttleBrakePointOf, h]

theorem Drive.holdOverDue_none {d : Drive} (h : d.holdOver ≠ some 0) : d.holdOverDue = false := by
  simp [Drive.holdOverDue, h]

/-- What a transport in a shuttle has not due (R38, R41). -/
theorem Transport.nothingDue_shuttle (hrecord : x.chan.record = none) (hform : x.chan.formation = none)
    (herase : x.eraseDue = false) (hblank : x.chan.blankWatch.all (·.2 < 60000) = true) (hbudget : x.budgetDue = false)
    (hphase : x.drive.phase = .stopped) (hbrake : shuttleBrakePointOf x.drive x.reck = .none)
    (hsup : x.reck.supplyWindow.full = false) (htake : x.reck.takeupWindow.full = false) : x.NothingDue :=
  Transport.nothingDue_listening hrecord hform herase hblank hbudget (by simp [Drive.holdOverDue, Drive.driving, hphase])
    (by simp [capstanStopPoint, hphase]) hbrake hsup htake

/-! ### Reel counts at Position Reckoning (R61, R63 to R65) -/

/-- A reel count in a window that is not full (R61). -/
theorem Window.reel_eq (hd : w.dir = some d) (hfull : w.full = false) (hlow : -256 < w.reelCounts) :
    w.reel p = { w with reelCounts := w.reelCounts + windowStep d p } := by
  have hhigh : w.reelCounts < 256 := by
    simp only [Window.full, Bool.or_eq_false_iff, decide_eq_false_iff_not] at hfull
    omega
  have hstep : -1 ≤ windowStep d p ∧ windowStep d p ≤ 1 := by
    unfold windowStep
    split <;> decide
  have hin : max (-256) (min 256 (w.reelCounts + windowStep d p)) = w.reelCounts + windowStep d p := by omega
  simp only [Window.reel, hd, hin]

theorem Reckoning.reelCount_capstan (hm : r.mode = .capstan) (hmov : r.moving = true) :
    r.reelCount side p b k = r.setWindow side ((r.window side).reel p) := by
  simp [Reckoning.reelCount, Reckoning.revolution, hm, hmov]

/-- The record after the motion of one take-up count, inside the range (R59, R64). -/
def Reckoning.shuttled (r : Reckoning) (p : Bool) : Reckoning :=
  { r with
    position := (r.position * 4096 + r.fraction + signValue p * r.takeupPitch) / 4096,
    fraction := ((r.position * 4096 + r.fraction + signValue p * r.takeupPitch) % 4096).toNat }

theorem Reckoning.takeupMotion_eq
    (hlo : positionMin ≤ (r.position * 4096 + r.fraction + signValue p * r.takeupPitch) / 4096)
    (hhi : (r.position * 4096 + r.fraction + signValue p * r.takeupPitch) / 4096 ≤ positionMax) :
    r.takeupMotion p = r.shuttled p := by
  rw [Reckoning.takeupMotion, Reckoning.place, if_neg (Int.not_lt.mpr hlo), if_neg (Int.not_lt.mpr hhi)]
  rfl

theorem Reckoning.reelCount_takeup (hm : r.mode = .shuttle)
    (hlo : positionMin ≤ (r.position * 4096 + r.fraction + signValue p * r.takeupPitch) / 4096)
    (hhi : (r.position * 4096 + r.fraction + signValue p * r.takeupPitch) / 4096 ≤ positionMax) :
    r.reelCount .takeup p b k = if b then (r.shuttled p).revolution .takeup p k else r.shuttled p := by
  have hmode : (if b then (r.shuttled p).revolution .takeup p k else r.shuttled p).mode ≠ .capstan := by
    have hshuttled : (r.shuttled p).mode = .shuttle := hm
    cases b
    · simp [hshuttled]
    · have hbound : ∀ n, ((r.shuttled p).increaseBound n).mode = .shuttle := fun n => by
        simp only [Reckoning.increaseBound, Reckoning.becomeLost]
        split
        · exact hshuttled
        · split
          · exact hshuttled
          · exact hshuttled
      simp [Reckoning.revolution, hshuttled, Reckoning.setPitch, hbound]
  simp only [Reckoning.reelCount, hm, Reckoning.takeupMotion_eq hlo hhi, decide_true, Bool.and_self, if_true, hmode, decide_false,
    Bool.false_and, Bool.false_eq_true, if_false]

/-- A take-up revolution in a shuttle whose bound stays in its range (R63, R65). -/
theorem Reckoning.revolution_takeup (hm : r.mode = .shuttle) (ha : r.anchor ≠ .lost)
    (hb : r.bound.getD 0 + ceilDiv r.takeupPitch 16384 ≤ 20000) : r.revolution .takeup p k = { r with
      anchor := .drifted, bound := some (r.bound.getD 0 + ceilDiv r.takeupPitch 16384),
      takeupPitch := clampPitch (r.takeupPitch + signValue p * k) } := by
  have hsign : dirSign (signDir p) = signValue p := by cases p <;> rfl
  simp only [Reckoning.revolution, hm, if_true, Reckoning.increaseBound, ha, if_false, Nat.not_lt.mpr hb, Reckoning.setPitch,
    Reckoning.pitch, packLaw, hsign]

theorem Reckoning.reelCount_supply (hm : r.mode = .shuttle) : r.reelCount .supply p b k = { r with
    supplyPitch := if b then clampPitch (r.supplyPitch - signValue p * k) else r.supplyPitch } := by
  have hsign : dirSign (signDir p) = signValue p := by cases p <;> rfl
  cases b
  · have hkeep : r.reelCount .supply p false k = r := by simp [Reckoning.reelCount, hm]
    exact hkeep
  · have hturn : r.reelCount .supply p true k = r.setPitch .supply (packLaw .supply (signDir p) r.supplyPitch k) := by
      simp [Reckoning.reelCount, Reckoning.revolution, hm, Reckoning.setPitch, Reckoning.pitch]
    rw [hturn, packLaw, hsign]
    rfl

end

/-- Settles O14. -/
theorem reelCountsTurnThePhase : Obligations.ReelCountsTurnThePhase := by
  intro s t side ph cycles h1 h2 hp
  refine ⟨fun hu hst hmode hmov hsup htake => exec_reelCountsAtRest hp ⟨hu, hst, hmode, hmov, hsup, htake⟩,
    fun d p hset hphase hshuttle hmode hrmode hmov herase hbudget hstop hhold hsup htake hrecord hhunt hform hwatch hdir hlow hone => ?_,
    fun p hmode hshuttle hphase hrmode hbrake herase hbudget hsup htake hrecord hhunt hform hwatch hside hone hlo hhi hwrap => ?_,
    fun p hmode hshuttle hphase hrmode hbrake herase hbudget hsup htake hrecord hhunt hform hwatch hside hone hlo hhi hwrap hanchor hbound => ?_,
    fun p hmode hshuttle hphase hrmode hbrake herase hbudget hsup htake hrecord hhunt hform hwatch hside hone => ?_⟩
  · have hfull : ((s.tr t).reck.window side).full = false := by
      cases side
      · exact hsup
      · exact htake
    obtain ⟨s', hx, honly, hstore, hphase', hreck, -⟩ := exec_reelCount (h1 := h1) (h2 := h2) (cycles := cycles) hp
      (Transport.nothingDue_listening hrecord hform herase hwatch hbudget (Drive.holdOverDue_none hhold) hstop
        (shuttleBrakePointOf_none hshuttle) hsup htake)
      (.inl hphase) hone (Reckoning.reelCount_capstan hrmode hmov) (.inr (by cases side <;> rfl))
    refine ⟨s', hx, honly, hstore, hphase', ?_⟩
    rw [hreck, Window.reel_eq hdir hfull hlow]
  · subst hside
    have hcount := Reckoning.reelCount_takeup (b := false) (k := (s.tr t).drive.active.k) hrmode hlo hhi
    obtain ⟨s', hx, honly, hstore, hphase', hreck, htimer⟩ := exec_reelCount (side := .takeup) (h1 := h1) (h2 := h2) (cycles := cycles)
      (r := (s.tr t).reck.shuttled p) hp
      (Transport.nothingDue_shuttle hrecord hform herase hwatch hbudget hphase hbrake hsup htake) (.inr hshuttle) hone
      (by rw [show phaseWraps ((s.tr t).sense.revolutionPhase .takeup) p = false from hwrap]; exact hcount) (.inr rfl)
    exact ⟨s', hx, honly, hstore, hphase', hreck, htimer⟩
  · subst hside
    have hcount := Reckoning.reelCount_takeup (b := true) (k := (s.tr t).drive.active.k) hrmode hlo hhi
    have hrev := Reckoning.revolution_takeup (r := (s.tr t).reck.shuttled p) (p := p) (k := (s.tr t).drive.active.k) hrmode hanchor hbound
    rw [if_pos rfl, hrev] at hcount
    obtain ⟨s', hx, honly, hstore, hphase', hreck, -⟩ := exec_reelCount (side := .takeup) (h1 := h1) (h2 := h2) (cycles := cycles)
      (r := { (s.tr t).reck.shuttled p with
        anchor := .drifted, bound := some ((s.tr t).reck.bound.getD 0 + ceilDiv (s.tr t).reck.takeupPitch 16384),
        takeupPitch := clampPitch ((s.tr t).reck.takeupPitch + signValue p * (s.tr t).drive.active.k) }) hp
      (Transport.nothingDue_shuttle hrecord hform herase hwatch hbudget hphase hbrake hsup htake) (.inr hshuttle) hone
      (by rw [show phaseWraps ((s.tr t).sense.revolutionPhase .takeup) p = true from hwrap]; exact hcount) (.inl (by simp))
    exact ⟨s', hx, honly, hstore, hphase', hreck⟩
  · subst hside
    obtain ⟨s', hx, honly, hstore, hphase', hreck, -⟩ := exec_reelCount (side := .supply) (h1 := h1) (h2 := h2) (cycles := cycles)
      hp
      (Transport.nothingDue_shuttle hrecord hform herase hwatch hbudget hphase hbrake hsup htake) (.inr hshuttle) hone
      (Reckoning.reelCount_supply hrmode) (.inr rfl)
    exact ⟨s', hx, honly, hstore, hphase', hreck⟩

end Sys2Proof.Machine
end

section
/-! PROOF. Capstan counts in motion (R38, R41, R59, R61, R75 to R78, R86, R123). -/
namespace Sys2Proof.Machine

section
variable {s z : State} {t : Tr} {x y : Transport} {p : Bool} {h h1 h2 : HeadSample} {ph : Phases} {cycles : Nat} {k : Channel}

/-! ### A step of the detector (R75, R76, R78, R83) -/

theorem State.setArb_frame_self (s : State) (t : Tr) : s = (s.setTr t (s.tr t)).setArb s.arb := (State.setTr_tr s t).symm

/-- A data request asked for changes the Arbiter alone (R155, R156). -/
theorem State.xferTest_frame (s : State) (t : Tr) : ∃ a, s.xferTest t = s.setArb a := by
  unfold State.xferTest
  split
  · exact ⟨s.arb, rfl⟩
  · split
    · exact ⟨_, rfl⟩
    · exact ⟨s.arb, rfl⟩

/-- The loss of a handing touches the Transfer Unit, what is asked of the channel and the Arbiter (R159). -/
theorem State.xferHandingLost_frame (s : State) (t : Tr) : ∃ a j w, s.xferHandingLost t =
    (s.setTr t { s.tr t with xfer := w, chan := { (s.tr t).chan with handOver := j } }).setArb a := by
  have hgive : ∃ a j w, s.xferGiveBack t =
      (s.setTr t { s.tr t with xfer := w, chan := { (s.tr t).chan with handOver := j } }).setArb a := by
    obtain ⟨a, ha⟩ := State.xferTest_frame (({ s with arb := s.arb.giveBack t (s.tr t).xfer } : State).modTr t fun x =>
      { x with xfer := x.xfer.giveBack, chan := { x.chan with handOver := .asked } }) t
    exact ⟨a, .asked, (s.tr t).xfer.giveBack, by rw [State.xferGiveBack, ha]; rfl⟩
  unfold State.xferHandingLost
  split
  · exact hgive
  · exact hgive
  · exact ⟨s.arb, (s.tr t).chan.handOver, (s.tr t).xfer, s.setArb_frame_self t⟩

/-- The channel after a step that has told nobody: so many more bytes of the record handed, and the hand-over where the
Transfer Unit has left it. -/
def Channel.heard (k : Channel) (j : HandOver) (n : Nat) : Channel :=
  { k with handOver := j, record := k.record.map fun r => { r with handed := r.handed + n } }

theorem Channel.heard_self (k : Channel) : k.heard k.handOver 0 = k := by
  cases k with
  | mk _ _ _ _ _ _ record _ _ _ => cases record <;> rfl

theorem Transport.detectorStep_frame (x : Transport) (h : HeadSample) : ∃ j n w, x.detectorStep h =
    { x with chan := ((x.chan.watchStep h).phaseStep x.drive h x.reck.position).heard j n, xfer := w } := by
  unfold Transport.detectorStep Transport.handOverBytes
  dsimp only
  split <;> exact ⟨_, _, _, rfl⟩

theorem State.detect_frame (s : State) (t : Tr) (h : HeadSample) : ∃ a j n w, s.detect t h = (s.setTr t { s.tr t with
    chan := (((s.tr t).chan.watchStep h).phaseStep (s.tr t).drive h (s.tr t).reck.position).heard j n, xfer := w }).setArb a := by
  obtain ⟨j, n, w, hstep⟩ := (s.tr t).detectorStep_frame h
  generalize ((s.tr t).chan.watchStep h).phaseStep (s.tr t).drive h (s.tr t).reck.position = k at hstep ⊢
  have hskip : ∃ w, ((s.tr t).detectorStep h).skipOver = { s.tr t with chan := k.heard j n, xfer := w } := by
    rw [hstep, Transport.skipOver]
    split <;> exact ⟨_, rfl⟩
  obtain ⟨w, hskip⟩ := hskip
  simp only [State.detect, State.modTr_setTr, hskip, State.tr_setTr_same, State.modChan_setTr, State.setTr_setTr]
  split
  · obtain ⟨a, j, w, hlost⟩ := State.xferHandingLost_frame (s.setTr t { s.tr t with
      chan := { k.heard j n with handOver := .off }, xfer := w }) t
    refine ⟨a, j, n, w, ?_⟩
    rw [hlost, State.tr_setTr_same, State.setTr_setTr]
    rfl
  · exact ⟨s.arb, j, n, w, rfl⟩

/-! ### A capstan count (R59, R75, R86, R123) -/

/-- The record of a transport after a capstan count, before the step that it may be at the channel (R38, R55, R59,
R123). -/
def Transport.capstanMoved (x : Transport) (p : Bool) : Transport :=
  let y := Transport.setReck { x with sense := x.sense.lagMarkers .capstan p } (x.reck.capstanCount p)
  { y with drive := (y.drive.capstanCount p).stallCount .capstan, loc := y.loc.travelCount }

theorem State.oneCount_moved (s : State) (t : Tr) (x : Transport) : (s.setTr t x).oneCount t .capstan p h =
    (let s := s.setTr t (x.capstanMoved p)
     let s := if x.drive.isStep p then s.detect t h else s
     let s := if x.drive.isForwardStep p then s.forwardStep t else s
     if x.drive.isStep p then s.xferTest t else s) := by
  simp only [State.oneCount, tachSide, State.capstanCount, State.modSense_setTr, State.modReck, State.modTr_setTr,
    State.tr_setTr_same, State.setTr_setTr, Transport.capstanMoved]

/-- A forward step with nothing being formed (R86, R166). -/
theorem Transport.forwardStep_none (hf : x.chan.formation = none) : ∃ w, x.writeStep.eraseStep = { x with xfer := w } := by
  have hwrite : x.writeStep = x := by simp [Transport.writeStep, hf]
  rw [hwrite, Transport.eraseStep]
  split
  · split
    · exact ⟨_, rfl⟩
    · exact ⟨x.xfer, rfl⟩
  · exact ⟨x.xfer, rfl⟩

theorem Channel.phaseStep_formation (k : Channel) (d : Drive) (h : HeadSample) (i : Int) :
    (k.phaseStep d h i).formation = k.formation := by
  unfold Channel.phaseStep
  split
  · split <;> rfl
  · split <;> rfl
  · split <;> rfl
  · split <;> rfl
  · rfl

/-- The channel after a capstan count, before the hand-over (R75, R76, R78). -/
def Transport.countedChannel (x : Transport) (d : Drive) (p : Bool) (h : HeadSample) : Channel :=
  if d.isStep p then (x.chan.watchStep h).phaseStep x.drive h x.reck.position else x.chan

/-- A capstan count with nothing being formed, for what it leaves at the channel. -/
theorem State.oneCount_listening (hf : x.chan.formation = none) : ∃ a j n w, (s.setTr t x).oneCount t .capstan p h =
    (s.setTr t { x.capstanMoved p with
      chan := ((x.capstanMoved p).countedChannel x.drive p h).heard j n, xfer := w }).setArb a := by
  have hchan : (x.capstanMoved p).chan.formation = none := by
    unfold Transport.capstanMoved Transport.setReck Transport.locateLost
    dsimp only
    split
    · split <;> exact hf
    · exact hf
  rw [State.oneCount_moved]
  generalize x.capstanMoved p = y at hchan ⊢
  dsimp only
  by_cases hstep : x.drive.isStep p = true
  · obtain ⟨a, j, n, w, hdetect⟩ := State.detect_frame (s.setTr t y) t h
    simp only [State.tr_setTr_same, State.setTr_setTr] at hdetect
    simp only [hstep, if_true, hdetect, Transport.countedChannel]
    generalize hk : ((y.chan.watchStep h).phaseStep y.drive h y.reck.position).heard j n = k
    have hform : k.formation = none := by rw [← hk]; exact (Channel.phaseStep_formation _ _ _ _).trans hchan
    obtain ⟨v, hv⟩ := Transport.forwardStep_none (x := { y with chan := k, xfer := w }) hform
    have hforward : ((s.setTr t { y with chan := k, xfer := w }).setArb a).forwardStep t =
        (s.setTr t { y with chan := k, xfer := v }).setArb a := by
      rw [State.forwardStep, State.modTr_setTr, State.tr_setArb, State.tr_setTr_same, hv, State.setTr_setArb, State.setTr_setTr]
    have htest : ∀ w, ∃ b, ((s.setTr t { y with chan := k, xfer := w }).setArb a).xferTest t =
        (s.setTr t { y with chan := k, xfer := w }).setArb b := fun w => by
      obtain ⟨b, hb⟩ := State.xferTest_frame ((s.setTr t { y with chan := k, xfer := w }).setArb a) t
      exact ⟨b, hb⟩
    cases x.drive.isForwardStep p
    · obtain ⟨b, hb⟩ := htest w
      exact ⟨b, j, n, w, by rw [hk]; exact hb⟩
    · obtain ⟨b, hb⟩ := htest v
      refine ⟨b, j, n, v, ?_⟩
      rw [hk, if_pos rfl, hforward]
      exact hb
  · have hno : x.drive.isForwardStep p = false := by simp [Drive.isForwardStep, hstep]
    refine ⟨s.arb, y.chan.handOver, 0, y.xfer, ?_⟩
    simp only [hstep, hno, Transport.countedChannel, Channel.heard_self, Bool.false_eq_true, if_false]
    rfl

/-- What the loss of the anchor at the end of the range leaves of a transport in motion (R59, R135). -/
theorem Transport.setReck_frame (x : Transport) (r : Reckoning) (hd : x.drive.phase ≠ .stopped) : ∃ l d,
    x.setReck r = { x with reck := r, loc := l, drive := d } ∧ d.phase ≠ .stopped := by
  have hstop : x.drive.stop.phase ≠ .stopped := by
    unfold Drive.stop Drive.decel
    cases hp : x.drive.phase <;> simp_all
  unfold Transport.setReck Transport.locateLost
  dsimp only
  split
  · split
    · split
      · exact ⟨_, _, rfl, hstop⟩
      · exact ⟨_, _, rfl, hd⟩
    · exact ⟨_, _, rfl, hd⟩
  · exact ⟨_, _, rfl, hd⟩

theorem Transport.capstanMoved_frame (x : Transport) (p : Bool) (hd : x.drive.phase ≠ .stopped) : ∃ r l d,
    x.capstanMoved p = { x with sense := x.sense.lagMarkers .capstan p, reck := r, loc := l, drive := d } ∧ d.phase ≠ .stopped := by
  obtain ⟨l, d, hset, hphase⟩ := Transport.setReck_frame { x with sense := x.sense.lagMarkers .capstan p } (x.reck.capstanCount p) hd
  obtain ⟨_, _, hstall⟩ := (d.capstanCount p).stallCount_frame .capstan
  refine ⟨x.reck.capstanCount p, l.travelCount, (d.capstanCount p).stallCount .capstan, ?_, ?_⟩
  · simp only [Transport.capstanMoved, hset]
  · rw [hstall]
    unfold Drive.capstanCount
    split <;> exact hphase

/-- One capstan count in motion with nothing due before it and nothing being formed. -/
theorem exec_capstanCount (hp : s.powered = true) (h : (s.tr t).NothingDue) (hphase : (s.tr t).drive.phase ≠ .stopped)
    (hone : tachCounts (s.tr t).sense.capstanTach ph = [p]) (hf : (s.tr t).chan.formation = none) :
    ∃ s' j n w, exec (.tachometerCount t .capstan ph cycles h1 h2) s = .next s' ∧ s.OnlyAt s' t ∧ s'.store = s.store ∧
      s'.exchange = s.exchange ∧ s'.tr t = Transport.refresh { ((s.tr t).sampled .capstan ph cycles).capstanMoved p with
        chan := ((((s.tr t).sampled .capstan ph cycles).capstanMoved p).countedChannel
          ((s.tr t).sampled .capstan ph cycles).drive p h1).heard j n, xfer := w } := by
  obtain ⟨_, _, _, _, _, _, _, hd⟩ := (s.tr t).sampled_drive .capstan ph cycles
  have hmove : ((s.tr t).sampled .capstan ph cycles).drive.phase ≠ .stopped := by rw [hd]; exact hphase
  obtain ⟨a, j, n, w, hz⟩ := State.oneCount_listening (s := s) (t := t) (p := p) (h := h1) (x := (s.tr t).sampled .capstan ph cycles) hf
  obtain ⟨_, _, d, hmoved, hdphase⟩ := Transport.capstanMoved_frame _ p hmove
  obtain ⟨s', hx, honly, hstore, hexch, htr⟩ := exec_oneCount (c := .capstan) (h2 := h2) hp h
    (.of_moving (Drive.atRest_of_phase hphase)) hone hz
    (by
      rw [State.tr_setArb, State.tr_setTr_same]
      refine .of_moving (Drive.atRest_of_phase ?_)
      rw [hmoved]
      exact hdphase)
    (by simp) rfl
  refine ⟨s', j, n, w, hx, honly, by rw [hstore]; rfl, by rw [hexch]; rfl, ?_⟩
  rw [htr, State.tr_setArb, State.tr_setTr_same]

/-! ### Position, windows and targets of a count in motion (R38, R41, R59, R61, R123) -/

section
variable {r : Reckoning} {w : Window} {d : Dir} {l : Locate}

theorem Window.capstan_eq (hd : w.dir = some d) (hfull : w.full = false) :
    w.capstan p = { w with capstanSteps := w.capstanSteps + windowStep d p } := by
  have hin : -20001 < w.capstanSteps ∧ w.capstanSteps < 20001 := by
    simp only [Window.full, Bool.or_eq_false_iff, decide_eq_false_iff_not] at hfull
    omega
  have hstep : -1 ≤ windowStep d p ∧ windowStep d p ≤ 1 := by
    unfold windowStep
    split <;> decide
  have hsum : max (-20001) (min 20001 (w.capstanSteps + windowStep d p)) = w.capstanSteps + windowStep d p := by omega
  simp only [Window.capstan, hd, hsum]

theorem Reckoning.capstanCount_moving (hm : r.mode = .capstan) (hmov : r.moving = true) (hlo : positionMin < r.position)
    (hhi : r.position < positionMax) (hs : r.supplyWindow.dir = some d) (ht : r.takeupWindow.dir = some d)
    (hsf : r.supplyWindow.full = false) (htf : r.takeupWindow.full = false) : r.capstanCount p = { r with
      position := r.position + signValue p,
      supplyWindow := { r.supplyWindow with capstanSteps := r.supplyWindow.capstanSteps + windowStep d p },
      takeupWindow := { r.takeupWindow with capstanSteps := r.takeupWindow.capstanSteps + windowStep d p } } := by
  have hsign : -1 ≤ signValue p ∧ signValue p ≤ 1 := by cases p <;> decide
  have hplace : r.place (r.position + signValue p) r.fraction = { r with position := r.position + signValue p } := by
    rw [Reckoning.place, if_neg (by omega), if_neg (by omega)]
  simp only [Reckoning.capstanCount, hm, if_true, hplace, hmov, Window.capstan_eq hs hsf, Window.capstan_eq ht htf]

theorem Locate.travelCount_eq (l : Locate) : l.travelCount = { l with
    travel := l.travel + if l.phase = .decode ∨ l.phase = .backCount ∨ l.phase = .standOff then 1 else 0 } := by
  unfold Locate.travelCount
  cases hp : l.phase <;> simp <;> rw [← hp]

end

/-- The record of a transport after a count in motion inside the range. -/
theorem Transport.capstanMoved_eq {r : Reckoning} (hr : x.reck.capstanCount p = r) (ha : r.anchor = x.reck.anchor) :
    x.capstanMoved p = { x with
      sense := x.sense.lagMarkers .capstan p, reck := r, drive := (x.drive.capstanCount p).stallCount .capstan,
      loc := x.loc.travelCount } := by
  have hset : Transport.setReck { x with sense := x.sense.lagMarkers .capstan p } r =
      { x with sense := x.sense.lagMarkers .capstan p, reck := r } := Transport.setReck_anchor ha
  simp only [Transport.capstanMoved, hr, hset]

theorem Drive.isStep_driven {d : Drive} (hm : d.mode = .capstan) (hphase : d.phase ≠ .stopped) :
    d.isStep p = decide (signDir p = d.dir) := by
  simp [Drive.isStep, hm, hphase]

/-- What a count in HUNT leaves of the detector: the phase and the blank watch (R75, R76, R78). -/
theorem Transport.countedChannel_hunt {d : Drive} (hx : x.chan = k) (hm : d.mode = .capstan) (hphase : d.phase ≠ .stopped)
    (hhunt : k.phase = .hunt) (hwatch : k.blankWatch.all (·.2 < 60000) = true) :
    (x.countedChannel d p h).phase = (if signDir p = d.dir ∧ startStep k.settings h = true then .qualify else .hunt) ∧
      (x.countedChannel d p h).blankWatch = (if signDir p = d.dir then
        k.blankWatch.map fun w => (w.1, if lowStep k.settings h then w.2 + 1 else 0) else k.blankWatch) := by
  have hcount : (k.watchStep h).blankWatch =
      k.blankWatch.map fun w => (w.1, if lowStep k.settings h then w.2 + 1 else 0) := by
    cases hw : k.blankWatch with
    | none => simp [Channel.watchStep, hw]
    | some w =>
      rw [hw] at hwatch
      have hlow : w.2 < 60000 := by simpa using hwatch
      cases hl : lowStep k.settings h
      · simp [Channel.watchStep, hw, hl]
      · simp [Channel.watchStep, hw, hl]
        omega
  simp only [Transport.countedChannel, hx, Drive.isStep_driven hm hphase, decide_eq_true_eq]
  by_cases hdir : signDir p = d.dir
  · have hwphase : (k.watchStep h).phase = .hunt := hhunt
    have hset : (k.watchStep h).settings = k.settings := rfl
    simp only [hdir, if_true, true_and, Channel.phaseStep, hwphase, hset]
    cases startStep k.settings h
    · exact ⟨hwphase, hcount⟩
    · exact ⟨rfl, hcount⟩
  · simp [hdir, hhunt]

theorem Drive.watched_capstanCount (d : Drive) : (d.capstanCount p).watched = d.watched := by
  unfold Drive.capstanCount
  split <;> rfl

/-- A capstan count in motion with nothing recorded and nothing being formed (R38, R41, R55, R59, R61, R75, R76, R78,
R123). -/
theorem exec_countInMotion {d : Dir} (hp : s.powered = true) (hnothing : (s.tr t).NothingDue)
    (hphase : (s.tr t).drive.phase ≠ .stopped) (hmode : (s.tr t).drive.mode = .capstan)
    (hrmode : (s.tr t).reck.mode = .capstan) (hmov : (s.tr t).reck.moving = true)
    (hdir : (s.tr t).reck.supplyWindow.dir = some d ∧ (s.tr t).reck.takeupWindow.dir = some d)
    (hlo : positionMin < (s.tr t).reck.position) (hhi : (s.tr t).reck.position < positionMax)
    (hone : tachCounts (s.tr t).sense.capstanTach ph = [p]) (hhunt : (s.tr t).chan.phase = .hunt)
    (hf : (s.tr t).chan.formation = none) (hwatch : (s.tr t).chan.blankWatch.all (·.2 < 60000) = true) :
    ∃ s', exec (.tachometerCount t .capstan ph cycles h1 h2) s = .next s' ∧ s.OnlyAt s' t ∧ s'.store = s.store ∧
      s'.exchange = s.exchange ∧
      (s'.tr t).sense.capstanTach = { phases := ph, lastPositive := p } ∧
      (s'.tr t).reck = { (s.tr t).reck with
        position := (s.tr t).reck.position + signValue p,
        supplyWindow := { (s.tr t).reck.supplyWindow with
          capstanSteps := (s.tr t).reck.supplyWindow.capstanSteps + windowStep d p },
        takeupWindow := { (s.tr t).reck.takeupWindow with
          capstanSteps := (s.tr t).reck.takeupWindow.capstanSteps + windowStep d p } } ∧
      (s'.tr t).drive.stopTarget = (s.tr t).drive.stopTarget.map (countDown (s.tr t).drive.dir p) ∧
      (s'.tr t).drive.holdOver = (s.tr t).drive.holdOver.map (fun i => if signDir p = (s.tr t).drive.dir then i - 1 else i) ∧
      ((s.tr t).drive.watched = some .capstan → (s'.tr t).drive.stallTimer = 0) ∧
      (s'.tr t).loc = (s.tr t).loc.travelCount ∧
      (s'.tr t).chan.phase =
        (if signDir p = (s.tr t).drive.dir ∧ startStep (s.tr t).chan.settings h1 = true then .qualify else .hunt) ∧
      (s'.tr t).chan.blankWatch = (if signDir p = (s.tr t).drive.dir then
          (s.tr t).chan.blankWatch.map (fun w => (w.1, if lowStep (s.tr t).chan.settings h1 then w.2 + 1 else 0))
        else (s.tr t).chan.blankWatch) := by
  obtain ⟨a, b, v, w, i, j, k, hd⟩ := (s.tr t).sampled_drive .capstan ph cycles
  have hmoved := Transport.capstanMoved_eq (x := (s.tr t).sampled .capstan ph cycles) (p := p)
    (Reckoning.capstanCount_moving (p := p) hrmode hmov hlo hhi hdir.1 hdir.2 hnothing.supply hnothing.takeup) rfl
  obtain ⟨s', l, n, w, hx, honly, hstore, hexch, htr⟩ := exec_capstanCount (h1 := h1) (h2 := h2) (cycles := cycles) hp hnothing
    hphase hone hf
  rw [hmoved] at htr
  have hdrive : (s'.tr t).drive.stopTarget = (((s.tr t).sampled .capstan ph cycles).drive.capstanCount p).stopTarget ∧
      (s'.tr t).drive.holdOver = (((s.tr t).sampled .capstan ph cycles).drive.capstanCount p).holdOver := by
    obtain ⟨_, _, hs⟩ := (((s.tr t).sampled .capstan ph cycles).drive.capstanCount p).stallCount_frame .capstan
    rw [htr, hs, Transport.refresh_drive_stopTarget, Transport.refresh_drive_holdOver]
    exact ⟨rfl, rfl⟩
  have hcount : ((s.tr t).sampled .capstan ph cycles).drive.capstanCount p = { ((s.tr t).sampled .capstan ph cycles).drive with
      stopTarget := (s.tr t).drive.stopTarget.map (countDown (s.tr t).drive.dir p),
      holdOver := (s.tr t).drive.holdOver.map fun h => if signDir p = (s.tr t).drive.dir then h - 1 else h } := by
    rw [Drive.capstanCount, hd, if_neg hphase]
  refine ⟨s', hx, honly, hstore, hexch, ?_, ?_, ?_, ?_, fun hw => ?_, ?_, ?_, ?_⟩
  · rw [htr]
    change TachDecoder.sample (s.tr t).sense.capstanTach ph = _
    rw [TachDecoder.sample, hone]
    rfl
  · rw [htr]
    rfl
  · rw [hdrive.1, hcount]
  · rw [hdrive.2, hcount]
  · rw [htr]
    refine Transport.refresh_stallTimer (Drive.stallCount_timer ?_)
    rw [Drive.watched_capstanCount, hd]
    exact hw
  · rw [htr]
    rfl
  · rw [htr]
    simp only [Transport.refresh_chan, Channel.heard]
    refine (Transport.countedChannel_hunt (k := (s.tr t).chan) ?_ (by rw [hd]; exact hmode) (by rw [hd]; exact hphase) hhunt hwatch).1.trans ?_
    · rfl
    · rw [hd]
  · rw [htr]
    simp only [Transport.refresh_chan, Channel.heard]
    refine (Transport.countedChannel_hunt (k := (s.tr t).chan) ?_ (by rw [hd]; exact hmode) (by rw [hd]; exact hphase) hhunt hwatch).2.trans ?_
    · rfl
    · rw [hd]

/-! ### A record in QUALIFY (R76, R77) -/

/-- What has not come due while the tape moves and a record has not yet qualified. -/
theorem Transport.nothingDue_qualifying {r : RecordInProgress} (hk : x.chan.phase = .qualify) (hrecord : x.chan.record = some r)
    (hq : r.qualify < 20) (hform : x.chan.formation = none) (herase : x.eraseDue = false)
    (hblank : x.chan.blankWatch.all (·.2 < 60000) = true) (hbudget : x.budgetDue = false) (hhold : x.drive.holdOver ≠ some 0)
    (hstop : capstanStopPoint x.drive x.reck = .none) (hshuttle : x.drive.shuttlePhase = .none)
    (hsup : x.reck.supplyWindow.full = false) (htake : x.reck.takeupWindow.full = false) : x.NothingDue :=
  ⟨by simp [Channel.qualifiedDue, hrecord, hq], by simp [Channel.recordEndDue, hk], by simp [Channel.postambleDue, hform],
    by simp [Channel.reportDue, hform], by simp [Transport.formationDue, hform], by simp [Transport.startTimeoutDue, hform],
    herase, Channel.blankDue_of_all hblank, hbudget, Drive.holdOverDue_none hhold, hstop, shuttleBrakePointOf_none hshuttle,
    hsup, htake⟩

theorem signDir_of_dir (d : Dir) : signDir (decide (d = .forward)) = d := by cases d <;> rfl

/-- A step of a record in QUALIFY: a start step counts, any other ends the record (R76, R77, R90). -/
theorem Channel.phaseStep_qualify {r : RecordInProgress} {d : Drive} {i : Int} (hk : k.phase = .qualify)
    (hrecord : k.record = some r) : k.phaseStep d h i = if startStep k.settings h = true then
      { k with record := some { (r.decode h i) with qualify := r.qualify + 1 } } else k.toHunt := by
  simp only [Channel.phaseStep, hk, hrecord]

theorem RecordInProgress.decode_start (r : RecordInProgress) (i : Int) : (r.decode h i).start = r.start := rfl

/-- A step in the direction of motion with a record in QUALIFY. -/
theorem exec_countInQualify {r : RecordInProgress} (hp : s.powered = true) (hnothing : (s.tr t).NothingDue)
    (hphase : (s.tr t).drive.phase ≠ .stopped) (hmode : (s.tr t).drive.mode = .capstan)
    (hone : tachCounts (s.tr t).sense.capstanTach ph = [decide ((s.tr t).drive.dir = .forward)])
    (hk : (s.tr t).chan.phase = .qualify) (hrecord : (s.tr t).chan.record = some r) (hf : (s.tr t).chan.formation = none) :
    ∃ s', exec (.tachometerCount t .capstan ph cycles h1 h2) s = .next s' ∧ s.OnlyAt s' t ∧ s'.store = s.store ∧
      (if startStep (s.tr t).chan.settings h1 = true then
        (s'.tr t).chan.phase = .qualify ∧ (s'.tr t).chan.record.map (·.qualify) = some (r.qualify + 1) ∧
          (s'.tr t).chan.record.map (·.start) = some r.start
      else (s'.tr t).chan.phase = .hunt ∧ (s'.tr t).chan.record = none ∧
        (s'.tr t).chan.settings = (s.tr t).chan.pendingSettings.getD (s.tr t).chan.settings) := by
  obtain ⟨a, b, v, w, i, j, l, hd⟩ := (s.tr t).sampled_drive .capstan ph cycles
  have hdir : ((s.tr t).sampled .capstan ph cycles).drive.dir = (s.tr t).drive.dir := by rw [hd]
  have hmoving : ((s.tr t).sampled .capstan ph cycles).drive.phase ≠ .stopped := by rw [hd]; exact hphase
  obtain ⟨s', j, n, w, hx, honly, hstore, -, htr⟩ := exec_capstanCount (h1 := h1) (h2 := h2) (cycles := cycles) hp hnothing
    hphase hone hf
  obtain ⟨q, l, e, hmoved, -⟩ := Transport.capstanMoved_frame ((s.tr t).sampled .capstan ph cycles)
    (decide ((s.tr t).drive.dir = .forward)) hmoving
  have hchan : (s'.tr t).chan = ((((s.tr t).chan.watchStep h1).phaseStep e h1 q.position).heard j n) := by
    rw [htr, hmoved, Transport.countedChannel, Drive.isStep_driven (by rw [hd]; exact hmode) hmoving, hdir, signDir_of_dir]
    simp only [decide_true, if_true]
    rfl
  have hsettings : ((s.tr t).chan.watchStep h1).settings = (s.tr t).chan.settings := rfl
  rw [Channel.phaseStep_qualify (k := (s.tr t).chan.watchStep h1) (r := r) hk hrecord, hsettings] at hchan
  refine ⟨s', hx, honly, hstore, ?_⟩
  cases hstart : startStep (s.tr t).chan.settings h1
  · rw [hstart] at hchan
    rw [hchan]
    exact ⟨rfl, rfl, rfl⟩
  · rw [hstart] at hchan
    rw [hchan]
    exact ⟨hk, rfl, rfl⟩

/-! ### A step of a formation (R86, R87) -/

/-- The byte places of a step in DATA, with a byte of the FIFO for each and data left after them (R86). -/
theorem writeBytes_data (n : Nat) : ∀ (f : Formation) (w : Transfer), f.phase = .data → f.fill = false → n ≤ w.fifo.length →
    f.written + n < f.declared → writeBytes n f w = ({ f with
        bytes := f.bytes ++ w.fifo.take n, written := f.written + n, hostBytes := f.hostBytes + n,
        sum := f.sum + byteSum (w.fifo.take n) },
      { w with fifo := w.fifo.drop n, resultBytes := w.resultBytes + n }) := by
  induction n with
  | zero =>
    intro f w _ _ _ _
    simp [writeBytes, byteSum]
  | succ n ih =>
    intro f w hphase hfill hlen hleft
    cases hw : w.fifo with
    | nil => simp [hw] at hlen
    | cons b rest =>
      have hone : writeByte f w = ({ f with
          bytes := f.bytes ++ [b], written := f.written + 1, hostBytes := f.hostBytes + 1, sum := f.sum + b.setWidth 16 },
          { w with fifo := rest, resultBytes := w.resultBytes + 1 }) := by
        have hmore : ¬ f.declared ≤ f.written + 1 := by omega
        simp [writeByte, hphase, writeDataByte, hfill, hw, Formation.put, hmore]
      rw [writeBytes, hone]
      have hrest : n ≤ rest.length := by rw [hw] at hlen; exact Nat.le_of_succ_le_succ hlen
      refine (ih { f with
          bytes := f.bytes ++ [b], written := f.written + 1, hostBytes := f.hostBytes + 1, sum := f.sum + b.setWidth 16 }
        { w with fifo := rest, resultBytes := w.resultBytes + 1 } hphase hfill hrest
        (show f.written + 1 + n < f.declared by omega)).trans ?_
      simp [byteSum, Nat.add_right_comm _ 1 n, BitVec.add_assoc]
      omega

/-- A step of a record on tape: one of its preamble, or six bytes of its data. -/
def Formation.stepped (f : Formation) (w : Transfer) (ring : Bool) : Formation :=
  if f.phase = .preamble then
    { f with ambleSteps := f.ambleSteps + 1, steps := f.steps + 1, partBytes := 0, spoiled := f.spoiled || !ring }
  else
    { f with
      steps := f.steps + 1, bytes := f.bytes ++ w.fifo.take 6, written := f.written + 6, hostBytes := f.hostBytes + 6,
      sum := f.sum + byteSum (w.fifo.take 6), spoiled := f.spoiled || !ring }

/-- The steps of a formation that O13 speaks of: before the last of the preamble, and in the data with six bytes
waiting and more than six to write. -/
def Formation.OnItsWay (f : Formation) (w : Transfer) : Prop :=
  (f.phase = .preamble ∧ f.ambleSteps < 39) ∨
    (f.phase = .data ∧ f.fill = false ∧ 6 ≤ w.fifo.length ∧ f.written + 6 < f.declared)

theorem formStep_onItsWay {f : Formation} {w : Transfer} (hf : f.OnItsWay w) (ring : Bool) :
    formStep f w ring = (f.stepped w ring, { w with
      fifo := if f.phase = .preamble then w.fifo else w.fifo.drop 6,
      resultBytes := w.resultBytes + if f.phase = .preamble then 0 else 6 }) := by
  obtain ⟨hphase, hamble⟩ | ⟨hphase, hfill, hlen, hleft⟩ := hf
  · have hshort : ¬ 40 ≤ f.ambleSteps + 1 := by omega
    simp [formStep, hphase, hshort, Formation.stepped]
  · have hdata := writeBytes_data 6 { f with steps := f.steps + 1, spoiled := f.spoiled || !ring } w hphase hfill hlen hleft
    have hbytes : formStep f w ring = writeBytes 6 { f with steps := f.steps + 1, spoiled := f.spoiled || !ring } w := by
      simp [formStep, hphase]
    rw [hbytes, hdata]
    simp [Formation.stepped, hphase]

theorem Channel.phaseStep_handOver (k : Channel) (d : Drive) (h : HeadSample) (i : Int) :
    (k.phaseStep d h i).handOver = k.handOver := by
  unfold Channel.phaseStep
  split
  · split <;> rfl
  · split <;> rfl
  · split <;> rfl
  · split <;> rfl
  · rfl

/-- A step of the detector with no hand-over: the channel's formation and the FIFO stay (R75, R83). -/
theorem State.detect_unhanded (hoff : x.chan.handOver = .off) : ∃ k b,
    (s.setTr t x).detect t h = s.setTr t { x with chan := k, xfer := { x.xfer with skipFirst := b } } ∧
      k.formation = x.chan.formation := by
  have hk : ((x.chan.watchStep h).phaseStep x.drive h x.reck.position).handOver = .off :=
    (Channel.phaseStep_handOver _ _ _ _).trans hoff
  have hform : ((x.chan.watchStep h).phaseStep x.drive h x.reck.position).formation = x.chan.formation :=
    Channel.phaseStep_formation _ _ _ _
  have hstep : x.detectorStep h =
      { x with chan := ((x.chan.watchStep h).phaseStep x.drive h x.reck.position).handedOver } := by
    unfold Transport.detectorStep
    generalize (x.chan.watchStep h).phaseStep x.drive h x.reck.position = k at hk
    simp [Transport.handOverBytes, Channel.beginsHanding, Channel.ready, hk, Transfer.receiveAll]
  generalize (x.chan.watchStep h).phaseStep x.drive h x.reck.position = k at hk hform hstep
  have hskip : ∃ b, (x.detectorStep h).skipOver =
      { x with chan := k.handedOver, xfer := { x.xfer with skipFirst := b } } := by
    rw [hstep, Transport.skipOver]
    split
    · exact ⟨false, rfl⟩
    · exact ⟨x.xfer.skipFirst, rfl⟩
  obtain ⟨b, hskip⟩ := hskip
  have hkeep : k.handedOver.handOver = .off := hk
  refine ⟨k.handedOver, b, ?_, hform⟩
  simp only [State.detect, State.modTr_setTr, hskip, State.tr_setTr_same, State.setTr_setTr, hkeep, reduceCtorEq, decide_false, Bool.and_false,
    Bool.false_eq_true, if_false]

/-- A forward count while a record is being put on tape. -/
theorem State.oneCount_forming {f : Formation} (hoff : x.chan.handOver = .off) (hf : x.chan.formation = some f)
    (hway : f.OnItsWay x.xfer) (hdir : x.drive.dir = .forward) (hmode : x.drive.mode = .capstan)
    (hphase : x.drive.phase ≠ .stopped) : ∃ a y, (s.setTr t x).oneCount t .capstan true h = (s.setTr t y).setArb a ∧
      y.chan.formation = some (f.stepped x.xfer x.sense.writeRing.level) ∧
      y.xfer.fifo = (if f.phase = .preamble then x.xfer.fifo else x.xfer.fifo.drop 6) ∧
      y.xfer.resultBytes = (x.xfer.resultBytes + if f.phase = .preamble then 0 else 6) ∧ y.drive.phase ≠ .stopped := by
  obtain ⟨q, l, e, hmoved, hdriven⟩ := Transport.capstanMoved_frame x true hphase
  have hstep : x.drive.isStep true = true := by
    rw [Drive.isStep_driven hmode hphase, hdir]
    rfl
  have hforward : x.drive.isForwardStep true = true := by simp [Drive.isForwardStep, hstep, hdir]
  have hnowait : f.phase ≠ .waiting := by
    obtain ⟨hph, _⟩ | ⟨hph, _⟩ := hway <;> simp [hph]
  rw [State.oneCount_moved, hmoved, hstep, hforward]
  obtain ⟨k, b, hdetect, hk⟩ := State.detect_unhanded (s := s) (t := t) (h := h)
    (x := { x with sense := x.sense.lagMarkers .capstan true, reck := q, loc := l, drive := e }) hoff
  simp only [if_true, hdetect, State.forwardStep, State.modTr_setTr, State.tr_setTr_same, State.setTr_setTr]
  have hwrite := formStep_onItsWay (f := f) (w := { x.xfer with skipFirst := b }) hway x.sense.writeRing.level
  have herase : ∀ z : Transport, ∃ n, z.eraseStep = { z with xfer := { z.xfer with erased := n } } := fun z => by
    unfold Transport.eraseStep
    split
    · split
      · exact ⟨_, rfl⟩
      · exact ⟨z.xfer.erased, rfl⟩
    · exact ⟨z.xfer.erased, rfl⟩
  have hstepped : ∀ z : Transport, z.chan.formation = some f → z.writeStep = { z with
      chan := { z.chan with formation := some (formStep f z.xfer z.sense.writeRing.level).1 },
      xfer := (formStep f z.xfer z.sense.writeRing.level).2 } := fun z hz => by
    simp [Transport.writeStep, hz, hnowait]
  rw [hstepped _ (hk.trans hf)]
  have hring : (x.sense.lagMarkers .capstan true).writeRing.level = x.sense.writeRing.level := rfl
  simp only [hring, hwrite]
  obtain ⟨n, hn⟩ := herase { x with
    sense := x.sense.lagMarkers .capstan true, reck := q, loc := l, drive := e,
    chan := { k with formation := some (f.stepped { x.xfer with skipFirst := b } x.sense.writeRing.level) },
    xfer := { x.xfer with
      skipFirst := b, fifo := if f.phase = .preamble then x.xfer.fifo else x.xfer.fifo.drop 6,
      resultBytes := x.xfer.resultBytes + if f.phase = .preamble then 0 else 6 } }
  rw [hn]
  obtain ⟨a, ha⟩ := State.xferTest_frame (s.setTr t { x with
    sense := x.sense.lagMarkers .capstan true, reck := q, loc := l, drive := e,
    chan := { k with formation := some (f.stepped { x.xfer with skipFirst := b } x.sense.writeRing.level) },
    xfer := { x.xfer with
      skipFirst := b, fifo := if f.phase = .preamble then x.xfer.fifo else x.xfer.fifo.drop 6,
      resultBytes := (x.xfer.resultBytes + if f.phase = .preamble then 0 else 6), erased := n } }) t
  exact ⟨a, _, ha, rfl, rfl, rfl, hdriven⟩
/-- What has not come due while a record is being put on tape. -/
theorem Transport.nothingDue_forming {f : Formation} (hrecord : x.chan.record = none) (hf : x.chan.formation = some f)
    (hway : f.OnItsWay x.xfer) (herase : x.eraseDue = false) (hblank : x.chan.blankWatch.all (·.2 < 60000) = true)
    (hbudget : x.budgetDue = false) (hhold : x.drive.holdOver ≠ some 0)
    (hstop : capstanStopPoint x.drive x.reck = .none) (hshuttle : x.drive.shuttlePhase = .none)
    (hsup : x.reck.supplyWindow.full = false) (htake : x.reck.takeupWindow.full = false) : x.NothingDue := by
  have hphase : f.phase ≠ .waiting ∧ f.phase ≠ .postamble ∧ f.phase ≠ .after := by
    obtain ⟨hph, _⟩ | ⟨hph, _⟩ := hway <;> simp [hph]
  obtain ⟨hwait, hpost, hafter⟩ := hphase
  exact ⟨by simp [Channel.qualifiedDue, hrecord], by simp [Channel.recordEndDue, hrecord],
    by simp [Channel.postambleDue, hf, hpost], by simp [Channel.reportDue, hf, hafter],
    by simp [Transport.formationDue, hf, hwait], by simp [Transport.startTimeoutDue, hf, hwait],
    herase, Channel.blankDue_of_all hblank, hbudget, Drive.holdOverDue_none hhold, hstop, shuttleBrakePointOf_none hshuttle,
    hsup, htake⟩

/-- A forward count while a record is being put on tape. -/
theorem exec_countForming {f : Formation} (hp : s.powered = true) (hnothing : (s.tr t).NothingDue)
    (hphase : (s.tr t).drive.phase ≠ .stopped) (hmode : (s.tr t).drive.mode = .capstan) (hdir : (s.tr t).drive.dir = .forward)
    (hone : tachCounts (s.tr t).sense.capstanTach ph = [true]) (hf : (s.tr t).chan.formation = some f)
    (hoff : (s.tr t).chan.handOver = .off) (hway : f.OnItsWay (s.tr t).xfer) :
    ∃ s', exec (.tachometerCount t .capstan ph cycles h1 h2) s = .next s' ∧ s.OnlyAt s' t ∧ s'.store = s.store ∧
      (s'.tr t).chan.formation = some (f.stepped (s.tr t).xfer (s.tr t).sense.writeRing.level) ∧
      (s'.tr t).xfer.fifo = (if f.phase = .preamble then (s.tr t).xfer.fifo else (s.tr t).xfer.fifo.drop 6) ∧
      (s'.tr t).xfer.resultBytes = (s.tr t).xfer.resultBytes + if f.phase = .preamble then 0 else 6 := by
  obtain ⟨a, b, v, w, i, j, l, hd⟩ := (s.tr t).sampled_drive .capstan ph cycles
  obtain ⟨a, y, hz, hform, hfifo, hbytes, hdriven⟩ := State.oneCount_forming (s := s) (t := t) (h := h1)
    (x := (s.tr t).sampled .capstan ph cycles) hoff hf hway (by rw [hd]; exact hdir) (by rw [hd]; exact hmode) (by rw [hd]; exact hphase)
  obtain ⟨s', hx, honly, hstore, -, htr⟩ := exec_oneCount (c := .capstan) (h2 := h2) hp hnothing
    (.of_moving (Drive.atRest_of_phase hphase)) hone hz
    (by
      rw [State.tr_setArb, State.tr_setTr_same]
      exact .of_moving (Drive.atRest_of_phase hdriven))
    (by simp) rfl
  rw [State.tr_setArb, State.tr_setTr_same] at htr
  refine ⟨s', hx, honly, by rw [hstore]; rfl, ?_, ?_, ?_⟩
  · rw [htr]
    exact hform
  · rw [htr]
    exact hfifo
  · rw [htr]
    exact hbytes

end

/-- Settles O13. -/
theorem capstanCountsMoveThePosition : Obligations.CapstanCountsMoveThePosition := by
  intro s t ph cycles h1 h2 hp
  refine ⟨fun hu hst hmode hmov hsup htake hlo hhi => exec_capstanCountsAtRest hp ⟨hu, hst, hmode, hmov, hsup, htake⟩ hlo hhi,
    fun d p _ hphase hshuttle hmode hrmode hmov herase hbudget hstop hhold hsup htake hdir hlo hhi hone hrecord hhunt hform hwatch => ?_,
    fun r _ hphase hshuttle hmode _ _ herase hbudget hstop hhold hsup htake hone hk hrecord hq hform hwatch => ?_,
    fun f _ hphase hshuttle hmode _ _ herase hbudget hstop hhold hsup htake hdir hone hrecord _ hwatch hform hoff hway => ?_⟩
  · obtain ⟨s', hx, honly, hstore, hexch, htach, hreck, htarget, hheld, htimer, hloc, hchan⟩ :=
      exec_countInMotion (h1 := h1) (h2 := h2) (cycles := cycles) hp
        (Transport.nothingDue_listening hrecord hform herase hwatch hbudget (Drive.holdOverDue_none hhold) hstop
          (shuttleBrakePointOf_none hshuttle) hsup htake)
        hphase hmode hrmode hmov hdir hlo hhi hone hhunt hform hwatch
    exact ⟨s', hx, honly, hstore, hexch, htach, hreck, htarget, hheld, htimer, hloc.trans (Locate.travelCount_eq _), hchan⟩
  · exact exec_countInQualify hp
      (Transport.nothingDue_qualifying hk hrecord hq hform herase hwatch hbudget hhold hstop hshuttle hsup htake)
      hphase hmode hone hk hrecord hform
  · exact exec_countForming hp
      (Transport.nothingDue_forming hrecord hform hway herase hwatch hbudget hhold hstop hshuttle hsup htake)
      hphase hmode hdir hone hform hoff hway

end Sys2Proof.Machine
end

section
/-! PROOF. What a line of the host does at the four transports one after the other (R178, R179, R182), and what each of
its parts leaves of the Arbiter. -/
namespace Sys2Proof.Machine

section
variable {s z : State} {t : Tr} {x y : Transport} {a b c : Arbiter}

/-! ### A part of the work done at each transport -/

/-- A step made at the four transports in turn, which at each of them asks for `I` and leaves it at the others: what it
leaves of each record, and what each of the four passages leaves of the rest. -/
theorem State.each_of {g : State → Tr → State} {I : Tr → State → Prop} {Q : Transport → Transport → Prop}
    {R : Tr → State → State → Prop}
    (hg : ∀ z t, I t z → (∀ u, u ≠ t → (g z t).tr u = z.tr u) ∧ (∀ u, u ≠ t → I u z → I u (g z t)) ∧
      Q (z.tr t) ((g z t).tr t) ∧ R t z (g z t)) (hI : ∀ t, I t s) :
    ∃ z1 z2 z3 z4, g (g (g (g s .t0) .t1) .t2) .t3 = z4 ∧ R .t0 s z1 ∧ R .t1 z1 z2 ∧ R .t2 z2 z3 ∧ R .t3 z3 z4 ∧
      ∀ t, Q (s.tr t) (z4.tr t) := by
  obtain ⟨ho1, hi1, hq1, hr1⟩ := hg s .t0 (hI .t0)
  obtain ⟨ho2, hi2, hq2, hr2⟩ := hg (g s .t0) .t1 (hi1 .t1 (by decide) (hI .t1))
  obtain ⟨ho3, hi3, hq3, hr3⟩ := hg (g (g s .t0) .t1) .t2 (hi2 .t2 (by decide) (hi1 .t2 (by decide) (hI .t2)))
  obtain ⟨ho4, hi4, hq4, hr4⟩ := hg (g (g (g s .t0) .t1) .t2) .t3
    (hi3 .t3 (by decide) (hi2 .t3 (by decide) (hi1 .t3 (by decide) (hI .t3))))
  refine ⟨_, _, _, _, rfl, hr1, hr2, hr3, hr4, fun t => ?_⟩
  cases t with
  | t0 =>
    rw [ho4 _ (by decide), ho3 _ (by decide), ho2 _ (by decide)]
    exact hq1
  | t1 =>
    rw [ho4 _ (by decide), ho3 _ (by decide), ← ho1 .t1 (by decide)]
    exact hq2
  | t2 =>
    rw [ho4 _ (by decide), ← ho1 .t2 (by decide), ← ho2 .t2 (by decide)]
    exact hq3
  | t3 =>
    rw [← ho1 .t3 (by decide), ← ho2 .t3 (by decide), ← ho3 .t3 (by decide)]
    exact hq4

theorem State.settleAll_eq (h : ∀ t, (z.tr t).Settled) : z.settleAll = z :=
  State.settleAll_rest (Option.isNone_iff_eq_none.mp (State.settled_iff.mpr (h .t0)))
    (Option.isNone_iff_eq_none.mp (State.settled_iff.mpr (h .t1)))
    (Option.isNone_iff_eq_none.mp (State.settled_iff.mpr (h .t2)))
    (Option.isNone_iff_eq_none.mp (State.settled_iff.mpr (h .t3)))

/-- A command of the whole controller that leaves every transport settled. -/
theorem runEach_settles {f : State → State} (hp : s.powered = true) (hf : f s = z) (h : ∀ t, (z.tr t).Settled) :
    runEach s f = .next z.refreshAll.finish := by
  rw [runEach_powered hp, hf, State.settleAll_eq h]

/-! ### What a transport's part leaves of the Arbiter -/

/-- Nothing of the Arbiter but the requests of one transport and the transfer under way has changed. -/
def Arbiter.Beside (a b : Arbiter) (t : Tr) : Prop :=
  b.controlLast = a.controlLast ∧ b.dataLast = a.dataLast ∧
    ∀ u, u ≠ t → b.control.get u = a.control.get u ∧ b.data.get u = a.data.get u

theorem Arbiter.Beside.refl (a : Arbiter) (t : Tr) : a.Beside a t := ⟨rfl, rfl, fun _ _ => ⟨rfl, rfl⟩⟩

theorem Arbiter.Beside.trans (h : a.Beside b t) (h' : b.Beside c t) : a.Beside c t := by
  obtain ⟨hc, hd, hothers⟩ := h
  obtain ⟨hc', hd', hothers'⟩ := h'
  refine ⟨hc'.trans hc, hd'.trans hd, fun u hu => ⟨(hothers' u hu).1.trans (hothers u hu).1, (hothers' u hu).2.trans (hothers u hu).2⟩⟩

theorem Arbiter.beside_orphan (a : Arbiter) (t : Tr) (b : Bool) : a.Beside (a.orphanCurrent t b) t := by
  unfold Arbiter.orphanCurrent
  split
  · split <;> exact .refl ..
  · exact .refl ..

theorem State.withdrawData_beside (s : State) (t : Tr) : s.arb.Beside (s.withdrawData t).arb t := by
  refine Arbiter.Beside.trans ?_ (Arbiter.beside_orphan { s.arb with data := s.arb.data.set t none } t true)
  exact ⟨rfl, rfl, fun u hu => ⟨rfl, Four.get_set_other _ _ hu⟩⟩

theorem State.withdrawControl_beside (s : State) (t : Tr) : s.arb.Beside (s.withdrawControl t).arb t := by
  refine Arbiter.Beside.trans ?_ (Arbiter.beside_orphan { s.arb with control := s.arb.control.set t none } t false)
  exact ⟨rfl, rfl, fun u hu => ⟨Four.get_set_other _ _ hu, rfl⟩⟩

/-- A data request asked for changes the data requests of its transport alone. -/
theorem State.xferTest_beside (s : State) (t : Tr) : ∃ a, s.xferTest t = s.setArb a ∧ s.arb.Beside a t := by
  unfold State.xferTest
  split
  · exact ⟨s.arb, rfl, .refl ..⟩
  · split
    · exact ⟨_, rfl, rfl, rfl, fun u hu => ⟨rfl, Four.get_set_other _ _ hu⟩⟩
    · exact ⟨s.arb, rfl, .refl ..⟩

/-- The parts of the Transfer Unit that a discarded record leaves: the order, its phase and whether more data is asked
for. -/
def Transfer.SameWork (w v : Transfer) : Prop := v.order = w.order ∧ v.phase = w.phase ∧ v.quiet = w.quiet

theorem State.handingLostIf_frame (s : State) (t : Tr) (lost : Bool) : ∃ a j w, s.handingLostIf t lost =
    (s.setTr t { s.tr t with xfer := w, chan := { (s.tr t).chan with handOver := j } }).setArb a ∧ s.arb.Beside a t ∧
      (s.tr t).xfer.SameWork w := by
  have hsame : ∃ a j w, s = (s.setTr t { s.tr t with xfer := w, chan := { (s.tr t).chan with handOver := j } }).setArb a ∧
      s.arb.Beside a t ∧ (s.tr t).xfer.SameWork w :=
    ⟨s.arb, (s.tr t).chan.handOver, (s.tr t).xfer, s.setArb_frame_self t, .refl .., rfl, rfl, rfl⟩
  have hgive : ∃ a j w, s.xferGiveBack t =
      (s.setTr t { s.tr t with xfer := w, chan := { (s.tr t).chan with handOver := j } }).setArb a ∧ s.arb.Beside a t ∧
        (s.tr t).xfer.SameWork w := by
    obtain ⟨a, ha, hbeside⟩ := State.xferTest_beside (({ s with arb := s.arb.giveBack t (s.tr t).xfer } : State).modTr t fun x =>
      { x with xfer := x.xfer.giveBack, chan := { x.chan with handOver := .asked } }) t
    refine ⟨a, .asked, (s.tr t).xfer.giveBack, by rw [State.xferGiveBack, ha]; rfl, Arbiter.Beside.trans ?_ hbeside, rfl, rfl, rfl⟩
    refine ⟨rfl, rfl, fun u hu => ⟨rfl, ?_⟩⟩
    change (Arbiter.giveBack s.arb t (s.tr t).xfer).data.get u = _
    unfold Arbiter.giveBack
    split
    · exact Four.get_set_other _ _ hu
    · rfl
  cases lost
  · exact hsame
  · rw [State.handingLostIf, if_pos rfl, State.xferHandingLost]
    split
    · exact hgive
    · exact hgive
    · exact hsame

/-- A record in progress discarded (R77, R83). -/
theorem State.discardRecord_frame (s : State) (t : Tr) : ∃ a j w, s.discardRecord t =
    (s.setTr t { s.tr t with xfer := w, chan := { (s.tr t).chan.toHunt with handOver := j } }).setArb a ∧
      s.arb.Beside a t ∧ (s.tr t).xfer.SameWork w := by
  obtain ⟨a, j, w, hlost, hbeside, horder, hphase, hquiet⟩ := State.handingLostIf_frame
    (s.setTr t { s.tr t with chan := (s.tr t).chan.discard.1 }) t (s.tr t).chan.discard.2
  simp only [State.tr_setTr_same, State.setTr_setTr] at hlost horder hphase hquiet
  refine ⟨a, j, { w with skipFirst := false }, ?_, hbeside, horder, hphase, hquiet⟩
  simp only [State.discardRecord, State.modChan_setTr, hlost, State.modTr_setTr, State.tr_setArb, State.tr_setTr_same,
    State.setTr_setArb, State.setTr_setTr]
  rfl

/-- What a cut and the end of erasing leave of the detector (R85, R87). -/
theorem Channel.cutErasing_eq (k : Channel) : ∃ f, k.cut.endErasing = { k with
    formation := f, activity := if k.activity = .erasing then .listen else k.activity,
    writeGate := if k.activity = .erasing then false else k.writeGate } := by
  have hactivity : k.cut.activity = k.activity := rfl
  refine ⟨k.cut.formation, ?_⟩
  unfold Channel.endErasing
  split
  next h =>
    rw [hactivity] at h
    rw [if_pos h, if_pos h]
    rfl
  next h =>
    rw [hactivity] at h
    rw [if_neg h, if_neg h]
    rfl

end

end Sys2Proof.Machine
end

section
/-! PROOF. A power warning (R34, R54, R91, R134, R168, R177 to R179). -/
namespace Sys2Proof.Machine

section
variable {s z : State} {t : Tr} {x y : Transport} {k : StopKind}

/-- What a stop makes of the Drive Unit of a transport under way (R52 to R54; log 69). -/
theorem Transport.UnderWay.beginStop (h : x.UnderWay) (k : StopKind) : ∃ p q, x.drive.beginStop k = { x.drive with
    phase := p, shuttlePhase := q, stopKind := k, pending := none, holdOver := none, stopTarget := none, shuttleTarget := none } ∧
      p = (if x.drive.mode = .capstan then .decel else .stopped) ∧ q = (if x.drive.mode = .capstan then .none else .brake) := by
  obtain ⟨-, -, hkind, ⟨hmode, hshuttle, hphase⟩ | ⟨hmode, hphase, hshuttle⟩⟩ := h
  · exact ⟨_, _, Drive.beginStop_driving (j := k) hkind hphase hshuttle (by simp [hmode]), by simp [hmode], by simp [hmode, hshuttle]⟩
  · refine ⟨x.drive.phase, .brake, ?_, by simp [hmode, hphase], by simp [hmode]⟩
    rcases hshuttle with hshuttle | hshuttle <;>
      simp [Drive.beginStop, Drive.bringToRest, Drive.decel, Drive.brake, hkind, hphase, hshuttle, hmode]

theorem Transport.UnderWay.stopBegun (h : x.UnderWay) (k : StopKind) : x.drive.StopBegun (x.drive.beginStop k) k := by
  obtain ⟨p, q, hd, hp, hq⟩ := h.beginStop k
  rw [hd]
  exact ⟨rfl, rfl, rfl, rfl, rfl, rfl, rfl, rfl, hp, hq⟩

theorem Transport.UnderWay.moving (h : x.UnderWay) : x.drive.atRest = false := by
  obtain ⟨-, -, -, ⟨-, -, hphase⟩ | ⟨-, -, hshuttle⟩⟩ := h
  · exact Drive.atRest_of_phase (by rcases hphase with hphase | hphase <;> simp [hphase])
  · exact Drive.atRest_of_shuttle (by rcases hshuttle with hshuttle | hshuttle <;> simp [hshuttle])

theorem Transport.UnderWay.stopping (h : x.UnderWay) (k : StopKind) : (x.drive.beginStop k).atRest = false := by
  obtain ⟨p, q, hd, hp, hq⟩ := h.beginStop k
  rw [hd]
  by_cases hmode : x.drive.mode = .capstan
  · exact Drive.atRest_of_phase (by simp [hp, hmode])
  · exact Drive.atRest_of_shuttle (by simp [hq, hmode])

/-! ### The assertion at one transport (R178) -/

/-- Transport Control in POWER HELD (R34). -/
def Control.powerHeld (c : Control) : Control :=
  { c with operation := .none, unloadEnding := false, stopByClear := false }.enter .powerHeld

/-- The record of a transport when the assertion has come to the Order Port, Transport Control and the Drive Unit (R34,
R35, R54). -/
def Transport.warned (x : Transport) : Transport :=
  { x with
    port := x.port.raiseAtt .power, ctl := if x.ctl.faultable then x.ctl.powerHeld else x.ctl, drive := x.drive.power }

theorem State.pwarnAt_eq (hload : (s.tr t).ctl.loading = false) (hstop : (s.tr t).ctl.stopUnderWay = false) :
    s.pwarnAt t = (let z := (((s.setTr t (s.tr t).warned).xferPower t).chanPower t).locatePower t
      if (z.tr t).drive.atRest && (z.tr t).ctl.state = .powerHeld then z.endUnload t .powerStop else z) := by
  have hkeep : (s.tr t).warned.ctl.stopUnderWay = false := by
    unfold Transport.warned
    dsimp only
    split <;> exact hstop
  have hwarned : ((s.raiseAtt t .power).controlPower t).modDrive t Drive.power = s.setTr t (s.tr t).warned := by
    simp only [State.raiseAtt, State.modPort_setTr, State.controlPower, State.tr_setTr_same, hload, Bool.false_eq_true, if_false,
      Transport.warned]
    split
    · simp only [State.enter, State.modCtl_setTr, State.modDrive_setTr, State.tr_setTr_same, State.setTr_setTr]
      rfl
    · simp only [State.modDrive_setTr, State.tr_setTr_same, State.setTr_setTr]
  simp only [State.pwarnAt, hwarned, State.tr_setTr_same, hkeep, Bool.false_eq_true, if_false]

/-- The assertion at the channel (R91). -/
theorem State.chanPower_frame (s : State) (t : Tr) : ∃ a k w, s.chanPower t = (s.setTr t { s.tr t with xfer := w, chan := k }).setArb a ∧
    (s.tr t).xfer.SameWork w ∧ k.phase = .hunt ∧ k.record = none ∧ k.blankWatch = none ∧
    k.activity = (if (s.tr t).chan.activity = .erasing then .listen else (s.tr t).chan.activity) := by
  obtain ⟨a, j, w, hdiscard, -, hsame⟩ := s.discardRecord_frame t
  obtain ⟨f, hcut⟩ := Channel.cutErasing_eq { (s.tr t).chan.toHunt with handOver := j, blankWatch := none }
  refine ⟨a, ({ (s.tr t).chan.toHunt with handOver := j, blankWatch := none } : Channel).cut.endErasing, w, ?_, hsame, ?_⟩
  · rw [State.chanPower, hdiscard, State.modChan_setTr, State.tr_setArb, State.tr_setTr_same, State.setTr_setArb, State.setTr_setTr]
  · rw [hcut]
    exact ⟨rfl, rfl, rfl, rfl⟩

theorem Channel.Quiet.cutErasing {k : Channel} (h : k.Quiet) : { k with blankWatch := none }.cut.endErasing = k := by
  obtain ⟨hactivity, -, -, -, -, hform, hwatch, -⟩ := h
  obtain ⟨settings, pendingSettings, mode, activity, gate, phase, record, watch, formation, handOver⟩ := k
  simp only at hactivity hform hwatch
  subst hactivity hform hwatch
  rfl

theorem State.chanPower_quiet (h : (s.tr t).chan.Quiet) (hx : (s.tr t).xfer.skipFirst = false) : s.chanPower t = s := by
  rw [State.chanPower, State.discardRecord_quiet h hx, State.modChan_setTr, h.cutErasing]
  exact State.setTr_tr s t

/-- What the statements say of a transport to which the assertion comes while it is under way (R34, R54, R91, R168). -/
structure Transport.PowerStopped (x y : Transport) : Prop where
  permission : y.ctl.permission = .none
  operation : y.ctl.operation = .none
  drive : x.drive.StopBegun y.drive .power
  loc : y.loc = x.loc
  idle : x.xfer.order = .none → y.xfer.order = .none
  ending : x.xfer.order ≠ .none → y.xfer.order = x.xfer.order ∧ y.xfer.phase = .ending ∧ y.xfer.quiet = true
  hunt : y.chan.phase = .hunt
  record : y.chan.record = none
  watch : y.chan.blankWatch = none
  activity : y.chan.activity = (if x.chan.activity = .erasing then .listen else x.chan.activity)

/-- What the assertion makes of a transport. -/
structure Transport.PowerWarned (x y : Transport) : Prop where
  attention : y.port.attention = x.port.attention ||| 2#5
  pointer : y.port.pointer = x.port.pointer
  reck : y.reck = x.reck
  state : y.ctl.state = (if x.ctl.state = .unloaded then .unloaded else .powerHeld)
  permission : x.ctl.state ≠ .unloaded → y.ctl.permission = .none
  underWay : x.UnderWay → x.PowerStopped y
  settled : y.Settled

theorem Transport.UnderWay.warned (h : x.UnderWay) :
    x.warned = { x with port := x.port.raiseAtt .power, ctl := x.ctl.powerHeld, drive := x.drive.beginStop .power } := by
  have hfault : x.ctl.faultable = true := by
    obtain ⟨hstate, hstop, -⟩ := h
    simp [Control.faultable, hstate, hstop]
  simp only [Transport.warned, hfault, if_true, Drive.power, h.moving, Bool.false_eq_true, if_false]

theorem State.pwarnAt_underWay (h : (s.tr t).UnderWay) : ∃ a y, s.pwarnAt t = (s.setTr t y).setArb a ∧
    (s.tr t).PowerWarned y := by
  have hmove := h.stopping .power
  have hstate := h.1
  have hstop := h.2.1
  have hpermission : (s.tr t).ctl.powerHeld.permission = .none := by
    simp [Control.powerHeld, Control.enter, hstop, permissionOf]
  rw [State.pwarnAt_eq (by simp [Control.loading, hstate]) hstop, h.warned]
  have hxfer : ∃ w, (s.setTr t { s.tr t with
        port := (s.tr t).port.raiseAtt .power, ctl := (s.tr t).ctl.powerHeld, drive := (s.tr t).drive.beginStop .power }).xferPower t =
      s.setTr t { s.tr t with
        port := (s.tr t).port.raiseAtt .power, ctl := (s.tr t).ctl.powerHeld, drive := (s.tr t).drive.beginStop .power,
        xfer := w } ∧ w = if (s.tr t).xfer.order = .none then (s.tr t).xfer else (s.tr t).xfer.stopBegins := by
    refine ⟨_, ?_, rfl⟩
    by_cases ho : (s.tr t).xfer.order = .none
    · simp [State.xferPower, ho]
    · simp [State.xferPower, ho, hmove, State.modXfer_setTr]
  obtain ⟨w, hxfer, hw⟩ := hxfer
  obtain ⟨a, k, v, hchan, ⟨horder, hphase, hquiet⟩, hhunt, hrecord, hwatch, hactivity⟩ := (s.setTr t { s.tr t with
    port := (s.tr t).port.raiseAtt .power, ctl := (s.tr t).ctl.powerHeld, drive := (s.tr t).drive.beginStop .power,
    xfer := w }).chanPower_frame t
  simp only [State.tr_setTr_same, State.setTr_setTr] at hchan horder hphase hquiet hactivity
  refine ⟨a, { s.tr t with
    port := (s.tr t).port.raiseAtt .power, ctl := (s.tr t).ctl.powerHeld, drive := (s.tr t).drive.beginStop .power,
    xfer := v, chan := k }, ?_, ?_⟩
  · rw [hxfer, hchan]
    have hlocate : State.locatePower ((s.setTr t { s.tr t with
        port := (s.tr t).port.raiseAtt .power, ctl := (s.tr t).ctl.powerHeld, drive := (s.tr t).drive.beginStop .power,
        xfer := v, chan := k }).setArb a) t = (s.setTr t { s.tr t with
        port := (s.tr t).port.raiseAtt .power, ctl := (s.tr t).ctl.powerHeld, drive := (s.tr t).drive.beginStop .power,
        xfer := v, chan := k }).setArb a := by
      simp only [State.locatePower, State.tr_setArb, State.tr_setTr_same, hmove, Bool.not_false, Bool.or_true, Bool.true_or, if_true]
    simp only [hlocate, State.tr_setArb, State.tr_setTr_same, hmove, Bool.false_and, Bool.false_eq_true, if_false]
  · refine ⟨rfl, rfl, rfl, by rw [hstate]; rfl, fun _ => hpermission, fun _ => ⟨hpermission, rfl, h.stopBegun .power, rfl, fun ho => ?_, fun ho => ?_,
      hhunt, hrecord, hwatch, hactivity⟩, .of_moving hmove⟩
    · rw [hw, if_pos ho] at horder
      exact horder.trans ho
    · rw [hw, if_neg ho, Transfer.stopBegins, if_neg ho] at horder hphase hquiet
      exact ⟨horder, hphase, hquiet⟩

/-- The conditions at rest under which the assertion moves nothing. -/
structure Transport.WarnedAtRest (x : Transport) : Prop where
  unused : x.Unused
  noUnload : x.hasOrder 2 = false
  rest : x.ReadyStanding ∨ x.Unloaded

theorem Transport.WarnedAtRest.warned (h : x.WarnedAtRest) : x.PowerWarned x.warned ∧ x.drive.atRest = true ∧
    x.ctl.loading = false ∧ x.ctl.stopUnderWay = false ∧ x.warned.drive = x.drive := by
  obtain ⟨⟨-, -, -⟩, -, hready | hunloaded⟩ := h
  · obtain ⟨⟨hphase, hshuttle, hmode, hkind, hpending, -, hending⟩, hstate, -, hstop, -, -⟩ := hready
    have hrest : x.drive.atRest = true := by simp [Drive.atRest, Drive.standstill, hphase, hshuttle, hmode]
    have hfault : x.ctl.faultable = true := by simp [Control.faultable, hstate, hstop]
    have hwarned : x.warned = { x with port := x.port.raiseAtt .power, ctl := x.ctl.powerHeld } := by
      simp only [Transport.warned, hfault, if_true, Drive.power, hrest]
    have hpermission : x.ctl.powerHeld.permission = .none := by simp [Control.powerHeld, Control.enter, hstop, permissionOf]
    rw [hwarned]
    refine ⟨⟨rfl, rfl, rfl, by rw [hstate]; rfl, fun _ => hpermission, fun hu => ?_, .of_calm hkind rfl hpending⟩, hrest,
      by simp [Control.loading, hstate], hstop, rfl⟩
    exact absurd (hstate.symm.trans hu.1) (by simp)
  · obtain ⟨⟨hphase, hshuttle, hmode, hkind, hpending, -, -, -, -, hstop, hending⟩, hstate⟩ := hunloaded
    have hrest : x.drive.atRest = true := by simp [Drive.atRest, Drive.standstill, hphase, hshuttle, hmode]
    have hfault : x.ctl.faultable = false := by simp [Control.faultable, hstate]
    have hwarned : x.warned = { x with port := x.port.raiseAtt .power } := by
      simp only [Transport.warned, hfault, Bool.false_eq_true, if_false, Drive.power, hrest, if_true]
    rw [hwarned]
    refine ⟨⟨rfl, rfl, rfl, by rw [if_pos hstate]; exact hstate, fun hno => absurd hstate hno, fun hu => ?_, .of_calm hkind hending hpending⟩, hrest,
      by simp [Control.loading, hstate], hstop, rfl⟩
    exact absurd (hstate.symm.trans hu.1) (by simp)

theorem State.pwarnAt_rest (h : (s.tr t).WarnedAtRest) : s.pwarnAt t = s.setTr t (s.tr t).warned := by
  obtain ⟨-, hrest, hload, hstop, hdrive⟩ := h.warned
  obtain ⟨⟨hxfer, hloc, hquiet⟩, hno, -⟩ := h
  have hpower : (s.setTr t (s.tr t).warned).xferPower t = s.setTr t (s.tr t).warned := by
    have ho : (s.tr t).warned.xfer.order = .none := by
      change (s.tr t).xfer.order = .none
      rw [hxfer]
      rfl
    simp only [State.xferPower, State.tr_setTr_same, ho, if_true]
  have hchan : (s.setTr t (s.tr t).warned).chanPower t = s.setTr t (s.tr t).warned :=
    State.chanPower_quiet (by rw [State.tr_setTr_same]; exact hquiet) (by
      rw [State.tr_setTr_same]
      change (s.tr t).xfer.skipFirst = false
      rw [hxfer]
      rfl)
  have hlocate : (s.setTr t (s.tr t).warned).locatePower t = s.setTr t (s.tr t).warned := by
    have ho : (s.tr t).warned.loc.order = .none := by
      change (s.tr t).loc.order = .none
      rw [hloc]
      rfl
    simp only [State.locatePower, State.tr_setTr_same, ho, decide_true, Bool.true_or, if_true]
  have hunload : (s.setTr t (s.tr t).warned).endUnload t .powerStop = s.setTr t (s.tr t).warned :=
    State.endUnload_other (by rw [State.tr_setTr_same]; exact hno) _
  rw [State.pwarnAt_eq hload hstop, hpower, hchan]
  simp only [hlocate, hunload, ite_self]

end

section
variable {s z : State} {t : Tr} {x y : Transport} {k : StopKind}

/-! ### The assertion at the four transports -/

/-- Nothing but records of transports and the Arbiter has changed. -/
def State.SameButRecords (s z : State) : Prop := z = { s with trs := z.trs, arb := z.arb }

theorem State.SameButRecords.trans {w : State} (h : s.SameButRecords z) (h' : z.SameButRecords w) : s.SameButRecords w := by
  unfold State.SameButRecords at *
  rw [h', h]

theorem State.sameButRecords_set (s : State) (t : Tr) (y : Transport) (a : Arbiter) : s.SameButRecords ((s.setTr t y).setArb a) := rfl

/-- The assertion taken by transports that are each under way, or at rest with nothing at work (R178). -/
theorem State.takePwarn_warned (h : ∀ t, (s.tr t).UnderWay ∨ (s.tr t).WarnedAtRest) : ∃ z, s.takePwarn = z ∧
    ({ s with power := { s.power with released := .all false } } : State).SameButRecords z ∧
      ∀ t, (s.tr t).PowerWarned (z.tr t) := by
  have hone : ∀ (z : State) (t : Tr), (z.tr t).UnderWay ∨ (z.tr t).WarnedAtRest →
      ∃ a y, z.pwarnAt t = (z.setTr t y).setArb a ∧ (z.tr t).PowerWarned y := fun z t hz => by
    obtain hz | hz := hz
    · exact State.pwarnAt_underWay hz
    · exact ⟨z.arb, (z.tr t).warned, State.pwarnAt_rest hz, hz.warned.1⟩
  obtain ⟨z1, z2, z3, z4, hz, h1, h2, h3, h4, htr⟩ := State.each_of
    (s := { s with power := { s.power with released := .all false } }) (g := State.pwarnAt)
    (I := fun t z => (z.tr t).UnderWay ∨ (z.tr t).WarnedAtRest) (Q := Transport.PowerWarned)
    (R := fun _ => State.SameButRecords) (fun z t hz => by
      obtain ⟨a, y, hy, hw⟩ := hone z t hz
      have hothers : ∀ u, u ≠ t → (z.pwarnAt t).tr u = z.tr u := fun u hu => by
        rw [hy, State.tr_setArb, State.tr_setTr_other _ _ hu]
      refine ⟨hothers, fun u hu hi => by rw [hothers u hu]; exact hi, ?_, by rw [hy]; exact State.sameButRecords_set ..⟩
      rw [hy, State.tr_setArb, State.tr_setTr_same]
      exact hw) h
  exact ⟨z4, hz, ((h1.trans h2).trans h3).trans h4, htr⟩

/-- PWARN_ASSERTION with ten samples, for transports that are each under way, or at rest with nothing at work. -/
theorem exec_pwarnAsserted {n : Nat} (hp : s.powered = true) (hn : 1 ≤ n) (hc : 10 ≤ s.power.pwarn.count + n)
    (hlevel : s.power.pwarn.level = false) (h : ∀ t, (s.tr t).UnderWay ∨ (s.tr t).WarnedAtRest) :
    ∃ s', exec (.pwarnAssertion n) s = .next s' ∧ s'.power.pwarn = { level := true, count := 0 } ∧
      s'.power.released = .all false ∧ s'.store = s.store ∧ s'.hostMemory = s.hostMemory ∧
      ∀ t, ∃ y, s'.tr t = y.refresh ∧ (s.tr t).PowerWarned y := by
  obtain ⟨hchange, hsamples⟩ := Level.samples_changes hn (v := true) (by simp [hlevel]) hc
  obtain ⟨z, hz, hrest, htr⟩ := State.takePwarn_warned (s := s.pwarnSamples true n) h
  have hpower : z.power = { s.power with pwarn := { level := true, count := 0 }, released := .all false } := by
    rw [hrest, ← hsamples]
    rfl
  refine ⟨_, runEach_settles (f := fun s => if s.power.pwarn.changes 10 true n then (s.pwarnSamples true n).takePwarn
    else s.pwarnSamples true n) hp (by simp only [hchange, if_true]; exact hz) (fun t => (htr t).settled), ?_, ?_, ?_, ?_, fun t => ⟨z.tr t, ?_, htr t⟩⟩
  · simp [hpower]
  · simp [hpower]
  · rw [hrest]
    simp
    rfl
  · rw [hrest]
    simp
    rfl
  · simp

theorem Drive.StopBegun.refresh {d : Drive} (h : d.StopBegun x.drive k) : d.StopBegun x.refresh.drive k := by
  simpa [Drive.StopBegun] using h

/-! ### The release (R179) -/

/-- A transport that waits for the release of PWARN at rest: POWER HELD with its path intact, or UNLOADED. -/
def Transport.AwaitsRelease (x : Transport) : Prop :=
  x.drive.Calm ∧ (x.ctl.state = .powerHeld ∧ x.sense.pathGood = true ∧ x.drive.engaged = true ∨ x.ctl.state = .unloaded)

/-- What the release makes of a transport (R34, R35, R179). -/
structure Transport.PowerReleased (x y : Transport) : Prop where
  state : y.ctl.state = (if x.ctl.state = .powerHeld then .ready else .unloaded)
  attention : y.port.attention =
    x.port.attention ||| (if x.ctl.state = .powerHeld ∧ x.port.pointer ≠ .inFlight then 16#5 else 0#5)
  pointer : y.port.pointer = x.port.pointer
  settled : y.Settled

/-- The release at Transport Control (R34, R35). -/
theorem State.released_rest (h : (z.tr t).AwaitsRelease) : ∃ y, (if (z.tr t).ctl.state = .powerHeld then
    if (z.tr t).sense.pathGood then (z.enter t .ready).raiseCause t .ready else z.dropTape t
  else z) = z.setTr t y ∧ (z.tr t).PowerReleased y := by
  obtain ⟨⟨-, -, hkind, hpending⟩, hstate⟩ := h
  obtain ⟨hheld, hgood, hengaged⟩ | hunloaded := hstate
  · have hready : (z.enter t .ready).raiseCause t .ready = z.setTr t { z.tr t with
        ctl := (z.tr t).ctl.enter .ready, drive := (z.tr t).drive.releaseBrakes,
        port := { (z.tr t).port with
          attention := if (z.tr t).port.pointer = .inFlight then (z.tr t).port.attention
            else (z.tr t).port.attention ||| attentionBit .ready } } := by
      rw [State.enter_ready_engaged hengaged, State.raiseCause_eq]
      simp only [State.tr_setTr_same, State.setTr_setTr]
    simp only [hheld, hgood, if_true, hready]
    refine ⟨_, rfl, (if_pos hheld).symm, ?_, rfl, .of_rest hkind (by simp [Control.enter]) hpending⟩
    by_cases hp : (z.tr t).port.pointer = .inFlight
    · simp [hp]
    · simp [hp, hheld, attentionBit]
  · have hno : (z.tr t).ctl.state ≠ .powerHeld := by simp [hunloaded]
    simp only [hno, if_false]
    exact ⟨z.tr t, (State.setTr_tr z t).symm, by rw [if_neg hno]; exact hunloaded, by simp [hno], rfl, .of_rest hkind (by simp [hunloaded]) hpending⟩

theorem State.lateRelease_rest (hl : s.power.pwarn.level = false) (hr : s.power.released.get t = false)
    (h : (s.tr t).AwaitsRelease) : ∃ y, s.lateRelease t =
      ({ s with power := { s.power with released := s.power.released.set t true } } : State).setTr t y ∧ (s.tr t).PowerReleased y := by
  have ⟨⟨_, _, hkind, _⟩, _⟩ := h
  have hlate : s.lateRelease t = s.deliverRelease t := by simp [State.lateRelease, hl, hr, hkind]
  rw [hlate, State.deliverRelease]
  exact State.released_rest (z := { s with power := { s.power with released := s.power.released.set t true } }) h

/-- The release taken by transports that wait for it at rest (R179). -/
theorem State.takeRelease_rest (hl : s.power.pwarn.level = false) (hr : s.power.released = .all false)
    (h : ∀ t, (s.tr t).AwaitsRelease) : ∃ z, s.takeRelease = z ∧ z.store = s.store ∧
      z.power = { s.power with released := .all true } ∧ ∀ t, (s.tr t).PowerReleased (z.tr t) := by
  obtain ⟨z1, z2, z3, z4, hz, ⟨hs1, hp1⟩, ⟨hs2, hp2⟩, ⟨hs3, hp3⟩, ⟨hs4, hp4⟩, htr⟩ := State.each_of
    (s := s) (g := State.lateRelease)
    (I := fun t z => z.power.pwarn.level = false ∧ z.power.released.get t = false ∧ (z.tr t).AwaitsRelease)
    (Q := Transport.PowerReleased)
    (R := fun t z w => w.store = z.store ∧ w.power = { z.power with released := z.power.released.set t true })
    (fun z t ⟨hl, hr, hz⟩ => by
      obtain ⟨y, hy, hw⟩ := State.lateRelease_rest hl hr hz
      have hothers : ∀ u, u ≠ t → (z.lateRelease t).tr u = z.tr u := fun u hu => by
        rw [hy, State.tr_setTr_other _ _ hu]
        rfl
      refine ⟨hothers, fun u hu ⟨hul, hur, hui⟩ => ⟨by rw [hy]; exact hul, ?_, by rw [hothers u hu]; exact hui⟩, ?_, by rw [hy]; exact ⟨rfl, rfl⟩⟩
      · rw [hy]
        exact (Four.get_set_other _ _ hu).trans hur
      · rw [hy, State.tr_setTr_same]
        exact hw)
    (fun t => ⟨hl, by rw [hr]; exact Four.get_all _ _, h t⟩)
  refine ⟨z4, hz, by rw [hs4, hs3, hs2, hs1], ?_, htr⟩
  rw [hp4, hp3, hp2, hp1, hr]
  rfl

/-- PWARN_RELEASE with ten samples, for transports that wait for it at rest. -/
theorem exec_pwarnReleased {n : Nat} (hp : s.powered = true) (hn : 1 ≤ n) (hc : 10 ≤ s.power.pwarn.count + n)
    (hlevel : s.power.pwarn.level = true) (hr : s.power.released = .all false) (h : ∀ t, (s.tr t).AwaitsRelease) :
    ∃ s', exec (.pwarnRelease n) s = .next s' ∧ s'.power.pwarn = { level := false, count := 0 } ∧
      s'.power.released = .all true ∧ s'.store = s.store ∧ ∀ t, ∃ y, s'.tr t = y.refresh ∧ (s.tr t).PowerReleased y := by
  obtain ⟨hchange, hsamples⟩ := Level.samples_changes hn (v := false) (by simp [hlevel]) hc
  have hlow : (s.pwarnSamples false n).power.pwarn = { level := false, count := 0 } := hsamples
  obtain ⟨z, hz, hstore, hpower, htr⟩ := State.takeRelease_rest (s := s.pwarnSamples false n) (by rw [hlow]) hr h
  refine ⟨_, runEach_settles (f := fun s => if s.power.pwarn.changes 10 false n then (s.pwarnSamples false n).takeRelease
    else s.pwarnSamples false n) hp (by simp only [hchange, if_true]; exact hz) (fun t => (htr t).settled), ?_, ?_, ?_, fun t => ⟨z.tr t, ?_, htr t⟩⟩
  · simp [hpower, hlow]
  · simp [hpower]
  · simp [hstore]
    rfl
  · simp

end

/-- Settles O26. -/
theorem powerWarning : Obligations.PowerWarning := by
  intro s n hp hn hc
  refine ⟨fun hlevel h => ?_, fun hlevel h => ?_, fun hlevel hr h => ?_⟩
  · obtain ⟨s', hx, hpwarn, hreleased, hstore, -, htr⟩ := exec_pwarnAsserted hp hn hc hlevel
      (fun t => .inr ⟨(h t).1, (h t).2.1, (h t).2.2⟩)
    refine ⟨s', hx, hpwarn, hreleased, hstore, fun t => ?_⟩
    obtain ⟨y, hy, hw⟩ := htr t
    have hstate : (s.tr t).ctl.state = .ready ∨ (s.tr t).ctl.state = .unloaded :=
      (h t).2.2.imp (fun hready => hready.2.1) (fun hunloaded => hunloaded.2)
    rw [hy]
    refine ⟨hw.attention, hw.state.trans ?_, fun hready => hw.permission (by simp [hready]), hw.pointer⟩
    obtain hstate | hstate := hstate <;> simp [hstate]
  · obtain ⟨s', hx, hpwarn, hreleased, hstore, hmemory, htr⟩ := exec_pwarnAsserted hp hn hc hlevel
      (fun t => (h t).imp id fun hrest => ⟨hrest.2.1, hrest.1, hrest.2.2⟩)
    refine ⟨s', hx, hpwarn, hreleased, hstore, hmemory, fun t => ?_⟩
    obtain ⟨y, hy, hw⟩ := htr t
    rw [hy]
    refine ⟨hw.attention, hw.pointer, hw.reck, hw.state, fun hu => ?_⟩
    obtain ⟨hpermission, hoperation, hdrive, hloc, hidle, hending, hhunt, hrecord, hwatch, hactivity⟩ := hw.underWay hu
    exact ⟨hpermission, hoperation, hdrive.refresh, hloc, hidle, hending, hhunt, hrecord, hwatch, hactivity⟩
  · obtain ⟨s', hx, hpwarn, hreleased, hstore, htr⟩ := exec_pwarnReleased hp hn hc hlevel hr (fun t => ⟨(h t).1, (h t).2.2⟩)
    refine ⟨s', hx, hpwarn, hreleased, hstore, fun t => ?_⟩
    obtain ⟨y, hy, hw⟩ := htr t
    rw [hy]
    exact ⟨hw.state, hw.attention, hw.pointer⟩

end Sys2Proof.Machine
end

section
/-! PROOF. CLEAR (R36, R91, R134, R144, R149, R152, R154, R168, R170, R182). -/
namespace Sys2Proof.Machine

section
variable {s z : State} {t : Tr} {x y : Transport} {a : Arbiter}

/-! ### The owners at CLEAR -/

/-- A locate plan discarded (R134). -/
theorem Transport.locateIdle_frame (x : Transport) : ∃ l k, x.locateIdle = { x with loc := l, chan := k } ∧ l.order = .none := by
  unfold Transport.locateIdle
  split
  next h => exact ⟨x.loc, x.chan, rfl, h⟩
  next => exact ⟨.idle, _, rfl, rfl⟩

/-- An order of the Transfer Unit abandoned (R168). -/
theorem State.xferAbandon_frame (s : State) (t : Tr) : ∃ a k w, s.xferAbandon t =
    (s.setTr t { s.tr t with xfer := w, chan := k }).setArb a ∧ s.arb.Beside a t ∧ w.order = .none := by
  have hidle : ∀ k : Channel, ∃ a k' w, (s.setTr t { s.tr t with chan := k }).xferIdle t =
      (s.setTr t { s.tr t with xfer := w, chan := k' }).setArb a ∧ s.arb.Beside a t ∧ w.order = .none := fun k => by
    refine ⟨((s.setTr t { s.tr t with chan := k }).withdrawData t).arb, k.leaveTransfer (s.tr t).xfer.order, .idle, ?_,
      State.withdrawData_beside (s.setTr t { s.tr t with chan := k }) t, rfl⟩
    rw [State.xferIdle, State.modTr_setTr, State.tr_withdrawData, State.tr_setTr_same, State.setTr_withdrawData, State.setTr_setTr]
    rfl
  unfold State.xferAbandon
  split
  next h => exact ⟨s.arb, (s.tr t).chan, (s.tr t).xfer, (State.setTr_tr s t).symm, .refl .., h⟩
  next =>
    rw [State.modChan_setTr]
    exact hidle _
  next =>
    rw [State.modChan_setTr]
    exact hidle _
  next =>
    rw [State.modChan_setTr]
    exact hidle _
  next =>
    have hsame := hidle (s.tr t).chan
    rw [show s.setTr t { s.tr t with chan := (s.tr t).chan } = s from State.setTr_tr s t] at hsame
    exact hsame

/-- CLEAR at the channel (R91). -/
theorem State.chanClear_frame (s : State) (t : Tr) : ∃ a k w, s.chanClear t = (s.setTr t { s.tr t with xfer := w, chan := k }).setArb a ∧
    s.arb.Beside a t ∧ w.order = (s.tr t).xfer.order ∧ k.phase = .hunt ∧ k.record = none ∧ k.blankWatch = none ∧
    k.handOver = .off ∧ k.mode = .decode ∧ k.activity ≠ .erasing := by
  obtain ⟨a, j, w, hdiscard, hbeside, horder, -⟩ := s.discardRecord_frame t
  obtain ⟨f, hcut⟩ := Channel.cutErasing_eq { (s.tr t).chan.toHunt with mode := .decode, blankWatch := none, handOver := .off }
  refine ⟨a, ({ (s.tr t).chan.toHunt with mode := .decode, blankWatch := none, handOver := .off } : Channel).cut.endErasing, w, ?_, hbeside,
    horder, ?_⟩
  · rw [State.chanClear, hdiscard, State.modChan_setTr, State.tr_setArb, State.tr_setTr_same, State.setTr_setArb, State.setTr_setTr]
  · rw [hcut]
    refine ⟨rfl, rfl, rfl, rfl, rfl, ?_⟩
    dsimp only
    split
    · simp
    · assumption

/-- A change to offline that takes effect (R19, R35). -/
theorem Transport.applyOffline_frame (x : Transport) : ∃ o p b, x.applyOffline = { x with
    ctl := { x.ctl with online := o, offlinePending := p }, port := { x.port with attention := b } } := by
  unfold Transport.applyOffline
  split
  · split
    · exact ⟨_, _, _, rfl⟩
    · exact ⟨_, _, x.port.attention, rfl⟩
  · exact ⟨x.ctl.online, x.ctl.offlinePending, x.port.attention, rfl⟩

/-- The record of a transport whose Order Port and map order CLEAR has taken back (R144, R152). -/
def Transport.portCleared (x : Transport) (online pending : Bool) : Transport :=
  { x with
    ctl := { x.ctl with online := online, offlinePending := pending },
    port := { x.port.toIdle with attention := 0, faultAfter := false }, mapOrder := .none }

/-- CLEAR at the Order Port (R144, R149, R152). -/
theorem State.portClear_frame (s : State) (t : Tr) : ∃ a o p, s.portClear t = (s.setTr t ((s.tr t).portCleared o p)).setArb a ∧
    s.arb.Beside a t ∧ a.control.get t = none ∧ a.data.get t = none := by
  have hbeside := Arbiter.Beside.trans (State.withdrawControl_beside s t) (State.withdrawData_beside (s.withdrawControl t) t)
  have hcontrol : ((s.withdrawControl t).withdrawData t).arb.control.get t = none := by
    have hkeep : ((s.withdrawControl t).withdrawData t).arb.control = (s.withdrawControl t).arb.control :=
      Arbiter.orphanCurrent_control _ t true
    rw [hkeep]
    simp
  have hdata : ((s.withdrawControl t).withdrawData t).arb.data.get t = none := by simp
  have hone : ∃ o p, ((s.withdrawControl t).withdrawData t).setTr t
      { (if (s.tr t).port.inFlight then (s.tr t).applyOffline else s.tr t) with
        port := { (if (s.tr t).port.inFlight then (s.tr t).applyOffline else s.tr t).port.toIdle with attention := 0, faultAfter := false },
        mapOrder := .none } = (s.setTr t ((s.tr t).portCleared o p)).setArb ((s.withdrawControl t).withdrawData t).arb := by
    split
    · obtain ⟨o, p, b, hoff⟩ := (s.tr t).applyOffline_frame
      refine ⟨o, p, ?_⟩
      rw [hoff]
      rfl
    · exact ⟨(s.tr t).ctl.online, (s.tr t).ctl.offlinePending, rfl⟩
  obtain ⟨o, p, hone⟩ := hone
  exact ⟨_, o, p, by rw [State.portClear, State.modTr_setTr]; exact hone, hbeside, hcontrol, hdata⟩

/-! ### CLEAR at one transport (R182) -/

/-- What CLEAR makes of a transport that is under way (R29, R36, R91, R134, R168). -/
structure Transport.ClearStopped (x y : Transport) : Prop where
  permission : y.ctl.permission = .stop
  drive : x.drive.StopBegun y.drive .controlled
  xfer : y.xfer.order = .none
  loc : y.loc.order = .none
  hunt : y.chan.phase = .hunt
  record : y.chan.record = none
  watch : y.chan.blankWatch = none
  handOver : y.chan.handOver = .off
  mode : y.chan.mode = .decode
  activity : y.chan.activity ≠ .erasing

/-- What CLEAR makes of a transport. -/
structure Transport.Cleared (x y : Transport) : Prop where
  pointer : y.port.pointer = .idle
  index : y.port.index = 0
  copy : y.port.copy = none
  indicators : y.port.indicators = 0
  mask : y.port.noticeMask = x.port.noticeMask
  attention : y.port.attention = (if x.ctl.state = .ready then 16#5 else 0#5)
  state : y.ctl.state = (if x.ctl.state = .inMotion then .stopping else x.ctl.state)
  reck : y.reck = x.reck
  staged : y.drive.staged = none
  active : y.drive.active = x.drive.active
  underWay : x.UnderWay → x.ClearStopped y
  settled : y.Settled

/-- READY raised at CLEAR for a transport that is then READY (R152). -/
def Transport.readied (x : Transport) : Transport :=
  { x with port := { x.port with
      attention := if x.ctl.state = .ready then x.port.attention ||| attentionBit .ready else x.port.attention } }

theorem State.readyAtClear_eq (s : State) (t : Tr) : s.readyAtClear t = s.setTr t (s.tr t).readied := by
  unfold State.readyAtClear Transport.readied
  split
  · rfl
  · exact (State.setTr_tr s t).symm

/-- The owners of a transport at CLEAR, after Transport Control, the Drive Unit and the Locate Unit. -/
theorem State.clearAt_owners (hcontrol : ((s.controlClear t).modDrive t Drive.clear).modTr t Transport.locateIdle = s.setTr t x) :
    ∃ a k w o p, s.clearAt t = (s.setTr t ({ x with xfer := w, chan := k }.portCleared o p).readied).setArb a ∧
      s.arb.Beside a t ∧ a.control.get t = none ∧ a.data.get t = none ∧ w.order = .none ∧ k.phase = .hunt ∧ k.record = none ∧
      k.blankWatch = none ∧ k.handOver = .off ∧ k.mode = .decode ∧ k.activity ≠ .erasing := by
  obtain ⟨a1, k1, w1, habandon, hb1, ho1⟩ := (s.setTr t x).xferAbandon_frame t
  obtain ⟨a2, k2, w2, hchan, hb2, ho2, hrest⟩ := ((s.setTr t { x with xfer := w1, chan := k1 }).setArb a1).chanClear_frame t
  obtain ⟨a3, o, p, hport, hb3, hcontrol3, hdata3⟩ := ((s.setTr t { x with xfer := w2, chan := k2 }).setArb a2).portClear_frame t
  simp only [State.tr_setTr_same, State.setTr_setTr, State.tr_setArb, State.setTr_setArb] at habandon hchan hport ho2
  refine ⟨a3, k2, w2, o, p, ?_, (hb1.trans hb2).trans hb3, hcontrol3, hdata3, ho2.trans ho1, hrest⟩
  have hchan' : ((s.setTr t { x with xfer := w1, chan := k1 }).setArb a1).chanClear t = (s.setTr t { x with xfer := w2, chan := k2 }).setArb a2 :=
    hchan
  have hport' : ((s.setTr t { x with xfer := w2, chan := k2 }).setArb a2).portClear t =
      (s.setTr t ({ x with xfer := w2, chan := k2 }.portCleared o p)).setArb a3 := hport
  rw [State.clearAt, hcontrol, habandon, hchan', hport', State.readyAtClear_eq, State.tr_setArb, State.tr_setTr_same,
    State.setTr_setArb, State.setTr_setTr]

/-- The record of a transport under way when CLEAR has come to Transport Control and the Drive Unit (R29, R36, R52). -/
def Transport.clearStopping (x : Transport) : Transport :=
  { x with
    ctl := { x.ctl with operation := .none, stopByClear := true }.enter .stopping,
    drive := (x.drive.beginStop .controlled).clear }

theorem Drive.StopBegun.clear {d e : Drive} {k : StopKind} (h : d.StopBegun e k) : d.StopBegun e.clear k := by
  obtain ⟨hkind, -, hhold, htarget, hshuttle, hcommand, hengaged, hmode, hphase, hbrake⟩ := h
  exact ⟨hkind, rfl, hhold, htarget, hshuttle, hcommand, hengaged, hmode, hphase, hbrake⟩

theorem State.clearAt_underWay (h : (s.tr t).UnderWay) : ∃ a y, s.clearAt t = (s.setTr t y).setArb a ∧ s.arb.Beside a t ∧
    a.control.get t = none ∧ a.data.get t = none ∧ (s.tr t).Cleared y := by
  have hmove := h.stopping .controlled
  have hbegun := (h.stopBegun .controlled).clear
  have hstate := h.1
  have hstop := h.2.1
  obtain ⟨l, k, hidle, hlo⟩ := (s.tr t).clearStopping.locateIdle_frame
  have hstopping : s.controlClear t =
      (s.modCtl t fun k => { k with operation := .none, stopByClear := true }).enter t .stopping := by
    simp [State.controlClear, hstate, hstop]
  have hcontrol : ((s.controlClear t).modDrive t Drive.clear).modTr t Transport.locateIdle =
      s.setTr t { (s.tr t).clearStopping with loc := l, chan := k } := by
    rw [hstopping, ← hidle]
    simp only [State.enter, State.modCtl_setTr, State.modDrive_setTr, State.modTr_setTr, State.tr_setTr_same, State.setTr_setTr]
    rfl
  obtain ⟨a, k, w, o, p, hclear, hbeside, hac, had, hw, hchan⟩ := State.clearAt_owners hcontrol
  refine ⟨a, _, hclear, hbeside, hac, had, ?_⟩
  obtain ⟨hhunt, hrecord, hwatch, hoff, hdecode, hactivity⟩ := hchan
  have hpermission : (Control.enter { (s.tr t).ctl with operation := .none, stopByClear := true } .stopping).permission = .stop := by
    simp [Control.enter, hstop, permissionOf]
  obtain ⟨q, r, hd, -, -⟩ := h.beginStop .controlled
  exact ⟨rfl, rfl, rfl, rfl, rfl, by rw [hstate]; rfl, by rw [hstate]; rfl, rfl, rfl, by
      change ((s.tr t).drive.beginStop .controlled).active = _
      rw [hd],
    fun _ => ⟨hpermission, hbegun, hw, hlo, hhunt, hrecord, hwatch, hoff, hdecode, hactivity⟩, .of_moving hmove⟩

/-- A transport at rest with nothing at work, READY or UNLOADED. -/
structure Transport.ClearedAtRest (x : Transport) : Prop where
  unused : x.Unused
  rest : x.ReadyStanding ∨ x.Unloaded

/-- The record of a transport at rest when CLEAR has come to Transport Control and the Drive Unit (R36). -/
def Transport.clearResting (x : Transport) : Transport :=
  { x with
    ctl := if x.ctl.state = .ready then { x.ctl with operation := .none } else x.ctl, drive := x.drive.clear }

theorem Transport.ClearedAtRest.calm (h : x.ClearedAtRest) : (x.ctl.state = .ready ∨ x.ctl.state = .unloaded) ∧
    x.drive.stopKind = .none ∧ x.ctl.unloadEnding = false := by
  obtain ⟨-, ⟨⟨-, -, -, hkind, -, -, hending⟩, hstate, -⟩ | ⟨⟨-, -, -, hkind, -, -, -, -, -, -, hending⟩, hstate⟩⟩ := h
  · exact ⟨.inl hstate, hkind, hending⟩
  · exact ⟨.inr hstate, hkind, hending⟩

theorem State.clearAt_rest (h : (s.tr t).ClearedAtRest) : ∃ a y, s.clearAt t = (s.setTr t y).setArb a ∧ s.arb.Beside a t ∧
    a.control.get t = none ∧ a.data.get t = none ∧ (s.tr t).Cleared y := by
  obtain ⟨hstate, hkind, hending⟩ := h.calm
  obtain ⟨⟨-, hloc, -⟩, -⟩ := h
  have hidle : (s.tr t).clearResting.locateIdle = (s.tr t).clearResting := by
    have ho : (s.tr t).clearResting.loc.order = .none := by
      change (s.tr t).loc.order = .none
      rw [hloc]
      rfl
    rw [Transport.locateIdle, if_pos ho]
  have hcontrol : ((s.controlClear t).modDrive t Drive.clear).modTr t Transport.locateIdle = s.setTr t (s.tr t).clearResting := by
    have hclear : (s.controlClear t).modDrive t Drive.clear = s.setTr t (s.tr t).clearResting := by
      obtain hstate | hstate := hstate
      · simp [State.controlClear, hstate, Transport.clearResting]
      · simp [State.controlClear, hstate, Transport.clearResting]
    rw [hclear, State.modTr_setTr, State.tr_setTr_same, hidle, State.setTr_setTr]
  obtain ⟨a, k, w, o, p, hclear, hbeside, hac, had, -⟩ := State.clearAt_owners hcontrol
  refine ⟨a, _, hclear, hbeside, hac, had, ?_⟩
  have hctl : (s.tr t).clearResting.ctl.state = (s.tr t).ctl.state ∧ (s.tr t).clearResting.ctl.unloadEnding = false := by
    unfold Transport.clearResting
    dsimp only
    split <;> exact ⟨rfl, hending⟩
  obtain ⟨hkeep, hnot⟩ := hctl
  refine ⟨rfl, rfl, rfl, rfl, rfl, ?_, hkeep.trans ?_, rfl, rfl, rfl, fun hu => ?_, .of_calm hkind hnot rfl⟩
  · change (if (s.tr t).clearResting.ctl.state = .ready then 0#5 ||| attentionBit .ready else 0#5) = _
    rw [hkeep]
    rfl
  · obtain hstate | hstate := hstate <;> simp [hstate]
  · obtain hstate | hstate := hstate <;> exact absurd (hstate.symm.trans hu.1) (by simp)

/-! ### CLEAR at the four transports (R182) -/

/-- A CLEAR taken by transports that are each under way, or at rest with nothing at work (R182). -/
theorem State.takeClear_cleared (h : ∀ t, (s.tr t).UnderWay ∨ (s.tr t).ClearedAtRest) : ∃ z, s.takeClear = z ∧
    z.store = s.store ∧ z.hostMemory = s.hostMemory ∧ z.powered = s.powered ∧ z.power = { s.power with clearArmed := false } ∧
    z.exchange = { s.exchange with holder := none, waiting := .all false, table := [], written := 0 } ∧
    z.arb.control = .all none ∧ z.arb.data = .all none ∧ z.arb.controlLast = s.arb.controlLast ∧
    z.arb.dataLast = s.arb.dataLast ∧ ∀ t, (s.tr t).Cleared (z.tr t) := by
  have hone : ∀ (z : State) (t : Tr), (z.tr t).UnderWay ∨ (z.tr t).ClearedAtRest → ∃ a y, z.clearAt t = (z.setTr t y).setArb a ∧
      z.arb.Beside a t ∧ a.control.get t = none ∧ a.data.get t = none ∧ (z.tr t).Cleared y := fun z t hz => by
    obtain hz | hz := hz
    · exact State.clearAt_underWay hz
    · exact State.clearAt_rest hz
  obtain ⟨z1, z2, z3, z, hz, ⟨hr1, hb1, hc1, hd1⟩, ⟨hr2, hb2, hc2, hd2⟩, ⟨hr3, hb3, hc3, hd3⟩, ⟨hr4, hb4, hc4, hd4⟩, htr⟩ := State.each_of
    (s := s) (g := State.clearAt) (I := fun t z => (z.tr t).UnderWay ∨ (z.tr t).ClearedAtRest) (Q := Transport.Cleared)
    (R := fun t z w => z.SameButRecords w ∧ z.arb.Beside w.arb t ∧ w.arb.control.get t = none ∧ w.arb.data.get t = none)
    (fun z t hz => by
      obtain ⟨a, y, hy, hbeside, hac, had, hw⟩ := hone z t hz
      have hothers : ∀ u, u ≠ t → (z.clearAt t).tr u = z.tr u := fun u hu => by
        rw [hy, State.tr_setArb, State.tr_setTr_other _ _ hu]
      refine ⟨hothers, fun u hu hi => by rw [hothers u hu]; exact hi, ?_, ?_⟩
      · rw [hy, State.tr_setArb, State.tr_setTr_same]
        exact hw
      · rw [hy]
        exact ⟨State.sameButRecords_set .., hbeside, hac, had⟩) h
  have hsame := ((hr1.trans hr2).trans hr3).trans hr4
  obtain ⟨hl1, hm1, ho1⟩ := hb1
  obtain ⟨hl2, hm2, ho2⟩ := hb2
  obtain ⟨hl3, hm3, ho3⟩ := hb3
  obtain ⟨hl4, hm4, ho4⟩ := hb4
  have hnone : ∀ t, z.arb.control.get t = none ∧ z.arb.data.get t = none := fun t => by
    cases t with
    | t0 =>
      rw [(ho4 .t0 (by decide)).1, (ho3 .t0 (by decide)).1, (ho2 .t0 (by decide)).1, (ho4 .t0 (by decide)).2, (ho3 .t0 (by decide)).2,
        (ho2 .t0 (by decide)).2]
      exact ⟨hc1, hd1⟩
    | t1 =>
      rw [(ho4 .t1 (by decide)).1, (ho3 .t1 (by decide)).1, (ho4 .t1 (by decide)).2, (ho3 .t1 (by decide)).2]
      exact ⟨hc2, hd2⟩
    | t2 =>
      rw [(ho4 .t2 (by decide)).1, (ho4 .t2 (by decide)).2]
      exact ⟨hc3, hd3⟩
    | t3 => exact ⟨hc4, hd4⟩
  have hpower : z.power = s.power := by rw [hsame]
  have hexchange : z.exchange = s.exchange := by rw [hsame]
  refine ⟨_, rfl, ?_⟩
  rw [State.takeClear, hz]
  refine ⟨by rw [hsame], by rw [hsame], by rw [hsame], ?_, ?_, Four.ext_get fun t => ?_, Four.ext_get fun t => ?_, ?_, ?_, htr⟩
  · change { z.power with clearArmed := false } = _
    rw [hpower]
  · change { z.exchange with holder := none, waiting := .all false, table := [], written := 0 } = _
    rw [hexchange]
  · exact (hnone t).1.trans (Four.get_all _ t).symm
  · exact (hnone t).2.trans (Four.get_all _ t).symm
  · exact hl4.trans (hl3.trans (hl2.trans hl1))
  · exact hm4.trans (hm3.trans (hm2.trans hm1))

/-- CONTROLLER_CLEAR with ten samples, for transports that are each under way, or at rest with nothing at work. -/
theorem exec_cleared {n : Nat} (hp : s.powered = true) (hn : 1 ≤ n) (hc : 10 ≤ s.power.clear.count + n)
    (hlevel : s.power.clear.level = false) (harmed : s.power.clearArmed = true)
    (h : ∀ t, (s.tr t).UnderWay ∨ (s.tr t).ClearedAtRest) : ∃ s', exec (.controllerClear n) s = .next s' ∧
      { s'.power with checkWord := s.power.checkWord } =
        { s.power with clear := { level := true, count := 0 }, clearArmed := false } ∧
      s'.powered = true ∧ s'.hostMemory = s.hostMemory ∧ s'.store = s.store ∧ s'.arb.control = .all none ∧
      s'.arb.data = .all none ∧ s'.arb.controlLast = s.arb.controlLast ∧ s'.arb.dataLast = s.arb.dataLast ∧
      s'.exchange.holder = none ∧ s'.exchange.waiting = .all false ∧ s'.exchange.last = s.exchange.last ∧
      ∀ t, ∃ y, s'.tr t = y.refresh ∧ (s.tr t).Cleared y := by
  obtain ⟨hchange, hsamples⟩ := Level.samples_changes hn (v := true) (by simp [hlevel]) hc
  obtain ⟨z, hz, hstore, hmemory, hpowered, hpower, hexchange, hcontrol, hdata, hlast, hdlast, htr⟩ :=
    State.takeClear_cleared (s := s.clearSamples true n) h
  have hclear : (s.clearSamples true n).power = { s.power with clear := { level := true, count := 0 } } := by
    rw [← hsamples]
    rfl
  refine ⟨_, runEach_settles (f := fun s => if s.power.clear.changes 10 true n && s.power.clearArmed then (s.clearSamples true n).takeClear
    else s.clearSamples true n) hp (by simp only [hchange, harmed, Bool.and_self, if_true]; exact hz) (fun t => (htr t).settled), ?_⟩
  refine ⟨?_, ?_, ?_, ?_, ?_, ?_, ?_, ?_, ?_, ?_, ?_, fun t => ⟨z.tr t, ?_, htr t⟩⟩
  · simp [hpower, hclear]
  · rw [State.finish_powered]
    exact hpowered.trans hp
  · rw [State.finish_hostMemory]
    exact hmemory
  · rw [State.finish_store]
    exact hstore
  · rw [State.finish_arb]
    exact hcontrol
  · rw [State.finish_arb]
    exact hdata
  · rw [State.finish_arb]
    exact hlast
  · rw [State.finish_arb]
    exact hdlast
  · rw [State.finish_exchange]
    exact congrArg Exchange.holder hexchange
  · rw [State.finish_exchange]
    exact congrArg Exchange.waiting hexchange
  · rw [State.finish_exchange]
    exact (congrArg Exchange.last hexchange :)
  · simp

end

/-- Settles O27. -/
theorem controllerClear : Obligations.ControllerClear := by
  intro s n hp hn hc
  refine ⟨fun hlevel harmed h => ?_, fun hlevel harmed h => ?_, fun hlevel hall => ?_⟩
  · obtain ⟨s', hx, hpower, hpowered, hmemory, hstore, hcontrol, hdata, hlast, hdlast, hholder, hwaiting, hxlast, htr⟩ :=
      exec_cleared hp hn hc hlevel harmed (fun t => .inr ⟨(h t).1, (h t).2⟩)
    refine ⟨s', hx, hpower, hpowered, hmemory, hstore, hcontrol, hdata, hlast, hdlast, hholder, hwaiting, hxlast, fun t => ?_⟩
    obtain ⟨y, hy, hw⟩ := htr t
    have hrest : (s.tr t).ctl.state ≠ .inMotion := by
      obtain hstate | hstate := (Transport.ClearedAtRest.mk (h t).1 (h t).2).calm.1 <;> simp [hstate]
    rw [hy]
    exact ⟨hw.pointer, hw.index, hw.copy, hw.indicators, hw.mask, hw.attention, hw.state.trans (if_neg hrest), hw.reck,
      (Transport.refresh_drive_staged _).trans hw.staged, (Transport.refresh_drive_active _).trans hw.active⟩
  · obtain ⟨s', hx, hpower, hpowered, hmemory, hstore, hcontrol, hdata, hlast, hdlast, hholder, hwaiting, hxlast, htr⟩ :=
      exec_cleared hp hn hc hlevel harmed (fun t => (h t).imp id fun hrest => ⟨hrest.1, hrest.2⟩)
    refine ⟨s', hx, hpower, hpowered, hmemory, hstore, hcontrol, hdata, hlast, hdlast, hholder, hwaiting, hxlast, fun t => ?_⟩
    obtain ⟨y, hy, hw⟩ := htr t
    rw [hy]
    refine ⟨hw.pointer, hw.index, hw.copy, hw.indicators, hw.mask, hw.attention, hw.state, hw.reck,
      (Transport.refresh_drive_staged _).trans hw.staged, (Transport.refresh_drive_active _).trans hw.active, fun hu => ?_⟩
    obtain ⟨hpermission, hdrive, hxfer, hloc, hhunt, hrecord, hwatch, hoff, hmode, hactivity⟩ := hw.underWay hu
    exact ⟨hpermission, hdrive.refresh, hxfer, hloc, hhunt, hrecord, hwatch, hoff, hmode, hactivity⟩
  · obtain ⟨hchange, hsamples⟩ := Level.samples_changes hn (v := false) (by simp [hlevel]) hc
    refine ⟨_, runEach_records (f := fun s => if s.power.clear.changes 10 false n then
        { s.clearSamples false n with power := { (s.clearSamples false n).power with clearArmed := true } }
      else s.clearSamples false n) hp hall (if_pos hchange) (fun _ => rfl), ?_, hp, rfl, ⟨rfl, rfl, rfl⟩, fun t => ?_, rfl⟩
    · rw [State.finish_power]
      change { s.power with clear := s.power.clear.samples 10 false n, clearArmed := true } = _
      rw [hsamples]
    · rw [State.finish_tr, State.tr_refreshAll]
      rfl

end Sys2Proof.Machine
end

section
/-! PROOF. The automatic FILE entry step (R97, R113, R114). -/
namespace Sys2Proof.Machine

section
variable {s : State} {t : Tr} {es : List Entry} {b f : Nat} {start : Int} {anchor : Anchor} {bound : Nat} {sound : Bool}

theorem Port.raiseInd_raiseInd (p : Port) (i : Indicator) : (p.raiseInd i).raiseInd i = p.raiseInd i := by
  by_cases h : p.pointer = .inFlight
  · simp [Port.raiseInd, h, BitVec.or_assoc]
  · simp [Port.raiseInd, h]

theorem Port.raisedIf_raisedIf (p : Port) (a c : Bool) (i : Indicator) :
    (p.raisedIf a i).raisedIf c i = p.raisedIf (a || c) i := by
  cases a <;> cases c <;> simp [Port.raisedIf, Port.raiseInd_raiseInd]

/-- The entries that a new FILE entry for file `f` leaves to find their place (R113). -/
def otherFiles (es : List Entry) (f : Nat) : List Entry := es.filter fun e => !(e.mark = 50000 + f && e.kind = .file)

/-- The FILE entry of a file mark (R113). -/
def fileEntryOf (b f : Nat) (start : Int) (anchor : Anchor) (bound slot : Nat) : Entry :=
  { mark := 50000 + f, kind := .file, block := b, position := start, recordLength := 0,
    bound := if anchor = .drifted then some bound else none, tag := [], slot := slot }

theorem otherFiles_eq_of_fresh (hfresh : staleFile es b f = false) (hb : ∀ g ∈ es, g.block ≠ b) : otherFiles es f = es := by
  rw [otherFiles, List.filter_eq_self]
  intro g hg
  have hno := List.any_eq_false.mp hfresh g hg
  have hblock := hb g hg
  simp_all [imp_iff_not_or]

theorem otherFiles_length (hb : ∀ g ∈ es, g.block ≠ b) : (otherFiles es f).length ≤ es.length ∧
    (staleFile es b f = true ↔ (otherFiles es f).length ≠ es.length) := by
  refine ⟨List.length_filter_le _ _, ?_⟩
  rw [otherFiles, ne_eq, List.length_filter_eq_length_iff, staleFile, List.any_eq_true]
  constructor
  · rintro ⟨g, hg, hstale⟩ hall
    have := hall g hg
    simp_all
  · intro hnot
    by_contra hno
    refine hnot fun g hg => ?_
    have hblock := hb g hg
    by_contra hmark
    exact hno ⟨g, hg, by simp_all⟩

/-- A record replaced twice, the first time by one that takes no more slots (R93). -/
theorem State.setReel_setReel {r r' : ReelRecord} (h : r.entries.length ≤ (s.reel t).entries.length) :
    (s.setReel t r).setReel t r' = s.setReel t r' := by
  have hreel : (s.setReel t r).reel t = r := by simp
  have hpool : s.store.poolFree + (s.reel t).entries.length - r.entries.length + r.entries.length - r'.entries.length =
      s.store.poolFree + (s.reel t).entries.length - r'.entries.length := by omega
  rw [State.setReel, hreel]
  simp only [State.setReel, Four.set_set, hpool]

theorem State.setReel_setEntries {r : ReelRecord} {es : List Entry} (h : r.entries.length ≤ (s.reel t).entries.length) :
    (s.setReel t r).setEntries t es = s.setReel t { r with entries := es } := by
  have hreel : (s.setReel t r).reel t = r := by simp
  rw [State.setEntries, hreel, State.setReel_setReel h]

theorem State.setEntries_setEntries {es es' : List Entry} (h : es.length ≤ (s.reel t).entries.length) :
    (s.setEntries t es).setEntries t es' = s.setEntries t es' := by
  exact State.setReel_setEntries (r := { s.reel t with entries := es }) h

/-- The entries of a record once the file mark of a block has its FILE entry (R95, R97, R113). -/
def fileEntries (es : List Entry) (e : Entry) (f : Nat) : List Entry :=
  es.filter (fun g => !(g.mark = 50000 + f && g.kind = .file) && g.block < e.block && g.position < e.position) ++
    e :: es.filter fun g => !(g.mark = 50000 + f && g.kind = .file) && e.block < g.block && e.position < g.position

theorem placeEntry_otherFiles (es : List Entry) (e : Entry) (f : Nat) : placeEntry (otherFiles es f) e = fileEntries es e f := by
  rw [placeEntry_eq, otherFiles, List.filter_filter, List.filter_filter, fileEntries]
  congr 2
  · funext g
    rw [Bool.eq_iff_iff]
    simp only [Bool.and_eq_true, decide_eq_true_eq]
    tauto
  · congr 1
    funext g
    rw [Bool.eq_iff_iff]
    simp only [Bool.and_eq_true, decide_eq_true_eq]
    tauto

theorem fileRefused_false (hb : ∀ g ∈ (s.reel t).entries, g.block ≠ b) (hf : f ≤ 15535) (hlast : b ≠ 16777215)
    (heod : ((s.reel t).eod.any fun n => n ≤ b) = false) (ha : anchor ≠ .lost) (hpool : 1 ≤ s.store.poolFree)
    (hlen : (s.reel t).entries.length < 1024) : fileRefused s t b f anchor true = false := by
  have hother : ((s.reel t).entries.any fun e => e.block = b && e.kind != .file) = false := by
    rw [List.any_eq_false]
    intro g hg
    simp [hb g hg]
  have hpool' : 1 ≤ s.store.poolFree + (if staleFile (s.reel t).entries b f then 1 else 0) := by omega
  have hlen' : (s.reel t).entries.length < 1024 + (if staleFile (s.reel t).entries b f then 1 else 0) := by omega
  simp only [fileRefused, Nat.not_lt.mpr hf, hlast, heod, hother, ha, hpool', hlen', decide_true, decide_false, Bool.or_false, Bool.and_self,
    Bool.not_true]

/-- The step makes its entry (R113): it stands in place of an older entry of its file, its neighbours giving way. -/
theorem State.fileStep_makes (hact : (s.reel t).state = .active) (hauto : (s.reel t).autoFile = true)
    (hb : ∀ g ∈ (s.reel t).entries, g.block ≠ b) (hf : f ≤ 15535) (hlast : b ≠ 16777215)
    (heod : ((s.reel t).eod.any fun n => n ≤ b) = false) (ha : anchor ≠ .lost) (hpool : 1 ≤ s.store.poolFree)
    (hlen : (s.reel t).entries.length < 1024) (hstart : 0 ≤ start) :
    ∃ n es, es = fileEntries (s.reel t).entries (fileEntryOf b f start anchor bound n) f ∧
      es.length ≤ (s.reel t).entries.length + 1 ∧
      s.fileStep t b f start anchor bound true = (s.setEntries t es).modPort t fun p =>
        p.raisedIf (decide (es.length ≠ (s.reel t).entries.length + 1)) .mapChanged := by
  have hstands : ((s.reel t).entries.any fun e => e.block = b && e.kind = .file && e.mark = 50000 + f) = false := by
    rw [List.any_eq_false]
    intro g hg
    simp [hb g hg]
  obtain ⟨hle, hstale⟩ := otherFiles_length (f := f) hb
  have hothers : ∀ n, ∀ g ∈ otherFiles (s.reel t).entries f, g.block ≠ (fileEntryOf b f start anchor bound n).block := fun n g hg =>
    hb g (List.mem_of_mem_filter hg)
  have hclamp : ∀ n, clampEntry (fileEntryOf b f start anchor bound n) = fileEntryOf b f start anchor bound n := fun n => by
    have hpos : ¬ (fileEntryOf b f start anchor bound n).position < 0 := Int.not_lt.mpr hstart
    rw [clampEntry, if_neg hpos]
  have hraise : ∀ n, (staleFile (s.reel t).entries b f ||
        decide (placeRetires (otherFiles (s.reel t).entries f) (fileEntryOf b f start anchor bound n) ≠ 0)) =
      decide ((fileEntries (s.reel t).entries (fileEntryOf b f start anchor bound n) f).length ≠ (s.reel t).entries.length + 1) := fun n => by
    have hcount := placeEntry_length (hothers n)
    rw [placeEntry_otherFiles] at hcount
    rw [Bool.eq_iff_iff]
    simp only [Bool.or_eq_true, decide_eq_true_eq, hstale]
    omega
  have hshort : ∀ n, (fileEntries (s.reel t).entries (fileEntryOf b f start anchor bound n) f).length ≤ (s.reel t).entries.length + 1 := fun n => by
    have hcount := placeEntry_length (hothers n)
    rw [placeEntry_otherFiles] at hcount
    omega
  have hmake : ∀ z : State, (z.reel t).entries = otherFiles (s.reel t).entries f →
      ((z.setEntries t (placeEntry (z.reel t).entries (clampEntry (fileEntryOf b f start anchor bound z.store.freeSlot)))).raiseIndIf t
        (placeRetires (z.reel t).entries (clampEntry (fileEntryOf b f start anchor bound z.store.freeSlot)) ≠ 0) .mapChanged) =
      (z.setEntries t (fileEntries (s.reel t).entries (fileEntryOf b f start anchor bound z.store.freeSlot) f)).modPort t fun p =>
        p.raisedIf (decide (placeRetires (otherFiles (s.reel t).entries f) (fileEntryOf b f start anchor bound z.store.freeSlot) ≠ 0)) .mapChanged :=
    fun z hz => by rw [hclamp, hz, placeEntry_otherFiles, State.raiseIndIf_eq]
  have hrefuse := fileRefused_false hb hf hlast heod ha hpool hlen
  cases hfresh : staleFile (s.reel t).entries b f
  · refine ⟨s.store.freeSlot, _, rfl, hshort _, ?_⟩
    rw [← hraise, hfresh, Bool.false_or]
    simp only [State.fileStep, hact, hauto, hstands, hrefuse, hfresh, decide_true, Bool.and_self, if_true, Bool.false_eq_true, if_false]
    exact hmake s (otherFiles_eq_of_fresh hfresh hb).symm
  · refine ⟨((s.setEntries t (otherFiles (s.reel t).entries f)).raiseInd t .mapChanged).store.freeSlot, _, rfl, hshort _, ?_⟩
    rw [← hraise, hfresh, Bool.true_or]
    simp only [State.fileStep, hact, hauto, hstands, hrefuse, hfresh, decide_true, Bool.and_self, if_true, Bool.false_eq_true, if_false]
    refine (hmake ((s.setEntries t (otherFiles (s.reel t).entries f)).raiseInd t .mapChanged) (by simp [State.raiseInd])).trans ?_
    generalize ((s.setEntries t (otherFiles (s.reel t).entries f)).raiseInd t .mapChanged).store.freeSlot = n
    have hport : ∀ (p : Port) (c : Bool), (p.raiseInd .mapChanged).raisedIf c .mapChanged = p.raisedIf true .mapChanged := fun p c =>
      (Port.raisedIf_raisedIf p true c .mapChanged).trans (by rw [Bool.true_or])
    simp only [State.raiseInd, State.modPort_setTr, State.tr_setEntries, State.setTr_setEntries, State.tr_setTr_same, State.setTr_setTr,
      hport]
    exact State.setEntries_setEntries hle

/-- The step makes no entry (R114). -/
theorem State.fileStep_refuses (hact : (s.reel t).state = .active) (hauto : (s.reel t).autoFile = true)
    (hb : ∀ g ∈ (s.reel t).entries, g.block ≠ b)
    (h : sound = false ∨ anchor = .lost ∨ 15535 < f ∨ ((s.reel t).eod.any fun n => n ≤ b) = true) :
    s.fileStep t b f start anchor bound sound = s.raiseInd t .mapNotUpdated := by
  have hstands : ((s.reel t).entries.any fun e => e.block = b && e.kind = .file && e.mark = 50000 + f) = false := by
    rw [List.any_eq_false]
    intro g hg
    simp [hb g hg]
  have hrefuse : fileRefused s t b f anchor sound = true := by
    simp only [fileRefused, Bool.or_eq_true, decide_eq_true_eq, Bool.not_eq_true']
    tauto
  simp only [State.fileStep, hact, hauto, hstands, hrefuse, decide_true, Bool.and_self, if_true, Bool.false_eq_true, if_false]

end

end Sys2Proof.Machine
end

section
/-! PROOF. The end of a record at the blocks that hear of it (R69, R70, R72, R73, R76, R77, R84, R108 to R111, R113, R114). -/
namespace Sys2Proof.Machine

section
variable {s z : State} {t : Tr} {x : Transport} {r : RecordInProgress} {p : Passage} {b f : Nat} {k : RecordKind} {e : Entry}
  {q : Reckoning}

/-! ### Position Reckoning (R69, R70, R72) -/

/-- The last-block record of a record that a decoded stamp names (R72). -/
def Reckoning.stampedLast (q : Reckoning) (b : Nat) (k : RecordKind) (start : Int) (length : Nat) : LastBlock :=
  { block := some b, start := start, length := length, kind := k, stamped := true, anchor := q.anchor, bound := q.bound.getD 0 }

/-- The reckoning after a forward record with a stamp that can be adopted (R69, R72). -/
def Reckoning.stampPassed (q : Reckoning) (b f : Nat) (k : RecordKind) (start : Int) (length : Nat) : Reckoning :=
  { q with
    nextBlock := b + 1, nextKnown := true, fileNumber := if k = .fileMark then f + 1 else f,
    lastBlock := some (q.stampedLast b k start length) }

/-- The known sequence is the one that a forward record of this block and file continues (R69; log 49). -/
def Reckoning.expects (q : Reckoning) (b f : Nat) : Bool := q.nextKnown && q.nextBlock = b && q.fileNumber = f

theorem Reckoning.adopt_forward (hb : b < 16777215) (h1 : 1 ≤ f) (hf : (if k = .fileMark then f + 1 else f) ≤ 65535) :
    q.adopt .forward b f k = ({ q with
      nextBlock := b + 1, fileNumber := if k = .fileMark then f + 1 else f, nextKnown := true }, !q.expects b f) := by
  have hsequence : adoptedSequence .forward b f k = some (b + 1, if k = .fileMark then f + 1 else f) := by
    cases k
    · have hin : ¬ (16777215 ≤ b ∨ f < 1 ∨ 65535 < f) := by simp at hf; omega
      simp_all [adoptedSequence]
    · have hin : ¬ (16777215 ≤ b ∨ f < 1 ∨ 65535 < f + 1) := by simp at hf; omega
      simp_all [adoptedSequence]
  have hagree : ((q.countRecord .forward k).nextKnown && (q.countRecord .forward k).nextBlock = b + 1 &&
      (q.countRecord .forward k).fileNumber = if k = .fileMark then f + 1 else f) = q.expects b f := by
    rw [Bool.eq_iff_iff]
    cases hknown : q.nextKnown
    · simp [Reckoning.countRecord, Reckoning.expects, hknown]
    · cases k
      · simp only [reduceCtorEq, if_false] at hf
        simp only [Reckoning.countRecord, Reckoning.expects, hknown, if_true, reduceCtorEq, if_false]
        split
        next hout =>
          simp only [Bool.or_eq_true, decide_eq_true_eq] at hout
          simp only [dirSign] at hout
          simp
          omega
        next hin =>
          simp only [dirSign]
          simp
      · simp only [if_true] at hf
        simp only [Reckoning.countRecord, Reckoning.expects, hknown, if_true]
        split
        next hout =>
          simp only [Bool.or_eq_true, decide_eq_true_eq] at hout
          simp only [dirSign] at hout
          simp
          omega
        next hin =>
          simp only [dirSign]
          simp
  simp only [Reckoning.adopt, hsequence, hagree]

theorem Reckoning.passage_stamped (hs : p.stamp = .decoded b f k) (hd : p.dir = .forward) (hb : b < 16777215) (h1 : 1 ≤ f)
    (hf : (if k = .fileMark then f + 1 else f) ≤ 65535) :
    q.passage p = (q.stampPassed b f k p.start p.length, !q.expects b f) := by
  simp only [Reckoning.passage, hs, hd, Reckoning.adopt_forward hb h1 hf, lastBlockOf]
  rfl

/-- A forward record counted without a stamp (R70, R72). -/
theorem Reckoning.passage_counted {w : NoStamp} (hs : p.stamp = .none w) (hd : p.dir = .forward) (hk : q.nextKnown = true)
    (hb : q.nextBlock < 16777215) (h1 : 1 ≤ q.fileNumber) (hf : q.fileNumber < 65535) : q.passage p = ({ q with
      nextBlock := q.nextBlock + 1, fileNumber := q.fileNumber + (if p.length < 84 then 1 else 0),
      lastBlock := some
        { block := some q.nextBlock, start := p.start, length := p.length,
          kind := if p.length < 84 then .fileMark else .data, stamped := false, anchor := q.anchor, bound := q.bound.getD 0 } }, false) := by
  have hcount : q.countRecord .forward (kindOfLength p.length) = { q with
      nextBlock := q.nextBlock + 1, fileNumber := q.fileNumber + (if p.length < 84 then 1 else 0) } := by
    have hblock : ¬ (q.nextBlock : Int) + 1 < 0 ∧ ¬ (16777215 : Int) < q.nextBlock + 1 := by omega
    have hfile : ¬ (q.fileNumber : Int) < 1 ∧ ¬ (65535 : Int) < q.fileNumber := by omega
    have hfile' : ¬ (q.fileNumber : Int) + 1 < 1 ∧ ¬ (65535 : Int) < q.fileNumber + 1 := by omega
    by_cases hl : p.length < 84
    · simp [Reckoning.countRecord, hk, kindOfLength, hl, dirSign, hblock, hfile']
    · simp [Reckoning.countRecord, hk, kindOfLength, hl, dirSign, hblock, hfile]
  simp only [Reckoning.passage, hs, hd, hcount, lastBlockOf, hk, if_true]
  rfl

/-! ### The record closed (R77, R84) -/

/-- The record of a transport when a record on tape has been closed and Position Reckoning has taken its report (R69,
R70, R72, R77, R84). -/
def Transport.passed (x : Transport) (r : RecordInProgress) (reel : ReelRecord) : Transport :=
  { x with
    chan := { x.chan.toHunt with handOver := if x.chan.handOver = .handing then .off else x.chan.handOver },
    reck := (x.reck.passage (r.passage reel)).1,
    port := (x.port.raisedIf (decide ((r.passage reel).stamp = .none .foreign)) .foreignStamp).raisedIf
      (x.reck.passage (r.passage reel)).2 .sequenceAdopted }

/-- The end of a record that is due, as the conditions of the statements give it. -/
structure Transport.Ends (x : Transport) (r : RecordInProgress) : Prop where
  phase : x.chan.phase = .trail
  record : x.chan.record = some r
  low : 60 ≤ r.low
  listens : x.chan.activity = .listen

theorem State.doRecordEnd_closes (h : (s.tr t).Ends r) : s.doRecordEnd t = s.closeRecord t r := by
  obtain ⟨hphase, hrecord, hlow, -⟩ := h
  have hdue : (s.tr t).chan.recordEndDue = true := by simp [Channel.recordEndDue, hphase, hrecord, hlow]
  simp only [State.doRecordEnd, hdue, if_true, hrecord]

theorem State.closeRecord_passes (h : (s.tr t).Ends r) (hlen : 82 ≤ r.length) : s.closeRecord t r =
    (((s.setTr t ((s.tr t).passed r (s.reel t))).stampToMap t (r.passage (s.reel t))).xferPassage t
      (r.passage (s.reel t))).locatePassage t (r.passage (s.reel t)) := by
  simp only [State.closeRecord, h.listens, Nat.not_lt.mpr hlen, if_false, State.deliverPassage, State.raiseIndIf_eq, State.modChan_setTr,
    State.modPort_setTr, State.modTr_setTr, State.tr_setTr_same, State.setTr_setTr]
  rfl

/-- With no locate under way a passage report changes nothing at the Locate Unit (R134). -/
theorem State.locatePassage_none (h : (s.tr t).loc.target = none) : s.locatePassage t p = s := by
  simp only [State.locatePassage, h]
  split <;> rfl

theorem State.xferPassage_idle (h : (s.tr t).xfer.phase = .idle) : s.xferPassage t p = s := by
  simp [State.xferPassage, h]

/-- The end of a record of which only Position Reckoning and the Map Store hear. -/
theorem State.closeRecord_idle (h : (s.tr t).Ends r) (hlen : 82 ≤ r.length)
    (hz : (s.setTr t ((s.tr t).passed r (s.reel t))).stampToMap t (r.passage (s.reel t)) = z)
    (hx : (z.tr t).xfer.phase = .idle) (hl : (z.tr t).loc.target = none) : s.closeRecord t r = z := by
  rw [State.closeRecord_passes h hlen, hz, State.xferPassage_idle hx, State.locatePassage_none hl]

theorem State.stampToMap_none (h : p.decoded = none) : s.stampToMap t p = s := by simp only [State.stampToMap, h]

theorem State.stampToMap_decoded (h : p.stamp = .decoded b f k) : s.stampToMap t p =
    s.stampReport t b f k p.start (s.tr t).reck.anchor (s.tr t).reck.drift := by
  simp only [State.stampToMap, Passage.decoded, h]

theorem State.stampReport_inactive {m : Int} {a : Anchor} {n : Nat} (h : (s.reel t).state ≠ .active) :
    s.stampReport t b f k m a n = s := by
  simp [State.stampReport, h]

/-! ### The commands -/

/-- RECORD_END_DETECTED of a record under 82 steps (R77; log 82, log 93). -/
theorem exec_noiseEnds (hp : s.powered = true) (hs : s.Settled t) (h : (s.tr t).Ends r) (hoff : (s.tr t).chan.handOver ≠ .handing)
    (hlen : r.length < 82) : ∃ s', exec (.recordEndDetected t) s = .next s' ∧ s.Becomes s' t { s.tr t with
      chan := (s.tr t).chan.toHunt, xfer := { (s.tr t).xfer with skipFirst := false },
      port := (s.tr t).port.raiseInd .noiseSeen } := by
  refine exec_becomes (f := fun s => s.doRecordEnd t) rfl hp ?_ (State.settled_iff.mp hs).congr
  have hlisten := h.listens
  rw [State.doRecordEnd_closes h]
  simp only [State.closeRecord, hlisten, hlen, if_true, hoff, decide_false, Bool.false_eq_true, if_false, State.handingLostIf, State.raiseInd, State.modChan_setTr,
    State.modPort_setTr, State.modTr_setTr, State.tr_setTr_same, State.setTr_setTr]
  rfl

/-- What a record closed leaves of the channel when nothing is being handed. -/
theorem Transport.passed_chan (hoff : x.chan.handOver ≠ .handing) (reel : ReelRecord) : (x.passed r reel).chan = x.chan.toHunt := by
  simp only [Transport.passed, hoff, if_false]
  rfl

/-- RECORD_END_DETECTED of a record that changes a transport's own record alone. -/
theorem exec_recordEnds_own (hp : s.powered = true) (hs : s.Settled t) (h : (s.tr t).Ends r) (hlen : 82 ≤ r.length)
    (hx : (s.tr t).xfer.phase = .idle) (hl : (s.tr t).loc.target = none) {q : Reckoning} {j : Port}
    (hz : (s.setTr t ((s.tr t).passed r (s.reel t))).stampToMap t (r.passage (s.reel t)) =
      s.setTr t { (s.tr t).passed r (s.reel t) with reck := q, port := j }) :
    ∃ s', exec (.recordEndDetected t) s = .next s' ∧
      s.Becomes s' t { (s.tr t).passed r (s.reel t) with reck := q, port := j } := by
  refine exec_becomes (f := fun s => s.doRecordEnd t) rfl hp ?_ (State.settled_iff.mp hs).congr
  rw [State.doRecordEnd_closes h]
  exact State.closeRecord_idle h hlen hz (by rw [State.tr_setTr_same]; exact hx) (by rw [State.tr_setTr_same]; exact hl)

end

end Sys2Proof.Machine
end

section
/-! PROOF. Records that pass while no order is at work: what each leaves of the sequence and of the map (R69, R70, R72,
R73, R84, R108 to R111, R113, R114). -/
namespace Sys2Proof.Machine

section
variable {s z : State} {t : Tr} {x : Transport} {r : RecordInProgress} {b f : Nat} {k : RecordKind} {e : Entry} {reel : ReelRecord}
  {nb : Option Nat}

theorem RecordInProgress.lowerEnd_forward (h : r.dir = .forward) : r.lowerEnd = r.start := by simp [RecordInProgress.lowerEnd, h]

/-- A record counted in SPACING, with the sequence known (R70, R72). -/
theorem Transport.passed_counted (hm : r.mode = .spacing) (hd : r.dir = .forward) (hoff : x.chan.handOver ≠ .handing)
    (hk : x.reck.nextKnown = true) (hb : x.reck.nextBlock < 16777215) (h1 : 1 ≤ x.reck.fileNumber) (hf : x.reck.fileNumber < 65535) :
    x.passed r reel = { x with
      chan := x.chan.toHunt,
      reck := { x.reck with
        nextBlock := x.reck.nextBlock + 1, fileNumber := x.reck.fileNumber + (if r.length < 84 then 1 else 0),
        lastBlock := some
          { block := some x.reck.nextBlock, start := r.start, length := r.length,
            kind := if r.length < 84 then .fileMark else .data, stamped := false,
            anchor := x.reck.anchor, bound := x.reck.bound.getD 0 } } } := by
  have hstamp : (r.passage reel).stamp = .none .spaced := by simp [RecordInProgress.passage, RecordInProgress.stamp, hm]
  have hstart : (r.passage reel).start = r.start := RecordInProgress.lowerEnd_forward hd
  have hpass := Reckoning.passage_counted (p := r.passage reel) hstamp hd hk hb h1 hf
  have hchan := Transport.passed_chan (r := r) hoff reel
  simp only [Transport.passed, hpass, hstamp, hstart] at hchan ⊢
  rw [hchan]
  rfl

/-- A record with a stamp that can be adopted (R69, R72). -/
theorem Transport.passed_stamped (hstamp : r.stamp reel = .decoded b f k) (hd : r.dir = .forward) (hoff : x.chan.handOver ≠ .handing)
    (hb : b < 16777215) (h1 : 1 ≤ f) (hf : (if k = .fileMark then f + 1 else f) ≤ 65535) :
    x.passed r reel = { x with
      chan := x.chan.toHunt, reck := x.reck.stampPassed b f k r.start r.length,
      port := x.port.raisedIf (!x.reck.expects b f) .sequenceAdopted } := by
  have hstamp' : (r.passage reel).stamp = .decoded b f k := hstamp
  have hstart : (r.passage reel).start = r.start := RecordInProgress.lowerEnd_forward hd
  have hpass := Reckoning.passage_stamped (q := x.reck) (p := r.passage reel) hstamp' hd hb h1 hf
  have hchan := Transport.passed_chan (r := r) hoff reel
  simp only [Transport.passed, hpass, hstamp', hstart] at hchan ⊢
  rw [hchan]
  rfl

/-- RECORD_END_DETECTED of a record counted without a stamp (R70, R72). -/
theorem exec_countedEnds (hp : s.powered = true) (hs : s.Settled t) (h : (s.tr t).Ends r) (hlen : 82 ≤ r.length)
    (hx : (s.tr t).xfer.phase = .idle) (hl : (s.tr t).loc.target = none) (hm : r.mode = .spacing) :
    ∃ s', exec (.recordEndDetected t) s = .next s' ∧ s.Becomes s' t ((s.tr t).passed r (s.reel t)) := by
  have hnone : (r.passage (s.reel t)).decoded = none := by
    simp [Passage.decoded, RecordInProgress.passage, RecordInProgress.stamp, hm]
  exact exec_recordEnds_own hp hs h hlen hx hl (State.stampToMap_none hnone)

/-- RECORD_END_DETECTED of a stamped record where the map is not in use (R69, R72, R108). -/
theorem exec_stampedEnds (hp : s.powered = true) (hs : s.Settled t) (h : (s.tr t).Ends r) (hlen : 82 ≤ r.length)
    (hx : (s.tr t).xfer.phase = .idle) (hl : (s.tr t).loc.target = none) (hstamp : r.stamp (s.reel t) = .decoded b f k)
    (hact : (s.reel t).state ≠ .active) :
    ∃ s', exec (.recordEndDetected t) s = .next s' ∧ s.Becomes s' t ((s.tr t).passed r (s.reel t)) := by
  refine exec_recordEnds_own hp hs h hlen hx hl ?_
  rw [State.stampToMap_decoded hstamp, State.stampReport_inactive (by rw [State.reel_setTr]; exact hact)]
  rfl

/-- RECORD_END_DETECTED of a record of which the Map Store hears. -/
theorem exec_mappedEnds (hp : s.powered = true) (hs : s.Settled t) (h : (s.tr t).Ends r) (hlen : 82 ≤ r.length)
    (hx : (s.tr t).xfer.phase = .idle) (hl : (s.tr t).loc.target = none) {j : Port} {es : List Entry}
    (hz : (s.setTr t ((s.tr t).passed r (s.reel t))).stampToMap t (r.passage (s.reel t)) =
      (s.setTr t { (s.tr t).passed r (s.reel t) with port := j }).setEntries t es) :
    ∃ s', exec (.recordEndDetected t) s = .next s' ∧ s.OnlyAt s' t ∧ s'.exchange = s.exchange ∧ s'.arb = s.arb ∧
      s'.reel t = { s.reel t with entries := es } ∧
      s'.store.poolFree = s.store.poolFree + (s.reel t).entries.length - es.length ∧
      s'.tr t = Transport.refresh { (s.tr t).passed r (s.reel t) with port := j } := by
  have hclose : s.doRecordEnd t = (s.setTr t { (s.tr t).passed r (s.reel t) with port := j }).setEntries t es := by
    rw [State.doRecordEnd_closes h]
    refine State.closeRecord_idle h hlen hz ?_ ?_
    · rw [State.tr_setEntries, State.tr_setTr_same]
      exact hx
    · rw [State.tr_setEntries, State.tr_setTr_same]
      exact hl
  refine ⟨_, exec_next (f := fun s => s.doRecordEnd t) rfl hp hclose
    (by rw [State.tr_setEntries, State.tr_setTr_same]; exact (State.settled_iff.mp hs).congr),
    State.onlyAt_finish (by simp) rfl, by simp, by simp, ?_, ?_, ?_⟩
  · simp
  · simp [State.poolFree_setEntries]
  · simp

/-! ### Confirmation (R108 to R111) -/

theorem findBlock_block (h : findBlock (s.reel t).entries b = some e) : e.block = b := by
  simpa using List.find?_some h

theorem State.stampReport_confirms {m : Int} {a : Anchor} {n : Nat} (hact : (s.reel t).state = .active)
    (he : findBlock (s.reel t).entries b = some e) (hk : e.kind ≠ .file) :
    s.stampReport t b f .data m a n = s.confirmEntry t e m a n := by
  have hagree : fileDisagrees e f .data = false := by simp [fileDisagrees, hk]
  simp only [State.stampReport, hact, if_true, he, hagree, Bool.false_eq_true, if_false]

/-- The entries of a record whose entry for a block has moved (R95, R97). -/
theorem State.moveEntry_eq {m : Int} (hm : 0 ≤ m) (s : State) : s.moveEntry t e m nb =
    (s.modPort t fun p => (p.raisedIf (decide (placeRetires (s.reel t).entries { e with position := m, bound := nb } ≠ 0)) .mapChanged).raisedIf
      (decide (m ≠ e.position)) .markMoved).setEntries t (placeEntry (s.reel t).entries { e with position := m, bound := nb }) := by
  have hclamp : clampEntry { e with position := m, bound := nb } = { e with position := m, bound := nb } := by
    rw [clampEntry, if_neg (Int.not_lt.mpr hm)]
  simp only [State.moveEntry, hclamp, State.raiseIndIf_eq, State.modPort_setTr, State.tr_setEntries, State.setTr_setEntries,
    State.tr_setTr_same, State.setTr_setTr]

/-- What the table of R109 does with the entries that the statement speaks of. -/
theorem confirmation_moves {m : Int} {a : Anchor} {beta : Nat}
    (h : (a = .anchored ∧ (e.bound ≠ none ∨ 40 < (m - e.position).natAbs) ∧ nb = none) ∨
      (a = .drifted ∧ e.bound.any (beta < ·) = true ∧ nb = some beta)) (s : State) :
    s.confirmEntry t e m a beta = s.moveEntry t e m nb := by
  obtain ⟨rfl, hfar, rfl⟩ | ⟨rfl, hmore, rfl⟩ := h
  · cases hbound : e.bound with
    | none =>
      have hfar' : ¬ (m - e.position).natAbs ≤ 40 := by
        rw [hbound] at hfar
        simpa using hfar
      simp [State.confirmEntry, confirmation, hbound, hfar']
    | some eps => simp [State.confirmEntry, confirmation, hbound]
  · cases hbound : e.bound with
    | none => simp [hbound] at hmore
    | some eps =>
      have hmore' : beta < eps := by simpa [hbound] using hmore
      simp [State.confirmEntry, confirmation, hbound, hmore', Nat.not_lt.mpr (Nat.le_of_lt hmore')]

theorem confirmation_reanchors {m : Int} {beta : Nat} (h : e.bound.getD 0 < beta) (s : State) :
    s.confirmEntry t e m .drifted beta = s.reanchorRequest t e.block m e.position (e.bound.getD 0) := by
  cases hbound : e.bound with
  | none => simp [State.confirmEntry, confirmation, hbound]
  | some eps =>
    have hless : eps < beta := by simpa [hbound] using h
    simp [State.confirmEntry, confirmation, hbound, hless]

/-- What the Map Store is told of a stamped record (R73). -/
theorem State.stampToMap_passed (hstamp : r.stamp (s.reel t) = .decoded b f k) (hd : r.dir = .forward)
    (hoff : (s.tr t).chan.handOver ≠ .handing) (hb : b < 16777215) (h1 : 1 ≤ f) (hf : (if k = .fileMark then f + 1 else f) ≤ 65535) :
    (s.setTr t ((s.tr t).passed r (s.reel t))).stampToMap t (r.passage (s.reel t)) =
      (s.setTr t ((s.tr t).passed r (s.reel t))).stampReport t b f k r.start (s.tr t).reck.anchor ((s.tr t).reck.bound.getD 0) := by
  have hstart : (r.passage (s.reel t)).start = r.start := RecordInProgress.lowerEnd_forward hd
  rw [State.stampToMap_decoded hstamp, State.tr_setTr_same, hstart, Transport.passed_stamped hstamp hd hoff hb h1 hf]
  rfl

/-- The port of a transport whose record with a stamp has passed (R69). -/
def Transport.stampedPort (x : Transport) (b f : Nat) : Port := x.port.raisedIf (!x.reck.expects b f) .sequenceAdopted

/-- RECORD_END_DETECTED of a record whose entry moves to its measured start (R109, R110). -/
theorem exec_entryMoves (hp : s.powered = true) (hs : s.Settled t) (h : (s.tr t).Ends r) (hlen : 82 ≤ r.length)
    (hx : (s.tr t).xfer.phase = .idle) (hl : (s.tr t).loc.target = none) (hd : r.dir = .forward)
    (hoff : (s.tr t).chan.handOver ≠ .handing) (hstamp : r.stamp (s.reel t) = .decoded b f .data) (hact : (s.reel t).state = .active)
    (he : findBlock (s.reel t).entries b = some e) (hk : e.kind ≠ .file) (hm : 0 ≤ r.start) (hb : b < 16777215) (h1 : 1 ≤ f)
    (hf : f ≤ 65535) (hmove : ((s.tr t).reck.anchor = .anchored ∧ (e.bound ≠ none ∨ 40 < (r.start - e.position).natAbs) ∧ nb = none) ∨
      ((s.tr t).reck.anchor = .drifted ∧ e.bound.any ((s.tr t).reck.bound.getD 0 < ·) = true ∧ nb = some ((s.tr t).reck.bound.getD 0))) :
    ∃ s', exec (.recordEndDetected t) s = .next s' ∧ s.OnlyAt s' t ∧ s'.exchange = s.exchange ∧ s'.arb = s.arb ∧
      s'.reel t = { s.reel t with entries := placeEntry (s.reel t).entries { e with position := r.start, bound := nb } } ∧
      s'.store.poolFree = s.store.poolFree + (s.reel t).entries.length -
        (placeEntry (s.reel t).entries { e with position := r.start, bound := nb }).length ∧
      s'.tr t = Transport.refresh { s.tr t with
        chan := (s.tr t).chan.toHunt, reck := (s.tr t).reck.stampPassed b f .data r.start r.length,
        port := (((s.tr t).stampedPort b f).raisedIf
          (decide (placeRetires (s.reel t).entries { e with position := r.start, bound := nb } ≠ 0)) .mapChanged).raisedIf
            (decide (r.start ≠ e.position)) .markMoved } := by
  have hpassed := Transport.passed_stamped (x := s.tr t) hstamp hd hoff hb h1 hf
  obtain ⟨s', hexec, honly, hexch, harb, hreel, hpool, htr⟩ := exec_mappedEnds hp hs h hlen hx hl
    (j := (((s.tr t).stampedPort b f).raisedIf
      (decide (placeRetires (s.reel t).entries { e with position := r.start, bound := nb } ≠ 0)) .mapChanged).raisedIf
        (decide (r.start ≠ e.position)) .markMoved)
    (es := placeEntry (s.reel t).entries { e with position := r.start, bound := nb })
    (by
      rw [State.stampToMap_passed hstamp hd hoff hb h1 hf,
        State.stampReport_confirms (by rw [State.reel_setTr]; exact hact) (by rw [State.reel_setTr]; exact he) hk,
        confirmation_moves hmove, State.moveEntry_eq hm, State.reel_setTr, State.modPort_setTr, State.tr_setTr_same, State.setTr_setTr,
        hpassed]
      rfl)
  rw [hpassed] at htr
  exact ⟨s', hexec, honly, hexch, harb, hreel, hpool, htr⟩

/-- A re-anchor of the record that has just passed against its entry (R73). -/
theorem Reckoning.reanchor_passed {q : Reckoning} {m i : Int} {n len : Nat} (ha : q.anchor = .drifted) (hn : n < q.bound.getD 0) :
    (q.stampPassed b f .data m len).reanchorEntry b m i n = { q with
      nextBlock := b + 1, nextKnown := true, fileNumber := f, position := q.position + (i - m),
      anchor := if n = 0 then .anchored else .drifted, bound := some n, eot := q.eot.map (· + (i - m)),
      lastBlock := some
        { block := some b, start := i, length := len, kind := .data, stamped := true,
          anchor := if n = 0 then .anchored else .drifted, bound := n } } := by
  have hbelow : ((q.stampPassed b f .data m len).anchor = .drifted && n < (q.stampPassed b f .data m len).drift) = true := by
    have hanchor : (q.stampPassed b f .data m len).anchor = .drifted := ha
    have hdrift : n < (q.stampPassed b f .data m len).drift := hn
    simp [hanchor, hdrift]
  rw [Reckoning.reanchorEntry, if_pos hbelow]
  simp [Reckoning.stampPassed, Reckoning.stampedLast]

/-- RECORD_END_DETECTED of a record whose entry re-anchors the reckoning (R73, R109, R111). -/
theorem exec_entryReanchors (hp : s.powered = true) (hs : s.Settled t) (h : (s.tr t).Ends r) (hlen : 82 ≤ r.length)
    (hx : (s.tr t).xfer.phase = .idle) (hl : (s.tr t).loc.target = none) (hd : r.dir = .forward)
    (hoff : (s.tr t).chan.handOver ≠ .handing) (hstamp : r.stamp (s.reel t) = .decoded b f .data) (hact : (s.reel t).state = .active)
    (he : findBlock (s.reel t).entries b = some e) (hk : e.kind ≠ .file) (hb : b < 16777215) (h1 : 1 ≤ f) (hf : f ≤ 65535)
    (ha : (s.tr t).reck.anchor = .drifted) (hless : e.bound.getD 0 < (s.tr t).reck.bound.getD 0) :
    ∃ s', exec (.recordEndDetected t) s = .next s' ∧ s.Becomes s' t { s.tr t with
      chan := (s.tr t).chan.toHunt,
      reck := ((s.tr t).reck.stampPassed b f .data r.start r.length).reanchorEntry b r.start e.position (e.bound.getD 0),
      port := (s.tr t).stampedPort b f } := by
  have hpassed := Transport.passed_stamped (x := s.tr t) hstamp hd hoff hb h1 hf
  have hx := exec_recordEnds_own hp hs h hlen hx hl
    (q := ((s.tr t).reck.stampPassed b f .data r.start r.length).reanchorEntry b r.start e.position (e.bound.getD 0))
    (j := (s.tr t).stampedPort b f) (by
      rw [State.stampToMap_passed hstamp hd hoff hb h1 hf,
        State.stampReport_confirms (by rw [State.reel_setTr]; exact hact) (by rw [State.reel_setTr]; exact he) hk, ha,
        confirmation_reanchors hless, State.reanchorRequest, State.modTr_setTr, State.tr_setTr_same, State.setTr_setTr, hpassed,
        findBlock_block he]
      rfl)
  rw [hpassed] at hx
  exact hx

/-! ### File marks (R113, R114) -/

theorem findBlock_none (h : findBlock (s.reel t).entries b = none) : ∀ g ∈ (s.reel t).entries, g.block ≠ b := fun g hg => by
  simpa using List.find?_eq_none.mp h g hg

theorem State.stampReport_mark {m : Int} {a : Anchor} {n : Nat} (hact : (s.reel t).state = .active)
    (he : findBlock (s.reel t).entries b = none) : s.stampReport t b f .fileMark m a n = s.fileStep t b f m a n true := by
  simp only [State.stampReport, hact, if_true, he]

/-- RECORD_END_DETECTED of a file mark that makes its FILE entry (R113). -/
theorem exec_markEnters (hp : s.powered = true) (hs : s.Settled t) (h : (s.tr t).Ends r) (hlen : 82 ≤ r.length)
    (hx : (s.tr t).xfer.phase = .idle) (hl : (s.tr t).loc.target = none) (hd : r.dir = .forward)
    (hoff : (s.tr t).chan.handOver ≠ .handing) (hstamp : r.stamp (s.reel t) = .decoded b f .fileMark) (hact : (s.reel t).state = .active)
    (hauto : (s.reel t).autoFile = true) (he : findBlock (s.reel t).entries b = none) (hb : b < 16777215) (h1 : 1 ≤ f)
    (ha : (s.tr t).reck.anchor ≠ .lost) (hf : f ≤ 15535) (heod : b < (s.reel t).eod.getD 16777215) (hpool : 1 ≤ s.store.poolFree)
    (hroom : (s.reel t).entries.length < 1024) (hm : 0 ≤ r.start) :
    ∃ s' n es, exec (.recordEndDetected t) s = .next s' ∧ s.OnlyAt s' t ∧ s'.exchange = s.exchange ∧ s'.arb = s.arb ∧
      es = fileEntries (s.reel t).entries (fileEntryOf b f r.start (s.tr t).reck.anchor ((s.tr t).reck.bound.getD 0) n) f ∧
      s'.reel t = { s.reel t with entries := es } ∧
      s'.store.poolFree + es.length = s.store.poolFree + (s.reel t).entries.length ∧
      s'.tr t = Transport.refresh { s.tr t with
        chan := (s.tr t).chan.toHunt, reck := (s.tr t).reck.stampPassed b f .fileMark r.start r.length,
        port := ((s.tr t).stampedPort b f).raisedIf (decide (es.length ≠ (s.reel t).entries.length + 1)) .mapChanged } := by
  have hf' : (if RecordKind.fileMark = .fileMark then f + 1 else f) ≤ 65535 := by rw [if_pos rfl]; omega
  have hpassed := Transport.passed_stamped (x := s.tr t) hstamp hd hoff hb h1 hf'
  have heod' : ((s.reel t).eod.any fun n => n ≤ b) = false := by
    cases hn : (s.reel t).eod with
    | none => rfl
    | some n =>
      rw [hn] at heod
      simpa using heod
  obtain ⟨n, es, hes, hshort, hstep⟩ := State.fileStep_makes (s := s.setTr t ((s.tr t).passed r (s.reel t))) (t := t) (b := b) (f := f)
    (start := r.start) (anchor := (s.tr t).reck.anchor) (bound := (s.tr t).reck.bound.getD 0)
    (by rw [State.reel_setTr]; exact hact) (by rw [State.reel_setTr]; exact hauto) (by rw [State.reel_setTr]; exact findBlock_none he)
    hf (by omega) (by rw [State.reel_setTr]; exact heod') ha hpool (by rw [State.reel_setTr]; exact hroom) hm
  rw [State.reel_setTr] at hes hshort hstep
  obtain ⟨s', hexec, honly, hexch, harb, hreel, hcount, htr⟩ := exec_mappedEnds hp hs h hlen hx hl
    (j := ((s.tr t).stampedPort b f).raisedIf (decide (es.length ≠ (s.reel t).entries.length + 1)) .mapChanged) (es := es)
    (by
      rw [State.stampToMap_passed hstamp hd hoff hb h1 hf',
        State.stampReport_mark (by rw [State.reel_setTr]; exact hact) (by rw [State.reel_setTr]; exact he), hstep, State.modPort_setTr,
        State.tr_setEntries, State.tr_setTr_same, State.setTr_setEntries, State.setTr_setTr, hpassed]
      rfl)
  rw [hpassed] at htr
  exact ⟨s', n, es, hexec, honly, hexch, harb, hes, hreel, by omega, htr⟩

/-- RECORD_END_DETECTED of a file mark that makes no entry (R114). -/
theorem exec_markRefused (hp : s.powered = true) (hs : s.Settled t) (h : (s.tr t).Ends r) (hlen : 82 ≤ r.length)
    (hx : (s.tr t).xfer.phase = .idle) (hl : (s.tr t).loc.target = none) (hd : r.dir = .forward)
    (hoff : (s.tr t).chan.handOver ≠ .handing) (hstamp : r.stamp (s.reel t) = .decoded b f .fileMark) (hact : (s.reel t).state = .active)
    (hauto : (s.reel t).autoFile = true) (he : findBlock (s.reel t).entries b = none) (hb : b < 16777215) (h1 : 1 ≤ f) (hf : f < 65535)
    (hno : (s.tr t).reck.anchor = .lost ∨ 15535 < f ∨ (s.reel t).eod.any (· ≤ b) = true) :
    ∃ s', exec (.recordEndDetected t) s = .next s' ∧ s.Becomes s' t { s.tr t with
      chan := (s.tr t).chan.toHunt, reck := (s.tr t).reck.stampPassed b f .fileMark r.start r.length,
      port := ((s.tr t).stampedPort b f).raiseInd .mapNotUpdated } := by
  have hf' : (if RecordKind.fileMark = .fileMark then f + 1 else f) ≤ 65535 := by rw [if_pos rfl]; omega
  have hpassed := Transport.passed_stamped (x := s.tr t) hstamp hd hoff hb h1 hf'
  have hx := exec_recordEnds_own hp hs h hlen hx hl (q := (s.tr t).reck.stampPassed b f .fileMark r.start r.length)
    (j := ((s.tr t).stampedPort b f).raiseInd .mapNotUpdated) (by
      rw [State.stampToMap_passed hstamp hd hoff hb h1 hf',
        State.stampReport_mark (by rw [State.reel_setTr]; exact hact) (by rw [State.reel_setTr]; exact he),
        State.fileStep_refuses (by rw [State.reel_setTr]; exact hact) (by rw [State.reel_setTr]; exact hauto)
          (by rw [State.reel_setTr]; exact findBlock_none he) (by rw [State.reel_setTr]; exact .inr hno),
        State.raiseInd, State.modPort_setTr, State.tr_setTr_same, State.setTr_setTr, hpassed]
      rfl)
  rw [hpassed] at hx
  exact hx

end

end Sys2Proof.Machine
end

section
/-! PROOF. A READ's records and BLANK (R78, R84, R155, R158, R160). -/
namespace Sys2Proof.Machine

section
variable {s z : State} {t : Tr} {x : Transport} {r : RecordInProgress} {p : Passage} {nt : Bool} {j : Option Condition}

/-! ### A READ judges its record (R160) -/

/-- A report that a READ takes for a file mark: by its stamp, or without one by its length (R160). -/
def Passage.FileMark (p : Passage) : Prop :=
  p.decoded.map (·.2.2) = some .fileMark ∨ (p.decoded = none ∧ p.length < 84 ∧ p.dataLength.getD 0 = 0)

/-- The condition that the record gives a READ to hold, or none of a data record (R160). -/
def Passage.Judged (p : Passage) (j : Option Condition) : Prop :=
  (p.FileMark ∧ j = some .fileMark) ∨ (¬ p.FileMark ∧ p.check ≠ .good ∧ j = some .dataCheck) ∨
    (¬ p.FileMark ∧ p.check = .good ∧ j = none)

theorem readJudgement_fileMark : (match p.stamp with
    | .decoded _ _ .fileMark => true
    | .decoded _ _ .data => false
    | .none _ => p.length < 84 && p.dataLength.getD 0 = 0) = true ↔ p.FileMark := by
  cases hs : p.stamp with
  | decoded b f k => cases k <;> simp [Passage.FileMark, Passage.decoded, hs]
  | none w => simp [Passage.FileMark, Passage.decoded, hs]

theorem readJudgement_eq (h : p.Judged j) : readJudgement p = j := by
  unfold readJudgement
  obtain ⟨hmark, rfl⟩ | ⟨hmark, hcheck, rfl⟩ | ⟨hmark, hcheck, rfl⟩ := h
  · exact if_pos (readJudgement_fileMark.mpr hmark)
  · refine (if_neg (mt readJudgement_fileMark.mp hmark)).trans ?_
    rw [if_pos hcheck]
  · refine (if_neg (mt readJudgement_fileMark.mp hmark)).trans ?_
    rw [if_neg (not_not.mpr hcheck)]

/-- The Transfer Unit once a READ has taken a record as its own (R160; log 39). -/
def Transfer.judged (w : Transfer) (p : Passage) (nt : Bool) (j : Option Condition) : Transfer :=
  { w with
    held := j, recordsLeft := if j = none then w.recordsLeft - 1 else w.recordsLeft,
    resultBytes := if nt then min 65535 (w.resultBytes + p.dataLength.getD 0) else w.resultBytes,
    own := if j = none ∧ p.stamp = .none .bad then w.own ||| indicatorBit .unstamped else w.own }

theorem Transfer.judged_none {w : Transfer} (h : w.held = none) : w.judged p nt none = { w with
    recordsLeft := if (none : Option Condition) = none then w.recordsLeft - 1 else w.recordsLeft,
    resultBytes := if nt then min 65535 (w.resultBytes + p.dataLength.getD 0) else w.resultBytes,
    own := if (none : Option Condition) = none ∧ p.stamp = .none .bad then w.own ||| indicatorBit .unstamped else w.own } := by
  simp only [Transfer.judged, h]

theorem Transfer.readPassage_eq {w : Transfer} (hj : readJudgement p = j) (hheld : w.held = none) :
    w.readPassage p nt = w.judged p nt j := by
  cases j with
  | none =>
    by_cases hbad : p.stamp = .none .bad
    · cases nt <;> simp [Transfer.readPassage, Transfer.judged, hj, hbad, hheld]
    · cases nt <;> simp [Transfer.readPassage, Transfer.judged, hj, hbad, hheld]
  | some c => cases nt <;> simp [Transfer.readPassage, Transfer.judged, hj, hheld, Transfer.hold]

/-! ### What a READ then asks for (R41, R155, R160) -/

/-- The data request of a READ whose bytes belong to records that have ended (R155; log 65). -/
theorem State.xferTest_read (ho : (s.tr t).xfer.order = .read nt) (hq : (s.tr t).xfer.quiet = false)
    (ht : 1 ≤ (s.tr t).drive.active.threshold) (hh : (s.tr t).chan.handOver ≠ .handing) : s.xferTest t = s.setArb
      (if nt = true ∨ (s.tr t).xfer.fifo = [] ∨ s.dataBusy t = true then s.arb
        else { s.arb with data := s.arb.data.set t (some .readBurst) }) := by
  cases hb : s.dataBusy t
  · rw [State.xferTest_eq hb]
    cases nt with
    | true => simp [Transport.wantsBurst, hq, ho, Arbiter.asked]
    | false =>
      by_cases hf : (s.tr t).xfer.fifo = []
      · have hno : ¬ (s.tr t).drive.active.threshold ≤ 0 := by omega
        simp [Transport.wantsBurst, hq, ho, hf, hno, Arbiter.asked]
      · simp [Transport.wantsBurst, hq, ho, hf, hh, Transport.handing, Arbiter.asked]
  · simp only [State.xferTest, hb, or_true, if_true]
    rfl

/-- A transport whose READ runs and takes the record that ends as its own. -/
structure Transport.Reads (x : Transport) (nt : Bool) : Prop where
  handOver : x.chan.handOver = (if nt then .off else .handing)
  order : x.xfer.order = .read nt
  running : x.xfer.phase = .running
  own : x.xfer.skipFirst = false
  held : x.xfer.held = none
  asks : x.xfer.quiet = false
  threshold : 1 ≤ x.drive.active.threshold
  noLocate : x.loc.target = none

theorem State.stampToMap_inactive (h : (s.reel t).state ≠ .active) : s.stampToMap t p = s := by
  unfold State.stampToMap
  split
  · exact State.stampReport_inactive h
  · rfl

/-- The record of a transport once a READ has judged the record that has passed. -/
def Transport.readJudged (x : Transport) (r : RecordInProgress) (reel : ReelRecord) (nt : Bool) (j : Option Condition) : Transport :=
  { x.passed r reel with xfer := x.xfer.judged (r.passage reel) nt j }

theorem State.closeRecord_reads (h : (s.tr t).Ends r) (hlen : 82 ≤ r.length) (hact : (s.reel t).state ≠ .active)
    (hr : (s.tr t).Reads nt) (hj : (r.passage (s.reel t)).Judged j) : s.closeRecord t r =
      (let z := s.setTr t ((s.tr t).readJudged r (s.reel t) nt j)
       (if (z.tr t).xfer.readOver nt then z.readEnd t
        else (z.modChan t fun c => { c with handOver := if nt then c.handOver else .asked }).xferTest t).locatePassage t
          (r.passage (s.reel t))) := by
  have hj' := readJudgement_eq hj
  have hread : ((s.tr t).passed r (s.reel t)).xfer = (s.tr t).xfer := rfl
  rw [State.closeRecord_passes h hlen, State.stampToMap_inactive (by rw [State.reel_setTr]; exact hact)]
  congr 1
  generalize hx : (s.tr t).passed r (s.reel t) = x at hread
  obtain ⟨-, horder, hphase, hskip, hheld, -, -, -⟩ := hr
  have hpass : (s.setTr t x).xferPassage t (r.passage (s.reel t)) = (s.setTr t x).passageRead t (r.passage (s.reel t)) nt := by
    simp only [State.xferPassage, State.tr_setTr_same, hread, hphase, hskip, horder, if_true, Bool.false_eq_true, if_false]
  have hjudged : (s.setTr t x).modXfer t (·.readPassage (r.passage (s.reel t)) nt) =
      s.setTr t ((s.tr t).readJudged r (s.reel t) nt j) := by
    rw [State.modXfer_setTr, State.tr_setTr_same, State.setTr_setTr, hread, Transfer.readPassage_eq hj' hheld, Transport.readJudged, hx]
  rw [hpass, State.passageRead, hjudged]

/-- The data requests after a record's end of a READ. -/
def State.readAsks (s : State) (t : Tr) (nt : Bool) : Arbiter :=
  if nt = true ∨ (s.tr t).xfer.fifo = [] ∨ s.dataBusy t = true then s.arb
  else { s.arb with data := s.arb.data.set t (some .readBurst) }

/-- What RECORD END leaves of a Drive Unit at speed (R41). -/
theorem Drive.recordEnd_run {d : Drive} (hp : d.phase = .run) (hk : d.stopKind = .none) (hh : d.active.h ≠ 0) :
    d.recordEnd = { d with holdOver := some d.active.h, stopTarget := none } := by
  simp [Drive.recordEnd, hp, hk, hh]

/-- A command that changes the record of its transport and the Arbiter. -/
theorem exec_recordAsks {y : Transport} {a : Arbiter} (hp : s.powered = true) (h : (s.tr t).Ends r)
    (hz : s.closeRecord t r = (s.setTr t y).setArb a) (hy : y.Settled) : ∃ s', exec (.recordEndDetected t) s = .next s' ∧
      s.OnlyAt s' t ∧ s'.store = s.store ∧ s'.exchange = s.exchange ∧ s'.arb = a ∧ s'.tr t = y.refresh := by
  refine ⟨_, exec_next (f := fun s => s.doRecordEnd t) rfl hp ((State.doRecordEnd_closes h).trans hz)
    (by rw [State.tr_setArb, State.tr_setTr_same]; exact hy), State.onlyAt_finish (by simp) rfl, ?_, ?_, ?_, ?_⟩
  · simp
  · simp
  · simp
  · simp

/-- RECORD_END_DETECTED of the record with which a READ's motion ends (R160; log 70). -/
theorem exec_readEnds (hp : s.powered = true) (h : (s.tr t).Ends r) (hlen : 82 ≤ r.length)
    (hact : (s.reel t).state ≠ .active) (hr : (s.tr t).Reads nt) (hj : (r.passage (s.reel t)).Judged j)
    (hphase : (s.tr t).drive.phase = .run) (hkind : (s.tr t).drive.stopKind = .none) (hh : (s.tr t).drive.active.h ≠ 0)
    (hwatch : (s.tr t).chan.blankWatch.all (·.1 = .transfer) = true)
    (hover : j.isSome = true ∨ (s.tr t).xfer.recordsLeft ≤ 1 ∨ (nt = false ∧ (s.tr t).xfer.roomLeft = 0)) :
    ∃ s', exec (.recordEndDetected t) s = .next s' ∧ s.OnlyAt s' t ∧ s'.store = s.store ∧ s'.exchange = s.exchange ∧
      s'.arb = s.readAsks t nt ∧ s'.tr t = Transport.refresh { (s.tr t).readJudged r (s.reel t) nt j with
        chan := { (s.tr t).chan.toHunt with blankWatch := none, handOver := .off },
        drive := { (s.tr t).drive with holdOver := some (s.tr t).drive.active.h, stopTarget := none },
        xfer := { (s.tr t).xfer.judged (r.passage (s.reel t)) nt j with phase := .draining } } := by
  have hend : ((s.tr t).xfer.judged (r.passage (s.reel t)) nt j).readOver nt = true := by
    simp only [Transfer.readOver, Transfer.judged, Bool.or_eq_true, Bool.and_eq_true, Bool.not_eq_true']
    cases j with
    | some c => simp
    | none =>
      simp only [Option.isSome_none, Bool.false_eq_true, false_or] at hover
      obtain hfew | ⟨hno, hroom⟩ := hover
      · refine .inl (.inr ?_)
        simp
        omega
      · exact .inr ⟨hno, decide_eq_true hroom⟩
  have hoff : ({ ((s.tr t).passed r (s.reel t)).chan.watchOff .transfer with handOver := .off } : Channel) =
      { (s.tr t).chan.toHunt with blankWatch := none, handOver := .off } := by
    have hnone : (s.tr t).chan.blankWatch.filter (fun w => w.1 ≠ .transfer) = none := by
      cases hw : (s.tr t).chan.blankWatch with
      | none => rfl
      | some w =>
        rw [hw] at hwatch
        simp at hwatch
        simp [hwatch]
    simp only [Channel.watchOff, Transport.passed, Channel.toHunt, hnone]
  refine exec_recordAsks hp h ?_ (.of_moving (Drive.atRest_of_phase (by simp [hphase])))
  rw [State.closeRecord_reads h hlen hact hr hj]
  have hend' : ((s.tr t).readJudged r (s.reel t) nt j).xfer.readOver nt = true := hend
  have hdrive : ((s.tr t).readJudged r (s.reel t) nt j).drive.recordEnd =
      { (s.tr t).drive with holdOver := some (s.tr t).drive.active.h, stopTarget := none } := Drive.recordEnd_run hphase hkind hh
  have hchan : ((s.tr t).readJudged r (s.reel t) nt j).chan = ((s.tr t).passed r (s.reel t)).chan := rfl
  simp only [State.tr_setTr_same, hend', if_true, State.readEnd, State.modTr_setTr, State.setTr_setTr, Transport.recordEnd, hdrive, hchan, hoff]
  rw [State.xferTest_read (nt := nt) (by rw [State.tr_setTr_same]; exact hr.order) (by rw [State.tr_setTr_same]; exact hr.asks)
    (by rw [State.tr_setTr_same]; exact hr.threshold) (by rw [State.tr_setTr_same]; simp)]
  rw [State.locatePassage_none (by rw [State.tr_setArb, State.tr_setTr_same]; exact hr.noLocate), State.tr_setTr_same]
  rfl

/-- RECORD_END_DETECTED of a record after which a READ wants another (R160). -/
theorem exec_readGoesOn (hp : s.powered = true) (hs : s.Settled t) (h : (s.tr t).Ends r) (hlen : 82 ≤ r.length)
    (hact : (s.reel t).state ≠ .active) (hr : (s.tr t).Reads nt) (hj : (r.passage (s.reel t)).Judged none)
    (hleft : 2 ≤ (s.tr t).xfer.recordsLeft) (hroom : nt = true ∨ (s.tr t).xfer.roomLeft ≠ 0) :
    ∃ s', exec (.recordEndDetected t) s = .next s' ∧ s.OnlyAt s' t ∧ s'.store = s.store ∧ s'.exchange = s.exchange ∧
      s'.arb = s.readAsks t nt ∧ s'.tr t = Transport.refresh { (s.tr t).readJudged r (s.reel t) nt none with
        chan := { (s.tr t).chan.toHunt with handOver := if nt then .off else .asked } } := by
  have hmore : ((s.tr t).readJudged r (s.reel t) nt none).xfer.readOver nt = false := by
    have hone : ¬ (s.tr t).xfer.recordsLeft - 1 = 0 := by omega
    change ((s.tr t).xfer.judged (r.passage (s.reel t)) nt none).readOver nt = false
    obtain hnt | hroom := hroom
    · simp [Transfer.readOver, Transfer.judged, hone, hnt]
    · simp [Transfer.readOver, Transfer.judged, hone, hroom]
  have hasked : ({ ((s.tr t).readJudged r (s.reel t) nt none).chan with
      handOver := if nt then ((s.tr t).readJudged r (s.reel t) nt none).chan.handOver else .asked } : Channel) =
        { (s.tr t).chan.toHunt with handOver := if nt then .off else .asked } := by
    have hhand := hr.handOver
    cases nt
    · rfl
    · simp only [if_true] at hhand
      simp [Transport.readJudged, Transport.passed, hhand]
  refine exec_recordAsks hp h ?_ (State.settled_iff.mp hs).congr
  rw [State.closeRecord_reads h hlen hact hr hj]
  simp only [State.tr_setTr_same, hmore, Bool.false_eq_true, if_false, State.modChan_setTr, State.setTr_setTr, hasked]
  rw [State.xferTest_read (nt := nt) (by rw [State.tr_setTr_same]; exact hr.order) (by rw [State.tr_setTr_same]; exact hr.asks)
    (by rw [State.tr_setTr_same]; exact hr.threshold) (by rw [State.tr_setTr_same]; cases nt <;> simp)]
  rw [State.locatePassage_none (by rw [State.tr_setArb, State.tr_setTr_same]; exact hr.noLocate), State.tr_setTr_same]
  rfl

/-! ### BLANK (R78, R160; log 41, log 70) -/

theorem exec_blankRead {n : Nat} (hp : s.powered = true) (hw : (s.tr t).chan.blankWatch = some (.transfer, n)) (hn : 60000 ≤ n)
    (hx : (s.tr t).xfer.phase = .running) (hd : (s.tr t).drive.phase = .run) :
    ∃ s', exec (.blank t) s = .next s' ∧ s.Becomes s' t { s.tr t with
      chan := { (s.tr t).chan with blankWatch := none }, xfer := { (s.tr t).xfer with phase := .ending, held := some .blankTape },
      drive := { (s.tr t).drive with phase := .decel, holdOver := none, stopTarget := none, endedBy := .none, requester := .transfer } } := by
  refine exec_becomes (f := fun s => s.doBlank t) rfl hp ?_ (.of_moving (Drive.atRest_of_phase (by simp)))
  have hdue : (s.tr t).chan.blankDue = true := by simp [Channel.blankDue, hw, hn]
  simp [State.doBlank, hdue, hw, State.modChan_setTr, State.modTr_setTr, Transport.xferBlank, hx, Transport.xferStopWith, Transport.stop,
    Drive.stop, Drive.decel, hd]

end

/-- Settles O49. -/
theorem detectorReports : Obligations.DetectorReports := by
  intro s t hp hs
  refine ⟨fun r hphase hrecord hq => ?_, fun r hphase hrecord hlow hlisten hoff hlen => exec_noiseEnds hp hs ⟨hphase, hrecord, hlow, hlisten⟩ hoff hlen,
    fun r hphase hrecord hlow hlisten hlen hd hoff hx hl hm hk hb h1 hf => ?_,
    fun r b f k hphase hrecord hlow hlisten hlen hd hoff hx hl hstamp hact hb h1 hf => ?_,
    fun r b f e nb hphase hrecord hlow hlisten hlen hd hoff hx hl hstamp hact he hk hm hb h1 hf hmove => ?_,
    fun r b f e hphase hrecord hlow hlisten hlen hd hoff hx hl hstamp hact he hk hb h1 hf ha hless _ _ => ?_,
    fun r b f hphase hrecord hlow hlisten hlen hd hoff hx hl hstamp hact hauto he hb h1 ha hf heod hpool hroom hm => ?_,
    fun r b f hphase hrecord hlow hlisten hlen hd hoff hx hl hstamp hact hauto he hb h1 hf hno =>
      exec_markRefused hp hs ⟨hphase, hrecord, hlow, hlisten⟩ hlen hx hl hd hoff hstamp hact hauto he hb h1 hf hno,
    fun r nt j hphase hrecord hlow hlisten hlen _ hact hl hhand ho hrun hskip hheld hquiet ht hj hdrive hkind hh hwatch hover => ?_,
    fun r nt j hphase hrecord hlow hlisten hlen _ hact hl hhand ho hrun hskip hheld hquiet ht hj hnone hleft hroom => ?_,
    fun n hw hn hx hd => exec_blankRead hp hw hn hx hd⟩
  · refine exec_becomes (f := fun s => s.doQualified t) rfl hp ?_ (State.settled_iff.mp hs).congr
    have hdue : (s.tr t).chan.qualifiedDue = true := by simp [Channel.qualifiedDue, hphase, hrecord, hq]
    simp only [State.doQualified, hdue, if_true, State.modChan_setTr, Channel.qualified]
  · have hx := exec_countedEnds hp hs ⟨hphase, hrecord, hlow, hlisten⟩ hlen hx hl hm
    rw [Transport.passed_counted hm hd hoff hk hb h1 hf] at hx
    exact hx
  · have hx := exec_stampedEnds hp hs ⟨hphase, hrecord, hlow, hlisten⟩ hlen hx hl hstamp hact
    rw [Transport.passed_stamped hstamp hd hoff hb h1 hf] at hx
    exact hx
  · obtain ⟨s', hexec, honly, hexch, harb, hreel, hpool, htr⟩ := exec_entryMoves hp hs ⟨hphase, hrecord, hlow, hlisten⟩ hlen hx hl hd hoff hstamp hact he
      hk hm hb h1 hf hmove
    have hblock : e.block = b := findBlock_block he
    subst hblock
    exact ⟨s', hexec, honly, hexch, harb, by rw [hreel, placeEntry_eq], by rw [hreel]; exact hpool, htr⟩
  · have hx := exec_entryReanchors hp hs ⟨hphase, hrecord, hlow, hlisten⟩ hlen hx hl hd hoff hstamp hact he hk hb h1 hf ha hless
    rw [Reckoning.reanchor_passed ha hless] at hx
    exact hx
  · obtain ⟨s', n, es, hexec, honly, hexch, harb, hes, hreel, hcount, htr⟩ := exec_markEnters hp hs ⟨hphase, hrecord, hlow, hlisten⟩ hlen hx hl hd hoff
      hstamp hact hauto he hb h1 ha hf heod hpool hroom hm
    refine ⟨s', hexec, honly, hexch, harb, ⟨n, by rw [hreel, hes]; rfl⟩, by rw [hreel]; exact hcount, by rw [hreel]; exact htr⟩
  · exact exec_readEnds hp ⟨hphase, hrecord, hlow, hlisten⟩ hlen hact ⟨hhand, ho, hrun, hskip, hheld, hquiet, ht, hl⟩ hj hdrive hkind hh hwatch hover
  · subst hnone
    have hx := exec_readGoesOn hp hs ⟨hphase, hrecord, hlow, hlisten⟩ hlen hact ⟨hhand, ho, hrun, hskip, hheld, hquiet, ht, hl⟩ hj hleft hroom
    rw [Transport.readJudged, Transfer.judged_none hheld] at hx
    exact hx

end Sys2Proof.Machine
end

section
/-! PROOF. The steps of writing and the report of a record written (R41, R71, R72, R86, R88, R96, R97, R107, R113, R114,
R165). -/
namespace Sys2Proof.Machine

section
variable {s z : State} {t : Tr} {x y : Transport} {f : Formation} {R : ReelRecord} {i : BitVec 16} {cond : Condition}

/-! ### An order of the Transfer Unit that ends with a change of the map (R107, R154) -/

/-- What a command leaves that ends the order of the Transfer Unit and replaces the reel record. -/
structure State.TransferEndedMapped (s s' : State) (t : Tr) (x : Transport) (R : ReelRecord) (cond : Condition) : Prop where
  only : s.OnlyAt s' t
  exchange : s'.exchange = s.exchange
  reel : s'.reel t = R
  pool : s'.store.poolFree = s.store.poolFree + (s.reel t).entries.length - R.entries.length
  reck : (s'.tr t).reck = x.reck
  holdOver : (s'.tr t).drive.holdOver = x.drive.holdOver
  xfer : (s'.tr t).xfer = .idle
  formation : (s'.tr t).chan.formation = x.chan.formation
  terminates : s.Terminates s' t cond (transferCount x) (signedLong (lastBlockStart x.reck)) (x.port.indicators ||| x.xfer.own)

theorem exec_transferEndsMapped {c : Instr} {g : State → State} (hi : exec c s = runTr t s g) (hp : s.powered = true) (hw : (s.tr t).Working)
    (hg : g s = ((s.setReel t R).setTr t x).xferEnd t cond) (hport : x.port = { (s.tr t).port with indicators := i })
    (hctl : x.ctl = (s.tr t).ctl) (hset : x.transferOver.Settled) (hc : transferCount x ≤ 65535) :
    ∃ s', exec c s = .next s' ∧ s.TransferEndedMapped s' t x R cond := by
  have hmay : x.MayEnd := by
    have h := hw.mayEnd
    rw [Transport.MayEnd, hport, hctl]
    exact h
  have hreport : x.transferOver.Reporting := ⟨hmay.1, rfl, rfl, hmay.2.2.1⟩
  have hnotice : x.port.stopNotice = false := by
    rw [hport]
    exact hw.2.2.1
  rw [State.xferEnd_eq (by rw [State.tr_setTr_same]; exact hmay) (by rw [State.tr_setTr_same]; exact hc),
    State.tr_setTr_same, faultStopCondition_unnoticed hnotice] at hg
  obtain ⟨s', hx, honly, hexch, hstore, -, htr, hterm⟩ := exec_ended
    (z := (((s.setReel t R).setTr t x).withdrawData t).setTr t x.transferOver) hi hp hg (by simp) (by simp)
    (by
      rw [State.tr_setTr_same]
      exact ⟨hreport, hset, by change x.port.index = _; rw [hport]⟩) hc rfl
  rw [State.tr_setTr_same] at htr hterm
  refine ⟨s', hx, honly, by simpa using hexch, ?_, ?_, ?_, ?_, ?_, ?_, hterm⟩
  · have hreel : s'.reel t = ((((s.setReel t R).setTr t x).withdrawData t).setTr t x.transferOver).reel t :=
      congrArg (fun m : MapStore => m.reels.get t) hstore
    rw [hreel]
    simp
  · rw [hstore]
    rfl
  · exact (congrArg Transport.reck htr).trans (Transport.refresh_reck _)
  · exact (congrArg (fun y : Transport => y.drive.holdOver) htr).trans (by simp [Transport.transferOver])
  · exact (congrArg Transport.xfer htr).trans (Transport.refresh_xfer _)
  · exact (congrArg (fun y : Transport => y.chan.formation) htr).trans rfl

/-! ### The report of a record written (R71, R88, R165) -/

/-- The conditions under which a whole record is reported to a write that goes on to end with it. -/
structure Transport.Reports (x : Transport) (f : Formation) : Prop where
  formation : x.chan.formation = some f
  after : f.phase = .after
  steps : 60 ≤ f.ambleSteps
  fill : f.fill = false
  cut : f.cut = false
  writing : x.xfer.phase = .writing
  run : x.drive.phase = .run
  kind : x.drive.stopKind = .none
  overrun : 0 < x.drive.active.h

/-- The record of a transport whose Position Reckoning has taken the report (R71). -/
def Transport.reported (x : Transport) (f : Formation) : Transport :=
  { x with chan := { x.chan with formation := none }, reck := x.reck.written (f.report f.readBack) }

/-- The record of a transport whose write ends with the report, before the termination (R41, R165). -/
def Transport.writeOver (x : Transport) (f : Formation) (i : BitVec 16) : Transport :=
  { x.reported f with
    port := { x.port with indicators := i }, drive := { x.drive with holdOver := some x.drive.active.h, stopTarget := none } }

theorem Formation.readBack_checked (f : Formation) : f.readBack = .good ∨ f.readBack = .bad := by
  unfold Formation.readBack
  split
  · exact .inl rfl
  · exact .inr rfl

theorem State.doWrittenReport_reports (h : (s.tr t).Reports f) : s.doWrittenReport t =
    ((s.setTr t ((s.tr t).reported f)).mapWritten t (f.report f.readBack) (s.tr t).reck.anchor (s.tr t).reck.drift).xferWritten t
      (f.report f.readBack) := by
  obtain ⟨hf, hphase, hsteps, -⟩ := h
  have hdue : (s.tr t).chan.reportDue = true := by simp [Channel.reportDue, hf, hphase, hsteps]
  simp only [State.doWrittenReport, hdue, if_true, hf, State.deliverWritten, State.modChan_setTr, State.modTr_setTr, State.tr_setTr_same,
    State.setTr_setTr]
  rfl

/-- A whole record reported to a write in WRITING ends it (R165). -/
theorem State.xferWritten_ends (hx : (s.tr t).xfer.phase = .writing) (hfill : f.fill = false) (hcut : f.cut = false) :
    s.xferWritten t (f.report f.readBack) = (s.modTr t Transport.recordEnd).xferEnd t
      (if f.readBack = .good then .normal else .writeCheck) := by
  have hearly : (f.report f.readBack).endedEarly = false := by simp [Formation.report, Formation.endedEarly, hfill, hcut]
  have hread : (f.report f.readBack).readBack = f.readBack := rfl
  have hchecked : f.readBack ≠ .notChecked := by
    obtain h | h := f.readBack_checked <;> simp [h]
  have hsame : (s.modXfer t fun y => y) = s := State.setTr_tr s t
  simp only [State.xferWritten, hx, hearly, hread, hchecked, decide_false, Bool.or_self, Bool.false_eq_true, if_false, hsame, writeCondition]

/-- WRITTEN_RECORD_REPORT of a whole record in a write, by what it makes of the map. -/
theorem exec_reports (hp : s.powered = true) (hw : (s.tr t).Working) (h : (s.tr t).Reports f)
    (hmap : (s.setTr t ((s.tr t).reported f)).mapWritten t (f.report f.readBack) (s.tr t).reck.anchor (s.tr t).reck.drift =
      (s.setTr t { (s.tr t).reported f with port := { (s.tr t).port with indicators := i } }).setReel t R)
    (hc : transferCount (s.tr t) ≤ 65535) : ∃ s', exec (.writtenRecordReport t) s = .next s' ∧
      s.TransferEndedMapped s' t ((s.tr t).writeOver f i) R (if f.readBack = .good then .normal else .writeCheck) := by
  have hreports := State.doWrittenReport_reports h
  obtain ⟨-, -, -, hfill, hcut, hwriting, hrun, hkind, hover⟩ := h
  have hdrive := Drive.recordEnd_run hrun hkind (Nat.pos_iff_ne_zero.mp hover)
  refine exec_transferEndsMapped (g := fun s => s.doWrittenReport t) (i := i) rfl hp hw ?_ rfl rfl
    (.of_moving (Drive.atRest_of_phase ?_)) hc
  · rw [hreports, hmap, State.xferWritten_ends (by rw [State.tr_setReel, State.tr_setTr_same]; exact hwriting) hfill hcut, State.modTr_setTr,
      State.tr_setReel, State.tr_setTr_same, State.setTr_setReel, State.setTr_setTr, State.setTr_setReel]
    have hend : Transport.recordEnd { (s.tr t).reported f with port := { (s.tr t).port with indicators := i } } = (s.tr t).writeOver f i := by
      simp only [Transport.recordEnd, Transport.reported, hdrive, Transport.writeOver]
    rw [hend]
  · change (s.tr t).drive.phase ≠ .stopped
    simp [hrun]

/-- Position Reckoning after the report of a record whose file number stays in its range (R71, R72; log 71). -/
theorem Reckoning.written_report {q : Reckoning} (hf : (if f.kind = .fileMark then f.file + 1 else f.file) ≤ 65535) :
    q.written (f.report f.readBack) = { q with
      nextBlock := f.block + 1, fileNumber := if f.kind = .fileMark then f.file + 1 else f.file,
      lastBlock := some
        { block := some f.block, start := f.start, length := f.steps, kind := f.kind, stamped := true, anchor := q.anchor,
          bound := q.bound.getD 0 } } := by
  cases hk : f.kind with
  | data =>
    rw [hk] at hf
    have hin : ¬ 65535 < f.file := by simpa using hf
    simp [Reckoning.written, Formation.report, hk, hin, Reckoning.drift]
  | fileMark =>
    rw [hk] at hf
    have hin : ¬ 65535 < f.file + 1 := by simpa using hf
    simp [Reckoning.written, Formation.report, hk, hin, Reckoning.drift]

theorem lastBlockStart_written (q : Reckoning) : lastBlockStart (q.written (f.report f.readBack)) =
    if q.anchor = .lost then 0 else f.start := by
  simp [lastBlockStart, Reckoning.written, Formation.report]
  rfl

/-! ### What the report makes of the map (R96, R107, R113, R114) -/

/-- The reel record once EOD has been set behind a block (R96, R105). -/
def ReelRecord.endsAt (r : ReelRecord) (n : Nat) : ReelRecord :=
  { r with entries := r.entries.filter (·.block < n), eod := some n }

theorem State.setEod_eq {n : Nat} (hp : (s.tr t).port.pointer = .inFlight) : s.setEod t n = (s.setTr t { s.tr t with
    port := { (s.tr t).port with
      indicators := if (s.reel t).entries.any (fun e => n ≤ e.block) then (s.tr t).port.indicators ||| 4#16
        else (s.tr t).port.indicators } }).setReel t ((s.reel t).endsAt n) := by
  simp only [State.setEod, State.raiseIndIf_eq, State.modPort_setTr, State.tr_setReel, State.setTr_setReel, Port.raisedIf_mapChanged hp]
  rfl

/-- With every entry below the record of a file mark, EOD behind it retires none. -/
theorem ReelRecord.endsAt_below {r : ReelRecord} {n : Nat} (h : ∀ g ∈ r.entries, g.block < n) :
    r.endsAt (n + 1) = { r with eod := some (n + 1) } ∧ (r.entries.any fun e => n + 1 ≤ e.block) = false := by
  have hkeep : r.entries.filter (·.block < n + 1) = r.entries := by
    rw [List.filter_eq_self]
    intro g hg
    simpa using Nat.lt_succ_of_lt (h g hg)
  refine ⟨by rw [ReelRecord.endsAt, hkeep], ?_⟩
  rw [List.any_eq_false]
  intro g hg
  have := h g hg
  simp
  omega

theorem State.setEod_behind {n : Nat} (hp : (s.tr t).port.pointer = .inFlight) (h : ∀ g ∈ (s.reel t).entries, g.block < n) :
    s.setEod t (n + 1) = s.setReel t { s.reel t with eod := some (n + 1) } := by
  obtain ⟨heod, hany⟩ := ReelRecord.endsAt_below h
  rw [State.setEod_eq hp, heod, hany]
  simp only [Bool.false_eq_true, if_false]
  exact congrArg (fun z : State => z.setReel t { s.reel t with eod := some (n + 1) }) (State.setTr_tr s t)

theorem State.mapWritten_data {w : WrittenReport} {a : Anchor} {n : Nat} (hact : (s.reel t).state = .active) (hk : w.kind = .data) :
    s.mapWritten t w a n = s.setEod t (w.block + 1) := by
  simp only [State.mapWritten, hact, if_true, hk]

theorem State.mapWritten_mark {w : WrittenReport} {a : Anchor} {n : Nat} (hact : (s.reel t).state = .active) (hk : w.kind = .fileMark) :
    s.mapWritten t w a n =
      (s.setEod t (w.block + 1)).fileStep t w.block w.file w.start a n (w.readBack = .good && !w.endedEarly) := by
  simp only [State.mapWritten, hact, if_true, hk]

/-- A FILE entry behind every other block (R95, R97). -/
theorem fileEntries_last {es : List Entry} {e : Entry} {m : Nat} (h : ∀ g ∈ es, g.block < e.block) : fileEntries es e m =
    es.filter (fun g => !(g.mark = 50000 + m && g.kind = .file) && g.position < e.position) ++ [e] := by
  rw [fileEntries]
  congr 1
  · refine List.filter_congr fun g hg => ?_
    simp [h g hg]
  · congr 1
    rw [List.filter_eq_nil_iff]
    intro g hg
    have := h g hg
    simp
    omega

/-- The map after the report of a file mark whose FILE entry is made (R107, R113). -/
theorem State.mapWritten_enters {q : Reckoning} (hport : (s.tr t).port.pointer = .inFlight) (hact : (s.reel t).state = .active)
    (hk : f.kind = .fileMark) (hbelow : ∀ g ∈ (s.reel t).entries, g.block < f.block) (hauto : (s.reel t).autoFile = true)
    (hfile : f.file ≤ 15535) (hlast : f.block < 16777215) (hgood : f.readBack = .good) (hfill : f.fill = false) (hcut : f.cut = false)
    (ha : q.anchor ≠ .lost) (hpool : 1 ≤ s.store.poolFree) (hroom : (s.reel t).entries.length < 1024) (hstart : 0 ≤ f.start) :
    ∃ n es, es = fileEntries (s.reel t).entries (fileEntryOf f.block f.file f.start q.anchor q.drift n) f.file ∧
      es.length ≤ (s.reel t).entries.length + 1 ∧
      s.mapWritten t (f.report f.readBack) q.anchor q.drift = (s.setTr t { s.tr t with
        port := { (s.tr t).port with
          indicators := if es.length ≠ (s.reel t).entries.length + 1 then (s.tr t).port.indicators ||| 4#16
            else (s.tr t).port.indicators } }).setReel t { s.reel t with entries := es, eod := some (f.block + 1) } := by
  have hsound : ((f.report f.readBack).readBack = .good && !(f.report f.readBack).endedEarly) = true := by
    simp [Formation.report, Formation.endedEarly, hgood, hfill, hcut]
  have hset := State.setEod_behind hport hbelow
  have hreel : (s.setReel t { s.reel t with eod := some (f.block + 1) }).reel t = { s.reel t with eod := some (f.block + 1) } := by simp
  have hpool' : (s.setReel t { s.reel t with eod := some (f.block + 1) }).store.poolFree = s.store.poolFree := by
    change s.store.poolFree + (s.reel t).entries.length - (s.reel t).entries.length = _
    omega
  obtain ⟨n, es, hes, hshort, hstep⟩ := State.fileStep_makes (s := s.setReel t { s.reel t with eod := some (f.block + 1) }) (t := t)
    (b := f.block) (f := f.file) (start := f.start) (anchor := q.anchor) (bound := q.drift) (by rw [hreel]; exact hact)
    (by rw [hreel]; exact hauto) (by rw [hreel]; exact fun g hg => Nat.ne_of_lt (hbelow g hg)) hfile (by omega)
    (by rw [hreel]; simp) ha (by rw [hpool']; exact hpool) (by rw [hreel]; exact hroom) hstart
  rw [hreel] at hes hshort hstep
  refine ⟨n, es, hes, hshort, ?_⟩
  rw [State.mapWritten_mark hact hk, hsound]
  change (s.setEod t (f.block + 1)).fileStep t f.block f.file f.start q.anchor q.drift true = _
  rw [hset, hstep, State.setReel_setEntries (r := { s.reel t with eod := some (f.block + 1) })
      (Nat.le_refl (s.reel t).entries.length), State.modPort_setTr, State.tr_setReel, State.setTr_setReel,
    Port.raisedIf_mapChanged hport]
  simp only [decide_eq_true_eq]

/-- The map after the report of a file mark that makes no entry (R107, R114). -/
theorem State.mapWritten_refuses {q : Reckoning} (hport : (s.tr t).port.pointer = .inFlight) (hact : (s.reel t).state = .active)
    (hk : f.kind = .fileMark) (hbelow : ∀ g ∈ (s.reel t).entries, g.block < f.block) (hauto : (s.reel t).autoFile = true)
    (h : f.readBack ≠ .good ∨ q.anchor = .lost ∨ 15535 < f.file) :
    s.mapWritten t (f.report f.readBack) q.anchor q.drift = (s.setTr t { s.tr t with
      port := { (s.tr t).port with indicators := (s.tr t).port.indicators ||| 8#16 } }).setReel t
        { s.reel t with eod := some (f.block + 1) } := by
  have hset := State.setEod_behind hport hbelow
  have hreel : (s.setReel t { s.reel t with eod := some (f.block + 1) }).reel t = { s.reel t with eod := some (f.block + 1) } := by simp
  have hno : ((f.report f.readBack).readBack = .good && !(f.report f.readBack).endedEarly) = false ∨ q.anchor = .lost ∨
      15535 < f.file ∨ (((s.setReel t { s.reel t with eod := some (f.block + 1) }).reel t).eod.any fun n => n ≤ f.block) = true := by
    obtain h | h | h := h
    · exact .inl (by simp [Formation.report, h])
    · exact .inr (.inl h)
    · exact .inr (.inr (.inl h))
  rw [State.mapWritten_mark hact hk]
  change (s.setEod t (f.block + 1)).fileStep t f.block f.file f.start q.anchor q.drift _ = _
  rw [hset, State.fileStep_refuses (by rw [hreel]; exact hact) (by rw [hreel]; exact hauto)
    (by rw [hreel]; exact fun g hg => Nat.ne_of_lt (hbelow g hg)) hno]
  simp only [State.raiseInd, State.modPort_setTr, State.tr_setReel, State.setTr_setReel, Port.raiseInd, hport, if_true]
  rfl

end

/-- Settles O50, by what the report makes of the map (`State.mapWritten_data`, `_enters`, `_refuses`) and `exec_reports`. -/
theorem writingSteps : Obligations.WritingSteps := by
  intro s t f hp hs hf
  refine ⟨fun hactivity hphase hdue => ?_, fun hphase hsteps => ?_,
    fun n hphase hsteps hfill hcut hx hd hk hh hw hact hkind hfile ho hbytes => ?_,
    fun hphase hsteps hfill hcut hx hd hk hh hw hact hkind ho hbelow hauto hfile hlast hgood ha hpool hroom hstart => ?_,
    fun hphase hsteps hfill hcut hx hd hk hh hw hact hkind ho hbelow hauto hfile hno => ?_⟩
  · refine exec_becomes (f := fun s => s.doFormation t) rfl hp ?_ (State.settled_iff.mp hs).congr
    have hnow : (s.tr t).formationDue = true := by simp [Transport.formationDue, hactivity, hf, hphase, hdue]
    simp only [State.doFormation, hnow, if_true, State.modTr_setTr, Transport.beginForming, Channel.setActivity, hf, Option.map_some]
    rfl
  · refine exec_becomes (f := fun s => s.doPostamble t) rfl hp ?_ (State.settled_iff.mp hs).congr
    have hnow : (s.tr t).chan.postambleDue = true := by simp [Channel.postambleDue, hf, hphase, hsteps]
    simp only [State.doPostamble, hnow, if_true, State.modChan_setTr, Channel.postambleComplete, Channel.setActivity, hf, Option.map_some]
    rfl
  · have hcount : transferCount (s.tr t) = (s.tr t).xfer.resultBytes := by simp [transferCount, ho]
    have hreck := Reckoning.written_report (q := (s.tr t).reck) (f := f) (by rw [hkind]; simpa using hfile)
    obtain ⟨s', hx, hended⟩ := exec_reports (R := (s.reel t).endsAt (f.block + 1)) hp hw ⟨hf, hphase, hsteps, hfill, hcut, hx, hd, hk, hh⟩
      ((State.mapWritten_data (by rw [State.reel_setTr]; exact hact) hkind).trans
        ((State.setEod_eq (by rw [State.tr_setTr_same]; exact hw.1)).trans
          (by rw [State.tr_setTr_same, State.setTr_setTr, State.reel_setTr]; rfl))) (by rw [hcount]; exact hbytes)
    obtain ⟨honly, hexch, hreel, hpool, hreck', hhold, hxfer, hform, hterm⟩ := hended
    have hle : ((s.reel t).endsAt (f.block + 1)).entries.length ≤ (s.reel t).entries.length := List.length_filter_le _ _
    refine ⟨s', hx, honly, hexch, hreel, by rw [hreel]; omega, hreck'.trans (hreck.trans (by rw [hkind]; rfl)), hhold, hxfer, hform, ?_⟩
    have hvalue := lastBlockStart_written (f := f) (s.tr t).reck
    exact hvalue ▸ hcount ▸ hterm
  · have hcount : transferCount (s.tr t) = 0 := by simp [transferCount, ho]
    have hreck := Reckoning.written_report (q := (s.tr t).reck) (f := f) (by rw [hkind]; simp; omega)
    obtain ⟨n, es, hes, hshort, hmap⟩ := State.mapWritten_enters (s := s.setTr t ((s.tr t).reported f)) (q := (s.tr t).reck) (f := f)
      (by rw [State.tr_setTr_same]; exact hw.1) (by rw [State.reel_setTr]; exact hact) hkind (by rw [State.reel_setTr]; exact hbelow)
      (by rw [State.reel_setTr]; exact hauto) hfile hlast hgood hfill hcut ha hpool (by rw [State.reel_setTr]; exact hroom) hstart
    rw [State.reel_setTr] at hes hshort
    rw [State.reel_setTr, State.tr_setTr_same, State.setTr_setTr] at hmap
    obtain ⟨s', hx, hended⟩ := exec_reports (R := { s.reel t with entries := es, eod := some (f.block + 1) }) hp hw
      ⟨hf, hphase, hsteps, hfill, hcut, hx, hd, hk, hh⟩ hmap (by rw [hcount]; omega)
    obtain ⟨honly, hexch, hreel, hpool', hreck', hhold, hxfer, hform, hterm⟩ := hended
    refine ⟨s', hx, honly, hexch, ⟨n, ?_⟩, ?_, hreck'.trans (hreck.trans (by rw [hkind]; rfl)), hhold, hxfer, hform, ?_⟩
    · rw [hreel, hes, fileEntries_last hbelow]
      rfl
    · rw [hreel, hpool']
      change s.store.poolFree + (s.reel t).entries.length - es.length + es.length = _
      omega
    · have hvalue := (lastBlockStart_written (f := f) (s.tr t).reck).trans (if_neg ha)
      rw [hreel]
      rw [if_pos hgood] at hterm
      exact hvalue ▸ hcount ▸ hterm
  · have hcount : transferCount (s.tr t) = 0 := by simp [transferCount, ho]
    have hreck := Reckoning.written_report (q := (s.tr t).reck) (f := f) (by rw [hkind]; simpa using hfile)
    have hmap := State.mapWritten_refuses (s := s.setTr t ((s.tr t).reported f)) (q := (s.tr t).reck) (f := f)
      (by rw [State.tr_setTr_same]; exact hw.1) (by rw [State.reel_setTr]; exact hact) hkind (by rw [State.reel_setTr]; exact hbelow)
      (by rw [State.reel_setTr]; exact hauto) hno
    rw [State.reel_setTr, State.tr_setTr_same, State.setTr_setTr] at hmap
    obtain ⟨s', hx, hended⟩ := exec_reports (R := { s.reel t with eod := some (f.block + 1) }) hp hw
      ⟨hf, hphase, hsteps, hfill, hcut, hx, hd, hk, hh⟩ hmap (by rw [hcount]; omega)
    obtain ⟨honly, hexch, hreel, hpool, hreck', hhold, hxfer, hform, hterm⟩ := hended
    have hvalue := lastBlockStart_written (f := f) (s.tr t).reck
    exact ⟨s', hx, honly, hexch, hreel, hpool.trans (Nat.add_sub_cancel _ _), hreck'.trans (hreck.trans (by rw [hkind]; rfl)), hhold, hxfer,
      hform, hvalue ▸ hcount ▸ hterm⟩

end Sys2Proof.Machine
end
